-- ==== Sys2Proof/Word.lean ====
section
/-!
DEFINITION. The words of the block: bytes, 16-bit addresses and 32-bit register words (spec/00_scope.md R5).
-/

namespace Sys2Proof

/-- A byte. -/
abbrev Byte := BitVec 8

/-- A register address: page in the high byte, offset in the low byte (18 R461). -/
abbrev Addr := BitVec 16

/-- A register word. -/
abbrev Word := BitVec 32

end Sys2Proof
end

