-- ==== Sys2Proof/Syntax.lean ====
section
/-!
DEFINITION. The commands of the block: one constructor for each row of spec/opcode_table.json, with the
operands that the rule of the row names. What the analogue world, the pins, the host or another device of the
cascade brings is an operand.
-/

namespace Sys2Proof

/-- Who presents a register write to the fabric (01 R27). -/
inductive Requester where
  | power | collector | host | twoWire | link
  | engine (e : Fin 32)
  deriving DecidableEq, Repr

/-- The strap balls as the board ties them; `none` is a multi-level strap between two levels (02 R43, R44).
`lfGnd`: LFXI is tied to GND (02 R57). -/
structure StrapPins where
  root : Bool
  apron : Bool
  testen : Bool
  addr : Option (Fin 4)
  bootsel : Option (Fin 6)
  lfGnd : Bool
  deriving DecidableEq, Repr

/-- Bits of the store that have flipped since the lines were programmed (03 R73, R74): the lines in which a word has one
wrong bit, and those in which a word has two. -/
structure BitErrors where
  one : List Nat
  two : List Nat
  deriving DecidableEq, Repr

/-- A read of the store by a command: its key, and the bits that have flipped since (03 R81). -/
structure NvsAccess where
  key : BitVec 16
  flips : BitErrors
  deriving DecidableEq, Repr

/-- Where a blanking input asserts: during a transition of the lines, and the AFECLK cycles since FRAME_START (04 R114, R115). -/
structure BlankAt where
  inTransition : Bool
  at_ : Nat
  deriving DecidableEq, Repr

/-- What a member's list tells besides its records: how many it dropped, whether the member holds a SUSPECT node, and whether
one of its channels carries OVL (14 R374; 08 R222; log 34). -/
structure ListRest where
  dropped : Nat
  suspect : Bool
  ovl : Bool
  deriving DecidableEq, Repr

/-- The steps of a lockout shutdown (02 R53, R54): the lockout is detected; FAULT is asserted and the ports are released (its
step 4); the device goes OFF, with the supply held up until a running line program was complete, or not. -/
inductive LockoutStep where
  | detected
  | released
  | off (held : Bool)
  deriving DecidableEq, Repr

/-- The phase in which HCSn rises and cuts a host transaction (12 R323). -/
inductive CutTransaction where
  | header
  | write (addr : Addr) (data : List Byte)
  | read (addr : Addr) (n : Nat) (hsckKHz : Nat) (late : Nat)
  | status (n : Nat)
  deriving DecidableEq, Repr

/-- What the governor monitor measured over the frame that ends: input power in mW, VIN in 10 mV, IIN in 100 µA,
and the four die sensors in 0.0625 °C (16 R424). -/
structure GovMeas where
  pmw : Nat
  vin : Nat
  iin : Nat
  temps : List Int
  deriving DecidableEq, Repr

/-- An FPARAM packet (14 R368): the counter and ROOT's TB of the coming FRAME_START; ROOT's operating point; the scan table, frequency index, VTX code, K,
repetitions, frame-rate divider and settling count in force; the kind of test frame (17 R447); DRIVE, SCAN and NOISE
fields by key; the masks of lost and shadowed positions, and of the drive lines that a TXFLT bit masks (R370). Table 4 is
the built-in table. -/
structure Fparam where
  frame : BitVec 16
  tb : Nat
  point : Nat
  table : Nat
  fidx : Nat
  vtx : Nat
  k : Nat
  reps : Nat
  fdiv : Nat
  settle : Nat
  test : Nat
  fields : List (Nat × Nat)
  lost : List Nat
  shadow : List Nat
  flt : List Nat
  deriving DecidableEq, Repr

/-- A sub-blob as a member's list carries it (14 R374). Besides the fields of the record, the model's list tells what ROOT
needs of the sub-blob and no field carries: whether it holds SUSPECT nodes, whether its seed carries FAST, which blob it
lies in, that blob's own nodes, and its on nodes in the columns at the boundaries (08 R204, R212, R224; log 34). -/
structure SubRec where
  seedD : Nat
  seedC : Nat
  n : Nat
  p : Nat
  sw : Nat
  sg : Nat
  swc : Nat
  swd : Nat
  sself : Nat
  flags : Nat
  suspect : Bool
  fast : Bool
  blob : Nat × Nat
  blobN : Nat
  reach : List (Nat × Nat)
  deriving DecidableEq, Repr

/-- What a received link packet carries besides the packets that have a row of their own (14 R360, R372). -/
inductive Packet where
  | configAck (pos : Fin 8)
  | fparamAck (pos : Fin 8) (flt : List Nat) (down upOk : Bool)
  | abandon (frame : Nat)
  | listen (pos : Fin 8) (frame : BitVec 16) (m : List (Nat × Nat))
  | q2 (pos : Fin 8) (frame : BitVec 16) (vals : List (Nat × Nat))
  | event (type src p0 p1 p2 flags : Nat)
  | remoteDone (pos : Fin 8) (data : Word)
  | suspects (pos : Fin 8) (nodes : List (Nat × Nat))
  | verdict (unions : List (List (Nat × Nat)))
  | lift (nodes : List (Nat × Nat))
  | stale (parts : List (Nat × Nat × Nat))
  | captureCheck
  | captureResult (pos : Fin 8) (order : Nat)
  | captureVerdict (order : Nat)
  | captureDone (pos : Fin 8) (result : Nat)
  | blanking
  | power (retain : Bool)
  | powerStopped (pos : Fin 8)
  | powerAbort (pos : Fin 8)
  | ring (closed : Bool)
  | access (op : Fin 4) (addr : BitVec 16) (data : Word) (all : Bool)
  | other (dest : Fin 8)
  deriving DecidableEq, Repr

/-- What a port receives besides its own rows: an intact packet; one discarded for a code or disparity error, or for its
CRC (14 R361). -/
inductive Rx where
  | good (p : Packet)
  | code
  | crc
  deriving DecidableEq, Repr

/-- The steps of discovery at ROOT (14 R362): training starts; the ports are up and ENUM is sent; a member answers, with
over ROOT's UP or DN port and so many hops away, with its pins whose DRIVE.TXEN bit is 0 and whether it has kept its baselines
through a sleep; every configured device is locked. -/
inductive DiscStep where
  | start
  | enumerate
  | reach (viaUp : Bool) (hops : Fin 8) (off : List Nat) (retained : Bool)
  | done
  deriving DecidableEq, Repr

/-- What CONFIG carries to a member (14 R362): the map, its position, every drive line whose DRIVE.TXEN bit is 0 by global
index, ROOT's four scan tables and ROOT's TB; with them whether the ring is closed, and whether the cascade acquires
(16 R414; log 114). -/
structure LinkConfig where
  map : List (Nat × Nat)
  pos : Nat
  off : List Nat
  tables : List (List Nat)
  tb : Nat
  ring : Bool
  acquire : Bool
  deriving DecidableEq, Repr

/-- A target transaction as far as its bytes were accepted or delivered (13 R343, R344): the acknowledged bytes after a
write address, page and offset first, or the number of bytes delivered after a read address. -/
inductive TwiTx where
  | address
  | write (bytes : List Byte)
  | read (n : Nat)
  deriving DecidableEq, Repr

/-- How a controller transfer ends on the bus (13 R351 to R353): complete, with the bytes read; a NAK of the address; a
NAK of a data byte after `n` bytes; SCL held, or SDA stuck, beyond the limit after the bytes `moved`; no bus join within the limit. -/
inductive TwiEnd where
  | done (data : List Byte)
  | addrNak
  | dataNak (n : Nat)
  | stuck (moved : List Byte)
  | noJoin
  deriving DecidableEq, Repr

/-- The mode nibbles and operand fields of one Frarid-8 instruction (10 R263): the nibbles of the destination and
of the sources a and b, the nibble that must be 0, and the operand fields. -/
structure Enc where
  dm : BitVec 4
  am : BitVec 4
  bm : BitVec 4
  rsv : BitVec 4
  d : BitVec 16
  a : BitVec 16
  b : BitVec 16
  deriving DecidableEq, Repr

/-- What comes over a port of the link: port UP or DN, and what it brings (14 R360). -/
structure Arrival (α : Type) where
  port : Fin 2
  what : α
  deriving DecidableEq, Repr

/-- The commands of the block, one for each row of spec/opcode_table.json. -/
inductive Instr where
  /-- POWER_ON (03 R65): VIN rises above the rising undervoltage threshold below the falling overvoltage threshold and the device leaves OFF, ramps its rails and starts the boot sequence. -/
  | powerOn (vio : Bool) (pins : StrapPins)
  /-- BOOT_SEQUENCE (03 R65): After any reset the device runs bank selection, verification, RAM load, calibration load, discovery and acquisition, and ends in SCAN, WATCH or the loader state. -/
  | bootSequence
  /-- CRYSTAL_RESTART (02 R52): If the 24 MHz oscillator has no amplitude 10 ms after rail good, PD1 to PD5 are held in reset and the oscillator is restarted every 100 ms. -/
  | crystalRestart (amplitude : Bool)
  /-- LOCKOUT_SHUTDOWN (02 R53): VIN crosses the falling undervoltage or rising overvoltage threshold, and the device stops drive, parks outputs, finishes the running store line and goes OFF. -/
  | lockoutShutdown (step : LockoutStep)
  /-- RESETN_RESET (02 R40): A filtered low pulse on RESETn resets the device and restarts the boot sequence. -/
  | resetnReset (ns : Nat) (pins : StrapPins)
  /-- RSTCMD_RESET (03 R63): A keyed write of DEVICE.RSTCMD.GO resets the device, and a wrong key is ignored and sets WRERR. -/
  | rstcmdReset (req : Requester) (go : Bool) (key : BitVec 16)
  /-- LINK_RESET (03 R63): A reset received from ROOT over the Halgon link resets the member and sets RSTCAUSE.LINK. -/
  | linkReset
  /-- VIO_LOSS (02 R51): VIO falls below its good threshold while running, so the host-side pins go high-impedance, scanning continues and VIO_LOSS is raised. -/
  | vioLoss
  /-- VIO_RETURN (02 R51): VIO becomes good again and the host-side pins resume their functions without re-sampling the straps. -/
  | vioReturn (pins : StrapPins)
  /-- CLK_LOSS (02 R52): Loss of REFCLK in RUN is detected within 20 µs, and the device raises CRITICAL CLK_LOSS. -/
  | clkLoss
  /-- THERMAL (02 R61): A die sensor reaches the thermal shutdown threshold, and the device raises CRITICAL THERMAL. -/
  | thermal (sensor : Fin 4)
  /-- LF_CRYSTAL_FAIL (16 R420): The LF crystal stops, and LFCLK switches to the internal oscillator within 4 cycles. -/
  | lfCrystalFail
  /-- LF_CRYSTAL_STABLE (02 R51): The 32.768 kHz crystal becomes stable, and AON switches over to it from the internal oscillator. -/
  | lfCrystalStable
  /-- REGISTER_WRITE (00 R9): A write commits through the fabric to a register with no row of its own, and each field accepts or rejects its value under its class. -/
  | registerWrite (req : Requester) (addr : Addr) (word : Word)
  /-- FRAME_START (01 R29): The frame period expires, or SYNC marks it in a cascade, and the device advances the frame counter, samples F-class fields, applies the operating point and excitation changes, swaps buffers, loads FRAME-strobed outputs and starts the sequencers. -/
  | frameStart (dt : Nat) (meas : GovMeas)
  /-- VTX_GOOD (04 R90): VTX has stayed within the accuracy band of its target, or of its dropout level, for 20 µs, and is declared good. -/
  | vtxGood (at_ : Nat) (dropout : Bool)
  /-- VTX_FAULT (04 R92): VTX is still more than 10 % below its target 2 ms into a ramp without dropout, and a CRITICAL VTX_FAULT is raised. -/
  | vtxFault
  /-- COMPENSATION_SEQUENCE_READY (05 R130): The generator finishes building a burst's compensation sequence, and a burst waiting in a compensation gap may begin. -/
  | compensationSequenceReady (at_ : Nat)
  /-- LISTEN_WINDOW_END (06 R155): A listen window ends, and the device computes its noise measurement or discards it, then starts the next window or word. -/
  | listenWindowEnd (powers : List Nat)
  /-- CHIP_END (04 R109): A chip of a mutual burst ends, and its quadrature noise is measured and the emergency-hop condition is evaluated. -/
  | chipEnd (powers : List Nat)
  /-- BURST_END (04 R107): The last chip of a burst ends, the decoder writes node values and the next scan word starts. -/
  | burstEnd (residuals : List (List Int))
  /-- SELF_PASS_END (06 R152): A SELF pass ends after TIME × 8 µs, and unfinished conversions read 0xFFFF. -/
  | selfPassEnd (caps : List Nat)
  /-- TEST_PASS_END (06 R153): A TEST pass ends, and its counts are staged for the test strip. -/
  | testPassEnd (caps : List Nat)
  /-- WAIT_END (06 R151): A WAIT word's idle time expires, and the next word starts. -/
  | waitEnd
  /-- SCAN_END (04 R107): 12 µs after the last conversion the scan phase ends, self and test counts are copied and noise figures are updated. -/
  | scanEnd
  /-- BLANK_ASSERT (04 R114): An enabled blanking input asserts, and integration, excitation, noise sampling or the next transfer freezes. -/
  | blankAssert (input : Fin 2) (level : Bool) (place : BlankAt)
  /-- BLANK_RELEASE (04 R115): Blanking releases, the frozen chip or conversion resumes, or is voided and repeated if the interval exceeded LIM or froze a transition. -/
  | blankRelease (input : Fin 2) (level : Bool) (us : Nat)
  /-- BLANKING_LIMIT (04 R115): A blanking interval passes DRIVE.BLANK.LIM, so the affected chip or conversion is voided, or in a cascade ROOT abandons the frame. -/
  | blankingLimit
  /-- TX_SHORT (04 R97): A TX driver stays in current limit for 2 µs, so the line is driven low, masked in TXFLT and TX_SHORT is raised. -/
  | txShort (pin : Fin 160)
  /-- TXFLT_UNMASK (04 R119): Writing 1 to a DRIVE.TXFLT bit unmasks the line from the next FRAME_START. -/
  | txfltUnmask (req : Requester) (i : Fin 5) (bits : Word)
  /-- DISPATCH (09 R236): Once SCAN_END, the cuff columns and the previous frame's REPORT are complete, the dispatcher posts wave 1 of the frame and withdraws late wave-10 tasks. -/
  | dispatch
  /-- WAVE_POST (09 R235): Within 1 µs of the last TDONE of a wave, the dispatcher posts the next non-empty wave of the frame. -/
  | wavePost
  /-- TASK_POST (09 R240): The dispatcher writes a descriptor into the tail slot of an active engine's queue, advances TAIL and rings every doorbell, after waiting for room if needed. -/
  | taskPost
  /-- WAVE_TIMEOUT (09 R248): A wave still incomplete WAVETMO × 100 µs after posting abandons its frame, raises WAVE_TIMEOUT and clears stale slots. -/
  | waveTimeout
  /-- PARK_LATE (09 R246): An engine still unparked 2 ms after its park request counts PARKLATE and raises PARK_LATE. -/
  | parkLate (e : Fin 32)
  /-- ENG_EXHAUSTED (09 R234): Fewer than 4 unstopped engines remain, and a CRITICAL ENG_EXHAUSTED is raised. -/
  | engExhausted
  /-- TILE_A (07 R169): A tile task runs baseline subtraction and update, and the temporal filter, over its nodes. -/
  | tileA (e q : Fin 32)
  /-- TILE_B (08 R199): A tile task runs the spatial filter and thresholding with hysteresis over its nodes. -/
  | tileB (e q : Fin 32)
  /-- EXTRACT (08 R202): A slice task segments its on nodes into blobs and sub-blobs and forms their moment sums. -/
  | extract (e q : Fin 32)
  /-- TRACK (08 R211): The TRACK task merges boundary sub-blobs, classifies, centroids and matches sub-blobs to tracks, starting, coasting and ending tracks. -/
  | track (e q : Fin 32)
  /-- REPORT (08 R221): The REPORT task recognises gestures, evaluates virtual controls and builds the frame's Q0 report and Q1 events. -/
  | report (e q : Fin 32) (us : BitVec 16)
  /-- HOUSE (09 R235): A housekeeping task prepares Q2 planes, keeps self-count baselines and collects statistics. -/
  | house (e q : Fin 32)
  /-- EXTENSION_TASK (09 R251): An extension entry runs at its hook under XMODE with its granules and restricted writes. -/
  | extensionTask (e q : Fin 32)
  /-- ACQUISITION (07 R176): Eight acquisition frames build the acquired image A, with bootstrap frames dropped and OVL reported. -/
  | acquisition (us : Nat)
  /-- ENGINE_TSTART (09 R233): A write to TSTART records the staged TID as RUNNING on the engine. -/
  | engineTstart (e : Fin 32)
  /-- ENGINE_TDONE (09 R232): A write to TDONE waits for the write buffer to drain, then ends the task DONE or ABORTED. -/
  | engineTdone (e : Fin 32) (v : Byte)
  /-- ENGINE_SLEEP (09 R245): A write of 0x01 to SLEEP stops the engine until a doorbell or enabled FEVT cause, returning at once if one is latched. -/
  | engineSleep (e : Fin 32)
  /-- ENGINE_PARK (09 R246): A write of 0x02 to SLEEP parks the engine with its clock stopped and state kept. -/
  | enginePark (e : Fin 32)
  /-- ENGINE_WAKE (09 R245): A sleeping or parked engine wakes on a doorbell, an enabled FEVT cause or re-entry to the active set. -/
  | engineWake (e : Fin 32)
  /-- FEVT_CLEAR (09 R233): Writing 1 to an FEVT bit clears that latched frame, abandon or doorbell cause. -/
  | fevtClear (e : Fin 32) (v : Byte)
  /-- WINDOW_SET (09 R230): A write to WINk sets the granule that the window maps, seen from the third following slot. -/
  | windowSet (e : Fin 32) (k : Fin 7) (v : Byte)
  /-- DBGOUT_WRITE (09 R233): A write to DBGOUT pushes a byte into the debug FIFO or counts a drop. -/
  | dbgoutWrite (e : Fin 32) (v : Byte)
  /-- VICTIM_READ (09 R242): A read of VICTIM returns the next engine of the steal round and advances the round. -/
  | victimRead (e : Fin 32)
  /-- INTERRUPT_ENTRY (10 R283): At a permitted boundary a frame or doorbell event drops any reservation, pushes the frame, clears IE and jumps to its vector. -/
  | interruptEntry (e : Fin 32)
  /-- TRAP_ENTRY (10 R286): A trapping instruction records cause and PC, sends ENG_TRAP and enters the trap vector. -/
  | trapEntry (e : Fin 32) (cause : Byte) (nxt : BitVec 16)
  /-- RESERVATION_TIMEOUT (10 R278): A reservation expires 64 ENGCLK cycles after its LDRS. -/
  | reservationTimeout (e : Fin 32)
  /-- RESERVATION_BREAK (10 R278): A write to the reserved line by another requester ends the reservation. -/
  | reservationBreak (requester : Fin 33) (a : BitVec 20) (v : Byte)
  /-- MUL_RESULT (10 R274): The product of MUL, MULS or MAC arrives in MH:ML at slot i + 4. -/
  | mulResult (e : Fin 32)
  /-- DIV_RESULT (10 R276): The quotient and remainder arrive in MQ and MR at slot i + 10. -/
  | divResult (e : Fin 32)
  /-- QUINCE_RESULT (11 R308): A Quince operation writes its whole destination at its latency and clears QBUSY. -/
  | quinceResult (e : Fin 32)
  /-- SLOE_RESULT (11 R311): A Sloe operation completes at cycle tS, and its destination is written and SBUSY clears. -/
  | sloeResult (e : Fin 32)
  /-- ADD (11 R296): d = a + b with Add flags. -/
  | isaAdd (e : Fin 32) (w : Enc)
  /-- ADDC (11 R296): d = a + b + C with Add flags. -/
  | isaAddc (e : Fin 32) (w : Enc)
  /-- SUB (11 R296): d = a − b with Sub flags. -/
  | isaSub (e : Fin 32) (w : Enc)
  /-- SUBC (11 R296): d = a − b − C with chained Z. -/
  | isaSubc (e : Fin 32) (w : Enc)
  /-- AND (11 R296): d = a AND b. -/
  | isaAnd (e : Fin 32) (w : Enc)
  /-- OR (11 R296): d = a OR b. -/
  | isaOr (e : Fin 32) (w : Enc)
  /-- XOR (11 R296): d = a XOR b. -/
  | isaXor (e : Fin 32) (w : Enc)
  /-- ANDN (11 R296): d = a AND NOT b. -/
  | isaAndn (e : Fin 32) (w : Enc)
  /-- MIN (11 R296): d = unsigned minimum of a and b. -/
  | isaMin (e : Fin 32) (w : Enc)
  /-- MAX (11 R296): d = unsigned maximum of a and b. -/
  | isaMax (e : Fin 32) (w : Enc)
  /-- MINS (11 R296): d = signed minimum of a and b. -/
  | isaMins (e : Fin 32) (w : Enc)
  /-- MAXS (11 R296): d = signed maximum of a and b. -/
  | isaMaxs (e : Fin 32) (w : Enc)
  /-- ADDS (11 R296): Signed saturating addition. -/
  | isaAdds (e : Fin 32) (w : Enc)
  /-- SUBS (11 R296): Signed saturating subtraction. -/
  | isaSubs (e : Fin 32) (w : Enc)
  /-- ADDUS (11 R296): Unsigned saturating addition. -/
  | isaAddus (e : Fin 32) (w : Enc)
  /-- SUBUS (11 R296): Unsigned saturating subtraction. -/
  | isaSubus (e : Fin 32) (w : Enc)
  /-- MUL (10 R274): Starts an unsigned 8 × 8 multiply into MH:ML. -/
  | isaMul (e : Fin 32) (w : Enc)
  /-- MULS (10 R274): Starts a signed 8 × 8 multiply into MH:ML. -/
  | isaMuls (e : Fin 32) (w : Enc)
  /-- MAC (10 R275): Starts a signed multiply-accumulate into MH:ML. -/
  | isaMac (e : Fin 32) (w : Enc)
  /-- DIV (10 R276): Starts an unsigned divide, sets DZ and V at issue, and cancels any pending divide. -/
  | isaDiv (e : Fin 32) (w : Enc)
  /-- DIVS (10 R276): Starts a signed divide, sets DZ and V at issue, and cancels any pending divide. -/
  | isaDivs (e : Fin 32) (w : Enc)
  /-- ABSD (11 R296): d = |a − b| for unsigned inputs. -/
  | isaAbsd (e : Fin 32) (w : Enc)
  /-- ABSDS (11 R296): d = |a − b| for signed inputs. -/
  | isaAbsds (e : Fin 32) (w : Enc)
  /-- AVG (11 R296): d = (a + b + 1) >> 1. -/
  | isaAvg (e : Fin 32) (w : Enc)
  /-- MOV (11 R298): d = a. -/
  | isaMov (e : Fin 32) (w : Enc)
  /-- NOT (11 R298): d = NOT a. -/
  | isaNot (e : Fin 32) (w : Enc)
  /-- NEG (11 R298): d = 0 − a. -/
  | isaNeg (e : Fin 32) (w : Enc)
  /-- ABS (11 R298): d = |a| signed. -/
  | isaAbs (e : Fin 32) (w : Enc)
  /-- INC (11 R298): d = a + 1. -/
  | isaInc (e : Fin 32) (w : Enc)
  /-- DEC (11 R298): d = a − 1. -/
  | isaDec (e : Fin 32) (w : Enc)
  /-- SGN (11 R298): d = sign extension of bit 7 of a. -/
  | isaSgn (e : Fin 32) (w : Enc)
  /-- SWAP (11 R298): d = a with its nibbles exchanged. -/
  | isaSwap (e : Fin 32) (w : Enc)
  /-- CLZ (11 R298): d = leading zero count of a. -/
  | isaClz (e : Fin 32) (w : Enc)
  /-- POPC (11 R298): d = count of one bits of a. -/
  | isaPopc (e : Fin 32) (w : Enc)
  /-- LDI (11 R298): d = a byte of instruction space. -/
  | isaLdi (e : Fin 32) (w : Enc)
  /-- CMP (11 R298): Sets flags from a − b. -/
  | isaCmp (e : Fin 32) (w : Enc)
  /-- CMPC (11 R298): Sets flags from a − b − C with chained Z. -/
  | isaCmpc (e : Fin 32) (w : Enc)
  /-- TST (11 R298): Sets flags from a AND b. -/
  | isaTst (e : Fin 32) (w : Enc)
  /-- PUSH (11 R299): Decrements SP and stores a on the stack. -/
  | isaPush (e : Fin 32) (w : Enc)
  /-- POP (11 R299): Loads d from the stack and increments SP. -/
  | isaPop (e : Fin 32) (w : Enc)
  /-- SHL (11 R300): Logical shift left by b. -/
  | isaShl (e : Fin 32) (w : Enc)
  /-- SHR (11 R300): Logical shift right by b. -/
  | isaShr (e : Fin 32) (w : Enc)
  /-- SAR (11 R300): Arithmetic shift right by b. -/
  | isaSar (e : Fin 32) (w : Enc)
  /-- ROL (11 R300): Rotate left by b mod 8. -/
  | isaRol (e : Fin 32) (w : Enc)
  /-- ROR (11 R300): Rotate right by b mod 8. -/
  | isaRor (e : Fin 32) (w : Enc)
  /-- RLC (11 R300): Rotate left through carry by b mod 9. -/
  | isaRlc (e : Fin 32) (w : Enc)
  /-- RRC (11 R300): Rotate right through carry by b mod 9. -/
  | isaRrc (e : Fin 32) (w : Enc)
  /-- JMP (11 R302): Continues at the target after the delay slot. -/
  | isaJmp (e : Fin 32) (w : Enc)
  /-- CALL (11 R302): Pushes the return address and continues at the target. -/
  | isaCall (e : Fin 32) (w : Enc)
  /-- RET (11 R302): Pops the return address and continues there. -/
  | isaRet (e : Fin 32) (w : Enc)
  /-- RETI (10 R284): Pops the interrupt frame and restores FL, RC and PC, resuming an interrupted REPI. -/
  | isaReti (e : Fin 32) (w : Enc)
  /-- BZ (11 R303): Branches if Z = 1. -/
  | isaBz (e : Fin 32) (w : Enc)
  /-- BNZ (11 R303): Branches if Z = 0. -/
  | isaBnz (e : Fin 32) (w : Enc)
  /-- BC (11 R303): Branches if C = 1. -/
  | isaBc (e : Fin 32) (w : Enc)
  /-- BNC (11 R303): Branches if C = 0. -/
  | isaBnc (e : Fin 32) (w : Enc)
  /-- BN (11 R303): Branches if N = 1. -/
  | isaBn (e : Fin 32) (w : Enc)
  /-- BNN (11 R303): Branches if N = 0. -/
  | isaBnn (e : Fin 32) (w : Enc)
  /-- BV (11 R303): Branches if V = 1. -/
  | isaBv (e : Fin 32) (w : Enc)
  /-- BNV (11 R303): Branches if V = 0. -/
  | isaBnv (e : Fin 32) (w : Enc)
  /-- BHI (11 R303): Branches if C = 0 and Z = 0. -/
  | isaBhi (e : Fin 32) (w : Enc)
  /-- BLS (11 R303): Branches if C = 1 or Z = 1. -/
  | isaBls (e : Fin 32) (w : Enc)
  /-- BLT (11 R303): Branches if N ≠ V. -/
  | isaBlt (e : Fin 32) (w : Enc)
  /-- BGE (11 R303): Branches if N = V. -/
  | isaBge (e : Fin 32) (w : Enc)
  /-- BGT (11 R303): Branches if Z = 0 and N = V. -/
  | isaBgt (e : Fin 32) (w : Enc)
  /-- BLE (11 R303): Branches if Z = 1 or N ≠ V. -/
  | isaBle (e : Fin 32) (w : Enc)
  /-- DBX (11 R304): Decrements X and branches if the new X is non-zero. -/
  | isaDbx (e : Fin 32) (w : Enc)
  /-- NOP (11 R305): Does nothing. -/
  | isaNop (e : Fin 32) (w : Enc)
  /-- IN (10 R260): Reads a byte from an engine-local port or a register page. -/
  | isaIn (e : Fin 32) (w : Enc)
  /-- OUT (10 R260): Writes a byte to an engine-local port or a register page. -/
  | isaOut (e : Fin 32) (w : Enc)
  /-- LDRS (10 R277): Reads a frame-memory byte and reserves its 8-byte line. -/
  | isaLdrs (e : Fin 32) (w : Enc)
  /-- STCD (10 R277): Drains the write buffer and stores only if the reservation covers the destination, setting Z and ending the reservation. -/
  | isaStcd (e : Fin 32) (w : Enc)
  /-- REP (10 R271): Repeats the next instruction n times without interruption. -/
  | isaRep (e : Fin 32) (w : Enc)
  /-- REPI (10 R273): Repeats the next instruction n times, interruptible between repetitions. -/
  | isaRepi (e : Fin 32) (w : Enc)
  /-- QDIV (11 R308): Starts a 16-bit unsigned Quince divide. -/
  | isaQdiv (e : Fin 32) (w : Enc)
  /-- QDIVS (11 R308): Starts a 16-bit signed Quince divide. -/
  | isaQdivs (e : Fin 32) (w : Enc)
  /-- QDIVL (11 R308): Starts a 32-by-16-bit Quince divide. -/
  | isaQdivl (e : Fin 32) (w : Enc)
  /-- QSQRT (11 R308): Starts a Quince integer square root. -/
  | isaQsqrt (e : Fin 32) (w : Enc)
  /-- QATAN (11 R308): Starts a Quince atan2 in 1/65,536 turn. -/
  | isaQatan (e : Fin 32) (w : Enc)
  /-- QHYP (11 R308): Starts a Quince hypotenuse. -/
  | isaQhyp (e : Fin 32) (w : Enc)
  /-- SPEAK (11 R310): Starts a Sloe peak search over a rectangle. -/
  | isaSpeak (e : Fin 32) (w : Enc)
  /-- SHIST (11 R310): Starts a Sloe histogram added to the existing counts. -/
  | isaShist (e : Fin 32) (w : Enc)
  /-- SHISTZ (11 R310): Starts a Sloe histogram into zeroed counts. -/
  | isaShistz (e : Fin 32) (w : Enc)
  /-- BRK (11 R306): Halts the engine with BRKEN set, or otherwise traps with cause BRK. -/
  | isaBrk (e : Fin 32) (w : Enc)
  /-- ILLEGAL_OPCODE (11 R291): A reserved opcode traps with ILLOP, or a slot-2 opcode with COP_ABSENT, without effect. -/
  | isaIllegalOpcode (e : Fin 32) (op : Byte)
  /-- ENG_HALT (09 R255): ENGn.CTL.HALT = 1 stops the engine at the next issue boundary outside a REP, and HALT = 0 resumes it. -/
  | engHalt (req : Requester) (e : Fin 32) (on : Bool)
  /-- ENG_STEP (09 R255): ENGn.CTL.STEP issues one instruction of a halted engine. -/
  | engStep (req : Requester) (e : Fin 32)
  /-- ENG_RESTART (09 R255): ENGn.CTL.RESTART restarts a halted or stopped engine at 0x0000, and its held task is LOST. -/
  | engRestart (req : Requester) (e : Fin 32)
  /-- BREAKPOINT_HIT (09 R255): An engine reaching an enabled breakpoint address halts before issuing that instruction. -/
  | breakpointHit (e : Fin 32)
  /-- DMDAT_ACCESS (09 R255): Access to DMDAT reads or writes local RAM at DMAD only while the engine is halted or stopped. -/
  | dmdatAccess (req : Requester) (e : Fin 32) (write : Option Word)
  /-- ENG_DBG_POP (12 R321): A delivered read of ENGn.DBG pops the oldest debug byte. -/
  | engDbgPop (req : Requester) (e : Fin 32)
  /-- HOST_WRITE (12 R320): A WRITE transaction commits each complete register of its data phase in order. -/
  | hostWrite (addr : Addr) (data : List Byte)
  /-- HOST_READ (12 R321): A READ transaction returns the status echo and register snapshots, with pops and consumption on delivery. -/
  | hostRead (addr : Addr) (n : Nat) (hsckKHz : Nat) (late : Nat)
  /-- HOST_STATUS (12 R325): A STATUS transaction repeats a fresh status echo for every byte. -/
  | hostStatus (n : Nat)
  /-- LANE_RESET (12 R317): Eight clocks with HIO0 high restore HOSTPORT.CFG to reset at the rising edge of HCSn. -/
  | laneReset
  /-- BAD_COMMAND (12 R316): A reserved command byte makes the port ignore the transaction and increments BADCMD. -/
  | badCommand (code : Byte)
  /-- TRANSACTION_CUT (12 R323): HCSn rises inside the header or inside a data byte, so the incomplete part has no effect and CUT increments. -/
  | transactionCut (tx : CutTransaction)
  /-- QUEUE_FLUSH (12 R331): QnCTL.FLUSH discards every record that is not open. -/
  | queueFlush (req : Requester) (q : Fin 4)
  /-- QUEUE_SKIP (12 R331): QnCTL.SKIP discards the undelivered rest of the open record. -/
  | queueSkip (req : Requester) (q : Fin 4)
  /-- QUEUE_CNTCLR (12 R330): QUEUE.CNTCLR clears the DROPS counters of the selected queues. -/
  | queueCntclr (req : Requester) (mask : BitVec 4)
  /-- HOSTPORT_ERRCLR (12 R316): HOSTPORT.ERRCLR clears the port error counters. -/
  | hostportErrclr (req : Requester)
  /-- IRQ_PEND_CLEAR (12 R336): Writing 1 to an event bit of IRQ.PEND clears it unless its event arrives in the same cycle. -/
  | irqPendClear (req : Requester) (bits : BitVec 4)
  /-- TWI_BUS_JOIN (13 R342): After SCL and SDA have stayed high for 50 µs, the port joins the bus. -/
  | twiBusJoin
  /-- TWI_TARGET_WRITE (13 R343): A target write transaction loads the pointer from page and offset and writes data bytes, committing at byte 3. -/
  | twiTargetWrite (addr : BitVec 7) (bytes : List Byte)
  /-- TWI_TARGET_READ (13 R344): A target read transaction delivers bytes from the pointer with snapshot rules. -/
  | twiTargetRead (addr : BitVec 7) (n : Nat)
  /-- TWI_GENERAL_CALL (13 R341): With GCEN set, a general call is served as a write transaction unless the page byte is 0x04 or 0x06. -/
  | twiGeneralCall (bytes : List Byte)
  /-- BUSABORT (13 R350): A START or STOP inside a transfer aborts it and discards the held bytes. -/
  | busabort (tx : TwiTx)
  /-- STRETCH_TIMEOUT (13 R349): A stretch reaching the limit releases SCL, then answers NAK or 0xFF. -/
  | stretchTimeout (tx : TwiTx)
  /-- TWI_NOP (13 R351): CCMD NOP starts no transfer. -/
  | twiNop (req : Requester)
  /-- TWI_CTRL_WRITE (13 R351): CCMD WRITE sends LEN bytes from CBUF to TARGET. -/
  | twiCtrlWrite (via : Option Requester) (len : BitVec 6) (target : BitVec 7) (ended : TwiEnd)
  /-- TWI_CTRL_READ (13 R351): CCMD READ receives LEN bytes from TARGET into CBUF. -/
  | twiCtrlRead (via : Option Requester) (len : BitVec 6) (target : BitVec 7) (ended : TwiEnd)
  /-- EEREAD (13 R351): CCMD EEREAD reads LEN bytes from the EEPROM at CADDR. -/
  | eeread (via : Option Requester) (len : BitVec 6) (ended : TwiEnd)
  /-- TWI_ABORT (13 R351): CCMD ABORT ends the running transfer with a STOP and result ABORTED. -/
  | twiAbort (req : Requester)
  /-- BUS_CLEAR (13 R352): SDA stuck low for the stretch limit makes the controller clock up to 9 pulses and send a STOP, or end with BUSSTUCK. -/
  | busClear (cleared : Bool)
  /-- ARBITRATION_LOST (13 R353): The controller loses arbitration, stops driving and retries up to RETRY + 1 attempts. -/
  | arbitrationLost
  /-- WAKE_MESSAGE (13 R354): On a WAKE_GESTURE posting, the device sends the three-byte wake message to WADDR. -/
  | wakeMessage (ended : Option TwiEnd)
  /-- TWOWIRE_ERRCLR (13 R349): TWOWIRE.ERRCLR clears the two-wire error counters. -/
  | twowireErrclr (req : Requester)
  /-- NVS_NOP (03 R81): The NVS NOP command does nothing. -/
  | nvsNop (req : Requester) (key : BitVec 16)
  /-- READ_LINE (03 R81): The store line at ADDR is read into RBUF. -/
  | readLine (req : Requester) (access : NvsAccess)
  /-- PROGRAM_LINE (03 R82): WBUF is programmed to the line at ADDR, unless a key, range, lock, bank or power check refuses it. -/
  | programLine (req : Requester) (key : BitVec 16)
  /-- VERIFY_BANK (03 R81): The checks of R75 to R77 run on a bank, and SEQA or SEQB is updated. -/
  | verifyBank (req : Requester) (access : NvsAccess)
  /-- CONFIRM (03 R80): CONFIRMED is set for the booted bank in trial. -/
  | confirm (req : Requester) (key : BitVec 16)
  /-- SAVE_CONFIG (03 R84): A configuration record of the current configuration is written to free slots. -/
  | saveConfig (req : Requester) (key : BitVec 16)
  /-- INVALIDATE_BANK (03 R81): Line 0 of a bank is programmed with zeros. -/
  | invalidateBank (req : Requester) (key : BitVec 16)
  /-- NVS_CORRCLR (03 R81): NVS.STAT.CORRCLR clears the corrected-error counter. -/
  | nvsCorrclr (req : Requester)
  /-- LINE_PROGRAM_DONE (03 R87): A store line program completes, and a waiting foreground request or paused background work proceeds. -/
  | lineProgramDone
  /-- RELOCATION (03 R86): After 65,536 saves the live reference record is copied as background work. -/
  | relocation
  /-- PERSISTENT_LOG_WRITE (17 R441): A persistent log record is written within the refilling budget, or PLDROP counts it. -/
  | persistentLogWrite (result : BitVec 4)
  /-- CAL_NOP (07 R188): The CAL NOP command does nothing. -/
  | calNop (req : Requester)
  /-- FE_CAL (07 R189): The selected slices are calibrated in four listen-slot steps, and the result is checked and accepted. -/
  | feCal (via : Option Requester) (mask : Byte) (disagree : Option (Byte × Byte)) (vals : List Nat)
  /-- LF_TRIM (07 R191): The internal LF oscillator is trimmed against REFCLK. -/
  | lfTrim (via : Option Requester) (code : BitVec 8)
  /-- AOUT_CAL (07 R192): Outputs are calibrated in turn at two test codes. -/
  | aoutCal (via : Option Requester) (mask : Byte) (vrefOk : Bool) (short : Bool) (loaded : Bool) (offset : BitVec 16) (gain : BitVec 16)
  /-- CAPTURE_REF (07 R184): Over 16 frames the device checks the rejection conditions and writes a reference record. -/
  | captureRef (via : Option Requester) (arg : Byte)
  /-- CAL_ABORT (07 R188): ABORT ends the running foreground calibration command with ABORT. -/
  | calAbort (req : Requester)
  /-- BACKGROUND_CALIBRATION (07 R190): On its period or a temperature change, FE_CAL runs on one slice per frame. -/
  | backgroundCalibration (disagree : Option (Byte × Byte)) (vals : List Nat)
  /-- CSEL_WRITE (07 R186): A CAL.CSEL write selects a coefficient, and an invalid item or index is rejected whole. -/
  | cselWrite (req : Requester) (item : Byte) (index : Byte)
  /-- REACQUIRE (07 R175): BASE.CMD REACQUIRE starts a new baseline acquisition at the next FRAME_START. -/
  | reacquire (req : Requester)
  /-- REBASE_ALL (07 R170): BASE.CMD REBASE_ALL sets FAST on every unmasked node. -/
  | rebaseAll (req : Requester)
  /-- CLEAR_SUSPECT (07 R179): BASE.CMD CLEAR_SUSPECT gives every suspect node baseline A and clears SUSPECT. -/
  | clearSuspect (req : Requester)
  /-- SCAN_MODE_WRITE (06 R146): A write to SCAN.CTL.MODE or SCAN.TMAP checks the table it would select and keeps the old value if the check fails. -/
  | scanModeWrite (req : Requester) (mode : BitVec 2) (tmap : Option Byte)
  /-- TABLE_CHECK (06 R146): SCAN.TCHK.GO checks a table without selecting it. -/
  | tableCheck (req : Requester) (t : Fin 4)
  /-- PEAKCLR (06 R149): SCAN.CTL.PEAKCLR clears TIMING.PEAKUS. -/
  | peakclr (req : Requester)
  /-- SCAN_HOLD (06 R149): HOLD = 1 lets the frame in progress finish, cancels the reported tracks and stops scanning. -/
  | scanHold (req : Requester)
  /-- SCAN_RESUME (06 R149): HOLD = 0 checks the table and starts scanning within 100 µs, with new flags, a settling interval and no track. -/
  | scanResume (req : Requester)
  /-- SCANTABLE_WORD_WRITE (06 R165): A write to WORDk commits to all four slice copies unless the table is running. -/
  | scantableWordWrite (req : Requester) (t : Fin 4) (k : Fin 48) (word : Word)
  /-- CANCELALL (08 R214): PIPE.CMD.CANCELALL ends every reported track with CANCEL in the next report. -/
  | cancelall (req : Requester)
  /-- PIPE_CNTCLR (08 R212): PIPE.CMD.CNTCLR clears the PIPE error counters. -/
  | pipeCntclr (req : Requester)
  /-- SLICE_CNTCLR (05 R132): SLICE.CNTCLR clears OVLCNT and CLPCNT. -/
  | sliceCntclr (req : Requester) (slice : Fin 4)
  /-- WORKRING_ERRCLR (09 R248): WORKRING.ERRCLR.CLR clears the work-ring error counters. -/
  | workringErrclr (req : Requester)
  /-- WORKRING_PEAKCLR (09 R254): WORKRING.ERRCLR.PEAKCLR clears CRIT.PEAKUS. -/
  | workringPeakclr (req : Requester)
  /-- LINK_ERRCLR (14 R361): LINK.ERRCLR clears the link error counters. -/
  | linkErrclr (req : Requester)
  /-- VCTRL_DEF_WRITE (08 R217): A write to a control's definition registers is checked for geometry and rejected if it breaks it. -/
  | vctrlDefWrite (req : Requester) (i : Fin 6) (word : Word)
  /-- AOUT_STROBE (15 R386): A write of 1 to AOUT.STROBE A or B loads that group's input registers. -/
  | aoutStrobe (req : Requester) (a : Bool) (b : Bool)
  /-- LDAC (15 R386): A rising edge on LDAC loads each group whose source is LDAC. -/
  | ldac
  /-- SPAN_CHANGE (15 R392): A span change of a LIVE output puts it in HOLD at the apron voltage. -/
  | spanChange (req : Requester) (spans : BitVec 16)
  /-- SPAN_HOLD_END (15 R393): The span hold ends, and the output loads if a strobe arrived, then enters LIVE. -/
  | spanHoldEnd (n : Fin 8)
  /-- AOUT_SHORT (15 R399): An output in current limit for 10 ms is switched OFF, and AOUT_SHORT is raised. -/
  | aoutShort (n : Fin 8)
  /-- AOUT_FLT_CLEAR (15 R399): Writing 1 to an AOUT.FLT bit releases the output to APRON. -/
  | aoutFltClear (req : Requester) (bits : BitVec 8)
  /-- AVO_GOOD (15 R389): AVO becomes good with PD5 on, and every output enters APRON. -/
  | avoGood
  /-- AVO_FAIL (15 R400): AVO falls below its good threshold, every output goes OFF, and AVO_FAIL is raised. -/
  | avoFail
  /-- VREFA_RANGE (15 R400): VREFA leaves 0.9 V to 10.5 V, so VREFOK clears and VREFA_RANGE is raised. -/
  | vrefaRange
  /-- PWR_NOP (16 R404): PWR.CMD NOP does nothing. -/
  | pwrNop (req : Requester) (key : BitVec 16)
  /-- WATCH (16 R405): An accepted WATCH command stops framing and votes the domains down in order. -/
  | watch (req : Requester) (retain : Bool) (key : BitVec 16)
  /-- HALT (16 R405): An accepted HALT command stops framing and votes the domains down, optionally with LFSTOP. -/
  | halt (req : Requester) (retain : Bool) (lfstop : Bool) (key : BitVec 16)
  /-- DOMAIN_VOTE (16 R406): Every voter of a domain accepts and the domain is stopped, and the next domain is voted. -/
  | domainVote (hcsnLow : Bool) (vtxBelow2 : Bool) (addressed : Bool)
  /-- PWR_ABORT (16 R407): A refusal outlasting REFUSE_TMO, or a wake cause during voting, restores the domains and posts PWR_ABORT. -/
  | pwrAbort (still : Bool)
  /-- POWER_COMMIT (16 R408): At the next LFCLK edge after every vote is accepted, power is removed, the clocks stop and TB moves to LFCLK. -/
  | powerCommit
  /-- LOST_EDGE_WINDOW_END (16 R409): Four LFCLK cycles after commit the lost-edge window ends, and a WAKEREQ still asserted wakes the device. -/
  | lostEdgeWindowEnd
  /-- WAKEREQ_WAKE (16 R410): An enabled WAKEREQ level wakes the device from WATCH or HALT. -/
  | wakereqWake (level : Bool)
  /-- HCSN_WAKE (16 R410): A falling edge of HCSn wakes the device from WATCH or HALT. -/
  | hcsnWake
  /-- TIMER_WAKE (16 R410): PWR.TIMER expires after commit, latches and wakes the device. -/
  | timerWake
  /-- WAKE_SEQUENCE (16 R411): After wake recognition the oscillator and PLL restart, the domains power up and scanning resumes. -/
  | wakeSequence
  /-- WAKESTAT_CLEAR (16 R412): Writing 1 to WAKESTAT bits clears them, and bit 3 acknowledges the timer cause. -/
  | wakestatClear (req : Requester) (bits : BitVec 4)
  /-- NIGHTCAP_SCAN (16 R415): At RATE Hz in WATCH, Nightcap converts the enabled zones and evaluates its gestures. -/
  | nightcapScan (us : Nat) (caps : List Nat)
  /-- NIGHTCAP_DET_ACK (16 R412): Writing 1 to a NIGHTCAP.DET bit acknowledges the detection. -/
  | nightcapDetAck (req : Requester) (bits : BitVec 8)
  /-- TBSTAT_ACK (16 R421): CLOCK.TBSTAT.ACK sets VALID and sets ACC to SRC. -/
  | tbstatAck (req : Requester)
  /-- TBLO_READ (16 R422): A read of CLOCK.TBLO latches TB[47:32] for TBHI. -/
  | tbloRead (req : Requester)
  /-- DISCOVERY (14 R362): ROOT trains the ports, sends ENUM and CONFIG, switches the members' PLLs and loads TB at one SYNC pulse. -/
  | discovery (step : DiscStep)
  /-- ENUM (14 R362): A member receiving ENUM records its position and forwards it. -/
  | enum (own : Bool) (x : Arrival (Fin 8 × Fin 9))
  /-- CONFIG (14 R362): A member receiving CONFIG takes the map, TXEN, tables and TB, switches its PLL reference and acknowledges. -/
  | config (c : LinkConfig)
  /-- ENUM_REPEAT (14 R363): If the ring has not closed, ROOT repeats ENUM every 10 ms. -/
  | enumRepeat
  /-- NO_RING (14 R363): The discovery limit expires, and ROOT ends discovery with the devices reached and raises NO_RING. -/
  | noRing
  /-- NO_ROOT (14 R363): A member with no CONFIG 200 ms after its step 8 raises NO_ROOT. -/
  | noRoot
  /-- PACKET_RECEIVE (14 R361): A received link packet is accepted, forwarded, or discarded with a NAK for retransmission. -/
  | packetReceive (port : Fin 2) (rx : Rx)
  /-- NAK (14 R361): A NAK makes the sender retransmit, and a packet that fails three times is lost. -/
  | nak (port : Fin 2) (sends : Nat)
  /-- LINK_DOWN (14 R361): A port delivers no valid symbol for 10 µs or loses deskew, so it goes down and LINK_DOWN is raised. -/
  | linkDown (port : Fin 2)
  /-- LINK_UP (14 R361): A port has 1 ms of error-free idle on both lanes, so it is up and LINK_UP is raised. -/
  | linkUp (port : Fin 2)
  /-- SYNC_PULSE (14 R366): Each device time-stamps the falling SYNC edge and starts its frame 400 ns later. -/
  | syncPulse (dt : Nat)
  /-- SYNC_FAULT (14 R366): SYNC not high 2 µs after release raises SYNC_FAULT. -/
  | syncFault
  /-- FRAME_START_MISSING (14 R366): A member that sees no FRAME_START for 2T stops its bursts. -/
  | frameStartMissing
  /-- FPARAM (14 R368): ROOT samples the shared fields and sends FPARAM at least 100 µs before the next FRAME_START. -/
  | fparam
  /-- FPARAM_RECEIVE (14 R367): A member takes FPARAM, reloads TB if it is off by more than 1 µs, and acknowledges it. -/
  | fparamReceive (x : Arrival Fparam)
  /-- LINK_LATE (14 R369): A missing FPARAM acknowledgement at FRAME_START makes ROOT abandon the frame cascade-wide and raise LINK_LATE. -/
  | linkLate
  /-- E_ORDERED_SET (14 R376): A member's per-chip noise value is forwarded with a maximum toward ROOT. -/
  | eOrderedSet (chip : Nat) (e : Byte)
  /-- HOP_ORDERED_SET (14 R376): ROOT's HOP broadcast makes every device switch at the named chip boundary. -/
  | hopOrderedSet (x : Arrival (Fin 32)) (chip : Nat)
  /-- LEAVING (14 R377): A member sends LEAVING on lockout, safe state or reset, and ROOT declares it lost. -/
  | leaving (x : Arrival (Fin 8))
  /-- DEV_LOST (14 R378): ROOT declares a position lost, abandons the frame and masks its area from the next frame. -/
  | devLost (pos : Fin 8)
  /-- DEV_RETURN (14 R380): After REJOIN shadow frames ROOT unmasks a returned position and raises DEV_RETURN. -/
  | devReturn (pos : Fin 8)
  /-- CUFF_ARRIVAL (14 R373): A neighbour's cuff signal or filter part arrives and is stored in bank 0 or 3. -/
  | cuffArrival (side : Fin 2) (signal : Bool) (frame : BitVec 16) (values : List Int) (words : List Word)
  /-- CUFF_LATE (14 R373): A cuff part absent at LINK.TMO.CUFF after SCAN_END is treated as masked, and CUFF_LATE is raised. -/
  | cuffLate (side : Fin 2)
  /-- SUBBLOB_LIST_ARRIVAL (14 R374): A member's sub-blob list reaches ROOT for merging. -/
  | subblobListArrival (pos : Fin 8) (frame : BitVec 16) (recs : List SubRec) (rest : ListRest)
  /-- LIST_TIMEOUT (14 R375): LINK.TMO.LIST after wave 6, ROOT posts TRACK without the late members' lists. -/
  | listTimeout
  /-- REMOTE_NOP (14 R381): LINK.RCMD NOP does nothing. -/
  | remoteNop (req : Requester)
  /-- REMOTE_READ (14 R381): LINK.RCMD READ places a member's register in RRDATA. -/
  | remoteRead (req : Requester) (pos : Fin 8) (addr : BitVec 16)
  /-- REMOTE_WRITE (14 R381): LINK.RCMD WRITE commits RWDATA to a member's register. -/
  | remoteWrite (req : Requester) (pos : Fin 8) (addr : BitVec 16)
  /-- REMOTE_RESET (14 R381): LINK.RCMD RESET resets one member, or every member. -/
  | remoteReset (req : Requester) (pos : Fin 8) (all : Bool)
  /-- REMOTE_TIMEOUT (14 R381): A remote access unfinished after 1 ms ends with TIMEOUT. -/
  | remoteTimeout
  /-- FAULT_MESSAGE_ACCEPT (17 R434): The collector accepts up to four messages per cycle, orders, stamps and logs them, and sets status, Q3 and first-fault. -/
  | faultMessageAccept
  /-- COLLECTOR_PARITY (17 R443): A parity error on a read or on the 1 ms scrub forces the safe state and logs COLLECTOR_PARITY. -/
  | collectorParity (offset : BitVec 8)
  /-- STATUS_CLEAR (17 R437): Writing 1 clears a fault status bit, and it is set again if its kind is still live. -/
  | statusClear (req : Requester) (i : Fin 8) (bits : Word)
  /-- FIRSTCLR (17 R436): FAULT.CTL.FIRSTCLR empties the first-fault record. -/
  | firstclr (req : Requester)
  /-- LOGCLR (17 R435): A keyed FAULT.CTL.LOGCLR empties the log and OVF. -/
  | logclr (req : Requester) (key : BitVec 16)
  /-- SELFTEST_NOP (17 R448): FAULT.STCMD NOP does nothing. -/
  | selftestNop (req : Requester)
  /-- FULL_TEST (17 R447): A full self-test runs test frames until every drive line has been stimulated. -/
  | fullTest (req : Requester)
  /-- QUICK_TEST (17 R447): A quick test runs one test frame without TXSTIM, on command or every QPERIOD. -/
  | quickTest (via : Option Requester)
  /-- SELFTEST_ABORT (17 R448): STCMD ABORT ends a running test after its current frame with ABORT. -/
  | selftestAbort (req : Requester)
  /-- RXMASK_CLEAR (17 R451): Writing 1 to an RXMASK bit unmasks the channel at the next FRAME_START. -/
  | rxmaskClear (req : Requester) (i : Fin 3) (bits : Word)
  /-- TEST_KEY (17 R445): A TEST.KEY write advances the unlock sequence, which restarts on a wrong value or after 1 ms. -/
  | testKey (req : Requester) (value : BitVec 16)
  /-- FUSE (17 R445): Two writes of 0xF05E to TEST.FUSE while unlocked blow the fuse and disable the TEST page. -/
  | fuse (req : Requester) (value : BitVec 16)
  /-- INJ_GO (17 R446): TEST.INJ.GO injects a fault message as if from the named source. -/
  | injGo (req : Requester) (src : BitVec 8) (kind : BitVec 8) (sev : BitVec 2)
  /-- BRST (18 R456): PCTRL.BRST writes every RW field of the page to its reset value under its class. -/
  | brst (req : Requester) (page : BitVec 8)
  /-- APPLY (18 R456): PCTRL.APPLY puts written F-class values in force at once while RUN is 0. -/
  | apply (req : Requester) (page : BitVec 8)
  /-- PLOCK_SET (18 R459): A keyed PLOCK write with SET locks the page against writes. -/
  | plockSet (req : Requester) (page : BitVec 8) (set : Bool) (key : BitVec 16)
  /-- VIN_LOW (02 R45): VIN crosses 35 V while the device runs: below it the C kind VIN_LOW goes live and is raised, and above it its LIVE bit returns to 0. -/
  | vinLow (below : Bool) (mv100 : BitVec 16)
  /-- VREFA_RETURN (15 R400): VREFA comes back within 0.9 V to 10.5 V, so VREFOK returns to 1, the excursion of VREFA_RANGE ends and its LIVE bit clears. -/
  | vrefaReturn
  deriving DecidableEq, Repr

end Sys2Proof
end

