-- ==== Sys2Proof/Decode.lean ====
section
/-!
DEFINITION. The commands that words spell. The table of operations and events gives no row any bits, so no word spells one.
-/

namespace Sys2Proof

/-- The command that an encoding of `nbits` bits and value `w` spells. -/
def decodeTableWord (_nbits _w : Nat) : Option Instr := none

end Sys2Proof
end

