-- ==== Sys2Proof/Config.lean ====
section
/-!
DEFINITION. What the spec leaves to the implementation or leaves open: opaque constants, which no proof can
evaluate. Each is named in the assumption log.
-/

namespace Sys2Proof.Config

/-- A value that the spec leaves open, fresh for every counter value it is applied to (log 1). -/
opaque freeValue : Nat → BitVec 32

/-- Whether the RESETn filter passes a low pulse of this many nanoseconds, between the 500 ns that it always
ignores and the 2,000 ns that always resets (02 R40; log 2). -/
opaque resetnPasses : Nat → Bool

/-- The register values that the configuration-defaults section of an image stands for, as pairs of a field
key and a value; the spec gives no format of the section (03 R75; log 3). -/
opaque imageDefaults : List Byte → List (Nat × Nat)

/-- A byte of the header line of a slot, by the record's type (0 configuration, 1 reference), its sequence number, the
slot's index and the record's slot count; the spec gives no format of the line (03 R83; log 3). -/
opaque headerByte : Nat → Nat → Nat → Nat → Nat → Byte

/-- A byte of a configuration record's body, by its format number and its values (03 R83; log 3). -/
opaque configByte : Nat → List (Nat × Nat) → Nat → Byte

/-- A byte of a slot's body beyond the end of a reference record, by the record's sequence number (03 R85; log 3). -/
opaque spareByte : Nat → Nat → Byte

/-- A byte of the seal line that carries a CRC-32; the spec does not say where in the line it stands (03 R83; log 3). -/
opaque sealByte : Nat → Nat → Byte

/-- Whether the factory calibration region passes its CRC-32 and its plausibility limits, and the item and
index first found bad; the spec gives no format of the region (03 R67; log 4). -/
opaque factoryBad : List (Nat × Byte) → Option (Nat × Nat)

/-- A calibration coefficient (item, index) as the factory calibration holds it (07 R186; log 4). -/
opaque factoryCoef : List (Nat × Byte) → Nat → Nat → Nat

/-- A built-in default calibration coefficient (item, index) (03 R67; log 4). -/
opaque defaultCoef : Nat → Nat → Nat

/-- The plausibility window, lowest and highest value, of a calibration coefficient (07 R186; log 4). -/
opaque coefWindow : Nat → Nat → Nat × Nat

/-- The result of a line program, 0 for OK, for a use counter and a line; the spec does not say when one fails (03 R87; log 61). -/
opaque lineResult : Nat → Nat → BitVec 4

/-- The pseudo-random key of one steal round of one engine; the spec gives no generator (09 R242; log 5). -/
opaque victimKey : Nat → Nat → Nat

/-- Which of the values within 1 unit of the exact angle QATAN gives, for x and y (11 R308; log 8). -/
opaque qatanPick : Int → Int → Nat

/-- Whether a byte that a pending Sloe operation will write already reads its new value, for a use counter and an
address (11 R311; log 9). -/
opaque earlyByte : Nat → Nat → Bool

/-- Which of the values that a byte has had since a Sloe operation began that operation reads, by the operation's key and the
byte's index; 0 is the oldest (11 R311; log 18). -/
opaque sloeReads : Nat → Nat → Nat

/-- Whether a Quince operation traps with WPROT where XMODE refuses a byte of its destination: 09 R252 and 11 R309 say both
(log 29). -/
opaque quinceTraps : Bool

/-- Whether a vendor task writes a line of frame memory, by its address / 8, with the bytes that stand there, for a use
counter (10 R278; log 47). -/
opaque vendorWrites : Nat → Nat → Bool

/-- Whether a member as far from ROOT over its UP port as over its DN port sends toward ROOT over UP, by its position
(14 R360; log 114). -/
opaque tieUp : Nat → Bool

end Sys2Proof.Config
end

