-- ==== Sys2Proof/Machine/Registers.lean ====
section
/-!
DEFINITION. The register fields of the block, transcribed field by field from the field tables of the
chapters of spec/ (index: spec/18_register_page_index.md R454 to R461). A field is named PAGE_REGISTER_FIELD.
`page` and `off` place its register, `lsb` and `width` the field, `acc` and `cls` its access and class
(spec/00_scope.md R7 to R9), `reset` its reset value, and `lo` to `hi` and `extra` the values it accepts
(every other value is reserved, R11). Fields that a selector reaches stand on pages of their own above
0xFF: control c of VCTRL on 0x100 + c, gesture g of NIGHTCAP on 0x120 + g, scan table t on 0x140 + t.
Registers whose value the device computes when they are read are not here: Machine/Fabric.lean reads them.
-/

namespace Sys2Proof

/-- Access types of a register field (00 R7). -/
inductive Acc where
  | rw | ro | w1c | wo
  deriving DecidableEq, Repr

/-- When a written value takes effect: live, at the next FRAME_START, or only while not running (00 R9). -/
inductive Cls where
  | l | f | k
  deriving DecidableEq, Repr

/-- One register field: where it stands, how it is accessed, its reset value and its legal values. -/
structure Fld where
  page : Nat
  off : Nat
  lsb : Nat
  width : Nat
  acc : Acc
  cls : Cls
  reset : Nat
  lo : Nat
  hi : Nat
  extra : Nat
  deriving DecidableEq, Repr

/-- The one number that names a field's storage: its register's address space position and its lowest bit. -/
def Fld.key (f : Fld) : Nat := (f.page * 0x1000 + f.off) * 32 + f.lsb

/-- The values the field accepts; a value outside them is reserved (00 R11). -/
def Fld.legal (f : Fld) (v : Nat) : Bool := (f.lo ≤ v && v ≤ f.hi) || v == f.extra

/-- The field's part of a 32-bit word. -/
def Fld.of (f : Fld) (w : Nat) : Nat := (w >>> f.lsb) % 2 ^ f.width

/-- The default dividers of the frequency table, entry by entry (04 R106). -/
def ftabDefaults : List Nat :=
  [2400, 2000, 1920, 1600, 1500, 1280, 1200, 1100, 1000, 960, 880, 800, 768, 750, 640, 600]
  ++ [560, 500, 480, 440, 400, 384, 375, 350, 320, 300, 280, 256, 250, 240, 220, 200]

/-- Reset value of one entry of DRIVE.FTAB (04 R106). -/
def ftabReset (i : Nat) : Nat := ftabDefaults.getD i 0

namespace R

def DEVICE_STRAPS_ROOT : Fld := ⟨0, 0x28, 0, 1, .ro, .l, 0, 0, 1, 0⟩
def DEVICE_STRAPS_APRON : Fld := ⟨0, 0x28, 1, 1, .ro, .l, 0, 0, 1, 0⟩
def DEVICE_STRAPS_TESTEN : Fld := ⟨0, 0x28, 2, 1, .ro, .l, 0, 0, 1, 0⟩
def DEVICE_STRAPS_ADDR : Fld := ⟨0, 0x28, 4, 2, .ro, .l, 0, 0, 3, 0⟩
def DEVICE_STRAPS_BOOTSEL : Fld := ⟨0, 0x28, 8, 3, .ro, .l, 0, 0, 7, 0⟩
def DEVICE_STRAPS_AMBIG : Fld := ⟨0, 0x28, 11, 1, .ro, .l, 0, 0, 1, 0⟩
def DEVICE_STRAPS_SAMPLED : Fld := ⟨0, 0x28, 31, 1, .ro, .l, 0, 0, 1, 0⟩
def DEVICE_RSTCAUSE_POR : Fld := ⟨0, 0x2c, 0, 1, .w1c, .l, 0, 0, 1, 0⟩
def DEVICE_RSTCAUSE_PIN : Fld := ⟨0, 0x2c, 1, 1, .w1c, .l, 0, 0, 1, 0⟩
def DEVICE_RSTCAUSE_SOFT : Fld := ⟨0, 0x2c, 2, 1, .w1c, .l, 0, 0, 1, 0⟩
def DEVICE_RSTCAUSE_LINK : Fld := ⟨0, 0x2c, 3, 1, .w1c, .l, 0, 0, 1, 0⟩
def DEVICE_RSTCMD_GO : Fld := ⟨0, 0x30, 0, 1, .wo, .l, 0, 0, 1, 0⟩
def DEVICE_RSTCMD_KEY : Fld := ⟨0, 0x30, 16, 16, .wo, .l, 0, 0, 0xffff, 0⟩
def DEVICE_BOOT_STAGE : Fld := ⟨0, 0x34, 0, 4, .ro, .l, 0, 0, 0xf, 0⟩
def DEVICE_BOOT_BANK : Fld := ⟨0, 0x34, 4, 2, .ro, .l, 2, 0, 3, 0⟩
def DEVICE_BOOT_FALLBACK : Fld := ⟨0, 0x34, 6, 1, .ro, .l, 0, 0, 1, 0⟩
def DEVICE_BOOT_TRIAL : Fld := ⟨0, 0x34, 7, 1, .ro, .l, 0, 0, 1, 0⟩
def DEVICE_BOOT_CFGDEF : Fld := ⟨0, 0x34, 8, 1, .ro, .l, 0, 0, 1, 0⟩
def DEVICE_BOOT_NOREF : Fld := ⟨0, 0x34, 9, 1, .ro, .l, 0, 0, 1, 0⟩
def DEVICE_BOOT_FCALDEF : Fld := ⟨0, 0x34, 10, 1, .ro, .l, 0, 0, 1, 0⟩
def DEVICE_BOOT_EARLYWR : Fld := ⟨0, 0x34, 11, 1, .w1c, .l, 0, 0, 1, 0⟩
def NVS_CMD_OP : Fld := ⟨3, 0x20, 0, 8, .wo, .l, 0, 0, 6, 0⟩
def NVS_CMD_KEY : Fld := ⟨3, 0x20, 16, 16, .wo, .l, 0, 0, 0xffff, 0⟩
def NVS_STAT_BUSY : Fld := ⟨3, 0x28, 0, 1, .ro, .l, 0, 0, 1, 0⟩
def NVS_STAT_BG : Fld := ⟨3, 0x28, 1, 1, .ro, .l, 0, 0, 1, 0⟩
def NVS_STAT_REFUSED : Fld := ⟨3, 0x28, 2, 1, .w1c, .l, 0, 0, 1, 0⟩
def NVS_STAT_CORRCLR : Fld := ⟨3, 0x28, 3, 1, .wo, .l, 0, 0, 1, 0⟩
def NVS_STAT_RESULT : Fld := ⟨3, 0x28, 4, 4, .ro, .l, 0, 0, 0xf, 0⟩
def NVS_STAT_KEYREQ : Fld := ⟨3, 0x28, 8, 1, .ro, .l, 0, 0, 1, 0⟩
def NVS_STAT_CORR : Fld := ⟨3, 0x28, 16, 16, .ro, .l, 0, 0, 0xffff, 0⟩
def NVS_CFG_CFGSLOT : Fld := ⟨3, 0x34, 0, 4, .ro, .l, 0, 0, 0xf, 0⟩
def NVS_CFG_REFFIRST : Fld := ⟨3, 0x34, 4, 4, .ro, .l, 0, 0, 0xf, 0⟩
def NVS_CFG_REFLEN : Fld := ⟨3, 0x34, 8, 3, .ro, .l, 0, 0, 7, 0⟩
def NVS_CFG_RELOC : Fld := ⟨3, 0x34, 11, 1, .ro, .l, 0, 0, 1, 0⟩
def DRIVE_VTXCTL_CODE : Fld := ⟨0x14, 0x20, 0, 4, .rw, .f, 5, 0, 0xf, 0⟩
def DRIVE_EXC_FIDX : Fld := ⟨0x14, 0x24, 0, 5, .rw, .f, 0x15, 0, 0x1f, 0⟩
def DRIVE_EXC_K : Fld := ⟨0x14, 0x24, 8, 3, .rw, .f, 1, 0, 7, 0⟩
def DRIVE_EXC_SETTLE : Fld := ⟨0x14, 0x24, 12, 4, .rw, .f, 3, 1, 0xf, 1⟩
def DRIVE_EXC_REPS : Fld := ⟨0x14, 0x24, 16, 2, .rw, .f, 0, 0, 3, 0⟩
def DRIVE_BURST_TXIDLE : Fld := ⟨0x14, 0x28, 0, 2, .rw, .f, 0, 0, 2, 0⟩
def DRIVE_BURST_RECOV : Fld := ⟨0x14, 0x28, 2, 1, .rw, .f, 1, 0, 1, 0⟩
def DRIVE_BURST_SHARE : Fld := ⟨0x14, 0x28, 4, 4, .rw, .f, 6, 2, 0xf, 2⟩
def DRIVE_BLANK_EN0 : Fld := ⟨0x14, 0x2c, 0, 1, .rw, .f, 0, 0, 1, 0⟩
def DRIVE_BLANK_POL0 : Fld := ⟨0x14, 0x2c, 1, 1, .rw, .f, 0, 0, 1, 0⟩
def DRIVE_BLANK_EN1 : Fld := ⟨0x14, 0x2c, 2, 1, .rw, .f, 0, 0, 1, 0⟩
def DRIVE_BLANK_POL1 : Fld := ⟨0x14, 0x2c, 3, 1, .rw, .f, 0, 0, 1, 0⟩
def DRIVE_BLANK_MAXVOID : Fld := ⟨0x14, 0x2c, 8, 8, .rw, .f, 0x10, 0, 0xff, 0⟩
def DRIVE_BLANK_LIM : Fld := ⟨0x14, 0x2c, 16, 11, .rw, .f, 0x64, 1, 0x7d0, 1⟩
def DRIVE_SHLD_MODE0 : Fld := ⟨0x14, 0x30, 0, 2, .rw, .f, 0, 0, 2, 0⟩
def DRIVE_SHLD_MODE1 : Fld := ⟨0x14, 0x30, 2, 2, .rw, .f, 0, 0, 2, 0⟩
def DRIVE_SHLD_MODE2 : Fld := ⟨0x14, 0x30, 4, 2, .rw, .f, 0, 0, 2, 0⟩
def DRIVE_SHLD_MODE3 : Fld := ⟨0x14, 0x30, 6, 2, .rw, .f, 0, 0, 2, 0⟩
def DRIVE_STAT_VTXACT : Fld := ⟨0x14, 0x34, 0, 4, .ro, .l, 0, 0, 0xf, 0⟩
def DRIVE_STAT_VTXGOOD : Fld := ⟨0x14, 0x34, 4, 1, .ro, .l, 0, 0, 1, 0⟩
def DRIVE_STAT_SETTLING : Fld := ⟨0x14, 0x34, 5, 1, .ro, .l, 0, 0, 1, 0⟩
def DRIVE_STAT_BURST : Fld := ⟨0x14, 0x34, 6, 1, .ro, .l, 0, 0, 1, 0⟩
def DRIVE_STAT_FIDXACT : Fld := ⟨0x14, 0x34, 8, 5, .ro, .l, 0, 0, 0x1f, 0⟩
def DRIVE_STAT_KACT : Fld := ⟨0x14, 0x34, 13, 3, .ro, .l, 0, 0, 7, 0⟩
def DRIVE_STAT_REPSACT : Fld := ⟨0x14, 0x34, 16, 2, .ro, .l, 0, 0, 3, 0⟩
def DRIVE_STAT_EHOPS : Fld := ⟨0x14, 0x34, 24, 8, .ro, .l, 0, 0, 0xff, 0⟩
def DRIVE_BSTAT_VOIDS : Fld := ⟨0x14, 0x38, 0, 8, .ro, .l, 0, 0, 0xff, 0⟩
def DRIVE_BSTAT_BLANKX : Fld := ⟨0x14, 0x38, 8, 1, .ro, .l, 0, 0, 1, 0⟩
def DRIVE_BSTAT_BLANKUS : Fld := ⟨0x14, 0x38, 16, 16, .ro, .l, 0, 0, 0xffff, 0⟩
def SCAN_CTL_MODE : Fld := ⟨0x15, 0x20, 0, 2, .rw, .f, 0, 0, 3, 0⟩
def SCAN_CTL_PEAKCLR : Fld := ⟨0x15, 0x20, 4, 1, .wo, .l, 0, 0, 1, 0⟩
def SCAN_CTL_HOLD : Fld := ⟨0x15, 0x20, 8, 1, .rw, .l, 0, 0, 1, 0⟩
def SCAN_TMAP_TNORM : Fld := ⟨0x15, 0x24, 0, 2, .rw, .f, 0, 0, 3, 0⟩
def SCAN_TMAP_TGLOVE : Fld := ⟨0x15, 0x24, 2, 2, .rw, .f, 0, 0, 3, 0⟩
def SCAN_TMAP_THOVER : Fld := ⟨0x15, 0x24, 4, 2, .rw, .f, 2, 0, 3, 0⟩
def SCAN_TMAP_TTEST : Fld := ⟨0x15, 0x24, 6, 2, .rw, .f, 3, 0, 3, 0⟩
def SCAN_PERIOD_P : Fld := ⟨0x15, 0x28, 0, 24, .rw, .f, 0x61a80, 0x17700, 0xffffff, 0x17700⟩
def SCAN_FDIV_DIV : Fld := ⟨0x15, 0x2c, 0, 4, .rw, .f, 0, 0, 0xf, 0⟩
def SCAN_GLOVE_VTXMIN : Fld := ⟨0x15, 0x30, 0, 4, .rw, .f, 0xb, 0, 0xf, 0⟩
def SCAN_GLOVE_GAINADD : Fld := ⟨0x15, 0x30, 4, 2, .rw, .f, 1, 0, 3, 0⟩
def SCAN_GLOVE_THRSC : Fld := ⟨0x15, 0x30, 8, 4, .rw, .f, 8, 1, 0xf, 1⟩
def SCAN_TCHK_TABLE : Fld := ⟨0x15, 0x34, 0, 2, .wo, .l, 0, 0, 3, 0⟩
def SCAN_TCHK_GO : Fld := ⟨0x15, 0x34, 8, 1, .wo, .l, 0, 0, 1, 0⟩
def SCAN_TSTAT_BUSY : Fld := ⟨0x15, 0x38, 0, 1, .ro, .l, 0, 0, 1, 0⟩
def SCAN_TSTAT_REASON : Fld := ⟨0x15, 0x38, 4, 4, .ro, .l, 0, 0, 0xf, 0⟩
def SCAN_TSTAT_WORD : Fld := ⟨0x15, 0x38, 8, 8, .ro, .l, 0, 0, 0xff, 0⟩
def SCAN_TSTAT_TABLE : Fld := ⟨0x15, 0x38, 16, 2, .ro, .l, 0, 0, 3, 0⟩
def SCAN_TSTAT_BUILTIN : Fld := ⟨0x15, 0x38, 20, 1, .ro, .l, 0, 0, 1, 0⟩
def SCAN_STAT_MODEACT : Fld := ⟨0x15, 0x3c, 0, 2, .ro, .l, 0, 0, 3, 0⟩
def SCAN_STAT_TACT : Fld := ⟨0x15, 0x3c, 2, 2, .ro, .l, 0, 0, 3, 0⟩
def SCAN_STAT_WIDX : Fld := ⟨0x15, 0x3c, 8, 8, .ro, .l, 0, 0, 0xff, 0⟩
def SCAN_STAT_SCANNING : Fld := ⟨0x15, 0x3c, 16, 1, .ro, .l, 0, 0, 1, 0⟩
def SCAN_STAT_INSCAN : Fld := ⟨0x15, 0x3c, 17, 1, .ro, .l, 0, 0, 1, 0⟩
def SCAN_TIMING_LASTUS : Fld := ⟨0x15, 0x40, 0, 16, .ro, .l, 0, 0, 0xffff, 0⟩
def SCAN_TIMING_PEAKUS : Fld := ⟨0x15, 0x40, 16, 16, .ro, .l, 0, 0, 0xffff, 0⟩
def NOISE_CTL_HOPEN : Fld := ⟨0x16, 0x20, 0, 1, .rw, .f, 1, 0, 1, 0⟩
def NOISE_CTL_AVG : Fld := ⟨0x16, 0x20, 4, 3, .rw, .f, 2, 0, 7, 0⟩
def NOISE_CTL_DWELL : Fld := ⟨0x16, 0x20, 8, 8, .rw, .f, 8, 8, 0xff, 8⟩
def NOISE_CTL_HYST : Fld := ⟨0x16, 0x20, 16, 8, .rw, .f, 0x18, 1, 0xff, 1⟩
def NOISE_CTL_NCL : Fld := ⟨0x16, 0x20, 24, 3, .rw, .f, 7, 0, 7, 0⟩
def NOISE_EHOP_EEN : Fld := ⟨0x16, 0x24, 0, 1, .rw, .f, 1, 0, 1, 0⟩
def NOISE_EHOP_ECHIPS : Fld := ⟨0x16, 0x24, 12, 4, .rw, .f, 3, 0, 0xf, 0⟩
def NOISE_EHOP_EMARG : Fld := ⟨0x16, 0x24, 16, 8, .rw, .f, 0xc, 1, 0xff, 1⟩
def NOISE_STAT_FCUR : Fld := ⟨0x16, 0x30, 0, 5, .ro, .l, 0, 0, 0x1f, 0⟩
def NOISE_STAT_NFCUR : Fld := ⟨0x16, 0x30, 8, 8, .ro, .l, 0, 0, 0xff, 0⟩
def NOISE_STAT_DWELLCNT : Fld := ⟨0x16, 0x30, 16, 8, .ro, .l, 0, 0, 0xff, 0⟩
def NOISE_STAT_FNEXT : Fld := ⟨0x16, 0x30, 24, 5, .ro, .l, 0, 0, 0x1f, 0⟩
def NOISE_STAT_PEND : Fld := ⟨0x16, 0x30, 29, 1, .ro, .l, 0, 0, 1, 0⟩
def NOISE_STAT_DEFERRED : Fld := ⟨0x16, 0x30, 30, 1, .ro, .l, 0, 0, 1, 0⟩
def NOISE_CNT_HOPS : Fld := ⟨0x16, 0x34, 0, 16, .ro, .l, 0, 0, 0xffff, 0⟩
def NOISE_CNT_DEFER : Fld := ⟨0x16, 0x34, 16, 8, .ro, .l, 0, 0, 0xff, 0⟩
def NOISE_CNT_NOCAND : Fld := ⟨0x16, 0x34, 24, 8, .ro, .l, 0, 0, 0xff, 0⟩
def NOISE_EMEAS_E : Fld := ⟨0x16, 0x38, 0, 8, .ro, .l, 0, 0, 0xff, 0⟩
def NOISE_EMEAS_EPEAK : Fld := ⟨0x16, 0x38, 8, 8, .ro, .l, 0, 0, 0xff, 0⟩
def BASE_CTL_TRKEN : Fld := ⟨0x18, 0x20, 0, 1, .rw, .f, 1, 0, 1, 0⟩
def BASE_CTL_BORROWEN : Fld := ⟨0x18, 0x20, 1, 1, .rw, .f, 1, 0, 1, 0⟩
def BASE_CTL_PUCHK : Fld := ⟨0x18, 0x20, 2, 1, .rw, .f, 1, 0, 1, 0⟩
def BASE_CTL_TRKSH : Fld := ⟨0x18, 0x20, 4, 4, .rw, .f, 4, 0, 0xf, 0⟩
def BASE_CTL_TRKDIV : Fld := ⟨0x18, 0x20, 8, 4, .rw, .f, 7, 0, 0xf, 0⟩
def BASE_CTL_BORROWR : Fld := ⟨0x18, 0x20, 16, 5, .rw, .f, 8, 1, 0x1f, 1⟩
def BASE_CTL_SUSMIN : Fld := ⟨0x18, 0x20, 24, 4, .rw, .f, 4, 2, 0xf, 2⟩
def BASE_STALE_SECS : Fld := ⟨0x18, 0x2c, 0, 16, .rw, .f, 0, 0, 0xffff, 0⟩
def BASE_STALE_SUSTMO : Fld := ⟨0x18, 0x2c, 16, 16, .rw, .f, 0, 0, 0xffff, 0⟩
def BASE_CMD_OP : Fld := ⟨0x18, 0x30, 0, 4, .wo, .l, 0, 0, 3, 0⟩
def BASE_STAT_ACQ : Fld := ⟨0x18, 0x34, 0, 1, .ro, .l, 0, 0, 1, 0⟩
def BASE_STAT_SUSP : Fld := ⟨0x18, 0x34, 1, 1, .ro, .l, 0, 0, 1, 0⟩
def BASE_STAT_NOREF : Fld := ⟨0x18, 0x34, 2, 1, .ro, .l, 0, 0, 1, 0⟩
def BASE_STAT_ACQOVL : Fld := ⟨0x18, 0x34, 3, 1, .ro, .l, 0, 0, 1, 0⟩
def BASE_STAT_BOOTFR : Fld := ⟨0x18, 0x34, 4, 4, .ro, .l, 0, 0, 0xf, 0⟩
def BASE_STAT_M0 : Fld := ⟨0x18, 0x34, 16, 16, .ro, .l, 0, 0, 0xffff, 0⟩
def BASE_CNT_SUSN : Fld := ⟨0x18, 0x38, 0, 16, .ro, .l, 0, 0, 0xffff, 0⟩
def BASE_CNT_FRZN : Fld := ⟨0x18, 0x38, 16, 16, .ro, .l, 0, 0, 0xffff, 0⟩
def CAL_CMD_OP : Fld := ⟨0x19, 0x20, 0, 4, .wo, .l, 0, 0, 5, 0⟩
def CAL_CMD_ARG : Fld := ⟨0x19, 0x20, 8, 8, .wo, .l, 0, 0, 0xff, 0⟩
def CAL_STAT_BUSY : Fld := ⟨0x19, 0x24, 0, 1, .ro, .l, 0, 0, 1, 0⟩
def CAL_STAT_BG : Fld := ⟨0x19, 0x24, 1, 1, .ro, .l, 0, 0, 1, 0⟩
def CAL_STAT_REFUSED : Fld := ⟨0x19, 0x24, 2, 1, .w1c, .l, 0, 0, 1, 0⟩
def CAL_STAT_BGBLOCK : Fld := ⟨0x19, 0x24, 3, 1, .ro, .l, 0, 0, 1, 0⟩
def CAL_STAT_OP : Fld := ⟨0x19, 0x24, 4, 4, .ro, .l, 0, 0, 0xf, 0⟩
def CAL_STAT_PROG : Fld := ⟨0x19, 0x24, 8, 8, .ro, .l, 0, 0, 0xff, 0⟩
def CAL_RESULT_REASON : Fld := ⟨0x19, 0x28, 0, 4, .ro, .l, 0, 0, 0xf, 0⟩
def CAL_RESULT_OP : Fld := ⟨0x19, 0x28, 4, 4, .ro, .l, 0, 0, 0xf, 0⟩
def CAL_RESULT_ITEM : Fld := ⟨0x19, 0x28, 8, 8, .ro, .l, 0, 0, 0xff, 0⟩
def CAL_RESULT_INDEX : Fld := ⟨0x19, 0x28, 16, 8, .ro, .l, 0, 0, 0xff, 0⟩
def CAL_RESULT_SEQ : Fld := ⟨0x19, 0x28, 24, 8, .ro, .l, 0, 0, 0xff, 0⟩
def CAL_SCHED_PERIOD : Fld := ⟨0x19, 0x2c, 0, 16, .rw, .l, 0x258, 0, 0xffff, 0⟩
def CAL_SCHED_TDELTA : Fld := ⟨0x19, 0x2c, 16, 8, .rw, .l, 0xa, 0, 0xff, 0⟩
def CAL_CSEL_INDEX : Fld := ⟨0x19, 0x30, 0, 8, .rw, .l, 0, 0, 0xff, 0⟩
def CAL_CSEL_ITEM : Fld := ⟨0x19, 0x30, 8, 8, .rw, .l, 0, 0, 0xff, 0⟩
def PIPE_FILT_TCOEF : Fld := ⟨0x1a, 0x24, 0, 5, .rw, .f, 8, 1, 0x10, 1⟩
def PIPE_FILT_SPK : Fld := ⟨0x1a, 0x24, 8, 2, .rw, .f, 1, 0, 1, 0⟩
def PIPE_FILT_JUMP : Fld := ⟨0x1a, 0x24, 16, 10, .rw, .f, 0x96, 0, 0x3ff, 0⟩
def PIPE_THR_TON : Fld := ⟨0x1a, 0x28, 0, 10, .rw, .f, 0x64, 0, 0x3ff, 0⟩
def PIPE_THR_TOFF : Fld := ⟨0x1a, 0x28, 10, 10, .rw, .f, 0x46, 0, 0x3ff, 0⟩
def PIPE_THR_TPEAK : Fld := ⟨0x1a, 0x28, 20, 10, .rw, .f, 0x96, 0, 0x3ff, 0⟩
def PIPE_SEG_SPLIT : Fld := ⟨0x1a, 0x2c, 0, 4, .rw, .f, 0xc, 1, 0xf, 1⟩
def PIPE_SEG_MINAREA : Fld := ⟨0x1a, 0x2c, 8, 4, .rw, .f, 1, 1, 0xf, 1⟩
def PIPE_CLS_FINGPK : Fld := ⟨0x1a, 0x30, 0, 10, .rw, .f, 0xc8, 1, 0x3ff, 1⟩
def PIPE_CLS_STYA : Fld := ⟨0x1a, 0x30, 10, 4, .rw, .f, 4, 1, 0xf, 1⟩
def PIPE_CLS_PALMA : Fld := ⟨0x1a, 0x30, 16, 10, .rw, .f, 0x1e, 2, 0x3ff, 2⟩
def PIPE_TRACK_GATE : Fld := ⟨0x1a, 0x3c, 0, 8, .rw, .f, 8, 1, 0xff, 1⟩
def PIPE_GEST_TAPMAX : Fld := ⟨0x1a, 0x40, 0, 8, .rw, .f, 0x32, 1, 0xff, 1⟩
def PIPE_GEST_DTAPGAP : Fld := ⟨0x1a, 0x40, 8, 8, .rw, .f, 0x4b, 0, 0xff, 0⟩
def PIPE_GEST_MOVE : Fld := ⟨0x1a, 0x40, 16, 8, .rw, .f, 0x10, 1, 0xff, 1⟩
def PIPE_GEST_TAPEN : Fld := ⟨0x1a, 0x40, 24, 1, .rw, .f, 1, 0, 1, 0⟩
def PIPE_GEST_DRAGEN : Fld := ⟨0x1a, 0x40, 25, 1, .rw, .f, 1, 0, 1, 0⟩
def PIPE_GEST_PINCHEN : Fld := ⟨0x1a, 0x40, 26, 1, .rw, .f, 1, 0, 1, 0⟩
def PIPE_PINCH_PINCHTH : Fld := ⟨0x1a, 0x44, 0, 8, .rw, .f, 0x10, 1, 0xff, 1⟩
def PIPE_PINCH_PSTEP : Fld := ⟨0x1a, 0x44, 8, 8, .rw, .f, 0x20, 1, 0xff, 1⟩
def PIPE_GLOVE_ENTER : Fld := ⟨0x1a, 0x48, 0, 4, .rw, .f, 6, 1, 0xf, 1⟩
def PIPE_GLOVE_LEAVE : Fld := ⟨0x1a, 0x48, 8, 8, .rw, .f, 2, 1, 0xff, 1⟩
def PIPE_GLOVE_CANDPK : Fld := ⟨0x1a, 0x48, 16, 10, .rw, .f, 0x28, 1, 0x3ff, 1⟩
def PIPE_CNT_DROPPED : Fld := ⟨0x1a, 0x50, 0, 16, .ro, .l, 0, 0, 0xffff, 0⟩
def PIPE_CNT_OVERRUN : Fld := ⟨0x1a, 0x50, 16, 16, .ro, .l, 0, 0, 0xffff, 0⟩
def PIPE_CMD_CANCELALL : Fld := ⟨0x1a, 0x54, 0, 1, .wo, .l, 0, 0, 1, 0⟩
def PIPE_CMD_CNTCLR : Fld := ⟨0x1a, 0x54, 1, 1, .wo, .l, 0, 0, 1, 0⟩
def WORKRING_CTL_EXTEN : Fld := ⟨0x50, 0x20, 0, 1, .rw, .k, 1, 0, 1, 0⟩
def WORKRING_CTL_EXTKILL : Fld := ⟨0x50, 0x20, 1, 1, .rw, .l, 1, 0, 1, 0⟩
def WORKRING_CTL_WAVETMO : Fld := ⟨0x50, 0x20, 8, 8, .rw, .f, 0x14, 1, 0xff, 1⟩
def WORKRING_CTL_NACT : Fld := ⟨0x50, 0x20, 16, 6, .rw, .f, 0x20, 4, 0x20, 4⟩
def WORKRING_ERR_LOST : Fld := ⟨0x50, 0x3c, 0, 8, .ro, .l, 0, 0, 0xff, 0⟩
def WORKRING_ERR_WTMO : Fld := ⟨0x50, 0x3c, 8, 8, .ro, .l, 0, 0, 0xff, 0⟩
def WORKRING_ERR_EXTOVR : Fld := ⟨0x50, 0x3c, 16, 8, .ro, .l, 0, 0, 0xff, 0⟩
def WORKRING_ERR_PARKLATE : Fld := ⟨0x50, 0x3c, 24, 8, .ro, .l, 0, 0, 0xff, 0⟩
def WORKRING_ERRCLR_CLR : Fld := ⟨0x50, 0x40, 0, 1, .wo, .l, 0, 0, 1, 0⟩
def WORKRING_ERRCLR_PEAKCLR : Fld := ⟨0x50, 0x40, 1, 1, .wo, .l, 0, 0, 1, 0⟩
def WORKRING_CRIT_LASTUS : Fld := ⟨0x50, 0x44, 0, 16, .ro, .l, 0, 0, 0xffff, 0⟩
def WORKRING_CRIT_PEAKUS : Fld := ⟨0x50, 0x44, 16, 16, .ro, .l, 0, 0, 0xffff, 0⟩
def HOSTPORT_CFG_LANES : Fld := ⟨5, 0x20, 0, 2, .rw, .l, 0, 0, 2, 0⟩
def HOSTPORT_CFG_CAW : Fld := ⟨5, 0x20, 2, 1, .rw, .l, 0, 0, 1, 0⟩
def HOSTPORT_CFG_DUMMY : Fld := ⟨5, 0x20, 8, 5, .rw, .l, 8, 0, 0x1f, 0⟩
def HOSTPORT_STAT_LASTCMD : Fld := ⟨5, 0x24, 0, 8, .ro, .l, 0, 0, 0xff, 0⟩
def HOSTPORT_STAT_LASTADDR : Fld := ⟨5, 0x24, 16, 16, .ro, .l, 0, 0, 0xffff, 0⟩
def HOSTPORT_ERR_BADCMD : Fld := ⟨5, 0x28, 0, 8, .ro, .l, 0, 0, 0xff, 0⟩
def HOSTPORT_ERR_ALIGN : Fld := ⟨5, 0x28, 8, 8, .ro, .l, 0, 0, 0xff, 0⟩
def HOSTPORT_ERR_UNDER : Fld := ⟨5, 0x28, 16, 8, .ro, .l, 0, 0, 0xff, 0⟩
def HOSTPORT_ERR_CUT : Fld := ⟨5, 0x28, 24, 8, .ro, .l, 0, 0, 0xff, 0⟩
def HOSTPORT_ERRCLR_CLR : Fld := ⟨5, 0x2c, 0, 1, .wo, .l, 0, 0, 1, 0⟩
def IRQ_PEND_EVENT : Fld := ⟨7, 0x24, 4, 4, .w1c, .l, 0, 0, 0xf, 0⟩
def IRQ_MAP_SRC0 : Fld := ⟨7, 0x28, 0, 4, .rw, .l, 0, 0, 3, 0xf⟩
def IRQ_MAP_SRC1 : Fld := ⟨7, 0x28, 4, 4, .rw, .l, 1, 0, 3, 0xf⟩
def IRQ_MAP_SRC2 : Fld := ⟨7, 0x28, 8, 4, .rw, .l, 0xf, 0, 3, 0xf⟩
def IRQ_MAP_SRC3 : Fld := ⟨7, 0x28, 12, 4, .rw, .l, 2, 0, 3, 0xf⟩
def IRQ_MAP_SRC4 : Fld := ⟨7, 0x28, 16, 4, .rw, .l, 2, 0, 3, 0xf⟩
def IRQ_MAP_SRC5 : Fld := ⟨7, 0x28, 20, 4, .rw, .l, 3, 0, 3, 0xf⟩
def IRQ_MAP_SRC6 : Fld := ⟨7, 0x28, 24, 4, .rw, .l, 3, 0, 3, 0xf⟩
def IRQ_MAP_SRC7 : Fld := ⟨7, 0x28, 28, 4, .rw, .l, 1, 0, 3, 0xf⟩
def IRQ_PINCFG_POL : Fld := ⟨7, 0x2c, 0, 4, .rw, .l, 0, 0, 0xf, 0⟩
def IRQ_PINCFG_FSEV : Fld := ⟨7, 0x2c, 8, 2, .rw, .l, 1, 0, 3, 0⟩
def QUEUE_Q2PLANES_PLANES : Fld := ⟨0x1b, 0x60, 0, 5, .rw, .f, 0, 0, 0x1f, 0⟩
def QUEUE_Q2PLANES_RATE : Fld := ⟨0x1b, 0x60, 8, 4, .rw, .f, 0, 0, 0xf, 0⟩
def TWOWIRE_CFG_TGTEN : Fld := ⟨6, 0x20, 0, 1, .rw, .l, 1, 0, 1, 0⟩
def TWOWIRE_CFG_GCEN : Fld := ⟨6, 0x20, 1, 1, .rw, .l, 0, 0, 1, 0⟩
def TWOWIRE_CFG_FILT : Fld := ⟨6, 0x20, 4, 4, .rw, .l, 4, 0, 0xf, 0⟩
def TWOWIRE_CFG_STRETCH : Fld := ⟨6, 0x20, 8, 8, .rw, .l, 0x64, 1, 0xfa, 1⟩
def TWOWIRE_STAT_JOINED : Fld := ⟨6, 0x24, 0, 1, .ro, .l, 0, 0, 1, 0⟩
def TWOWIRE_STAT_ADDRESSED : Fld := ⟨6, 0x24, 1, 1, .ro, .l, 0, 0, 1, 0⟩
def TWOWIRE_STAT_STRETCHING : Fld := ⟨6, 0x24, 2, 1, .ro, .l, 0, 0, 1, 0⟩
def TWOWIRE_STAT_BUSBUSY : Fld := ⟨6, 0x24, 4, 1, .ro, .l, 0, 0, 1, 0⟩
def TWOWIRE_ERR_BUSABORT : Fld := ⟨6, 0x2c, 0, 8, .ro, .l, 0, 0, 0xff, 0⟩
def TWOWIRE_ERR_STRETCHTMO : Fld := ⟨6, 0x2c, 8, 8, .ro, .l, 0, 0, 0xff, 0⟩
def TWOWIRE_ERR_ARBLOST : Fld := ⟨6, 0x2c, 16, 8, .ro, .l, 0, 0, 0xff, 0⟩
def TWOWIRE_ERR_BUSCLEAR : Fld := ⟨6, 0x2c, 24, 8, .ro, .l, 0, 0, 0xff, 0⟩
def TWOWIRE_CCFG_SPEED : Fld := ⟨6, 0x34, 0, 2, .rw, .k, 1, 0, 2, 0⟩
def TWOWIRE_CCFG_RETRY : Fld := ⟨6, 0x34, 4, 4, .rw, .k, 3, 0, 0xf, 0⟩
def TWOWIRE_CCFG_EEADDR : Fld := ⟨6, 0x34, 8, 7, .rw, .k, 0x50, 8, 0x77, 8⟩
def TWOWIRE_CCMD_OP : Fld := ⟨6, 0x38, 0, 3, .wo, .l, 0, 0, 4, 0⟩
def TWOWIRE_CCMD_LEN : Fld := ⟨6, 0x38, 8, 6, .wo, .l, 0, 0, 0x3f, 0⟩
def TWOWIRE_CCMD_TARGET : Fld := ⟨6, 0x38, 16, 7, .wo, .l, 0, 0, 0x7f, 0⟩
def TWOWIRE_CSTAT_BUSY : Fld := ⟨6, 0x3c, 0, 1, .ro, .l, 0, 0, 1, 0⟩
def TWOWIRE_CSTAT_WBUSY : Fld := ⟨6, 0x3c, 1, 1, .ro, .l, 0, 0, 1, 0⟩
def TWOWIRE_CSTAT_REFUSED : Fld := ⟨6, 0x3c, 2, 1, .w1c, .l, 0, 0, 1, 0⟩
def TWOWIRE_CSTAT_RESULT : Fld := ⟨6, 0x3c, 4, 4, .ro, .l, 0, 0, 0xf, 0⟩
def TWOWIRE_CSTAT_ATTEMPTS : Fld := ⟨6, 0x3c, 8, 4, .ro, .l, 0, 0, 0xf, 0⟩
def TWOWIRE_CSTAT_WRESULT : Fld := ⟨6, 0x3c, 12, 4, .ro, .l, 0, 0, 0xf, 0⟩
def TWOWIRE_CSTAT_NBYTES : Fld := ⟨6, 0x3c, 16, 6, .ro, .l, 0, 0, 0x3f, 0⟩
def TWOWIRE_WMSG_EN : Fld := ⟨6, 0x44, 0, 1, .rw, .l, 0, 0, 1, 0⟩
def TWOWIRE_WMSG_WADDR : Fld := ⟨6, 0x44, 8, 7, .rw, .l, 0, 8, 0x77, 8⟩
def TWOWIRE_WMSG_PFX0 : Fld := ⟨6, 0x44, 16, 8, .rw, .l, 0, 0, 0xff, 0⟩
def TWOWIRE_WMSG_PFX1 : Fld := ⟨6, 0x44, 24, 8, .rw, .l, 0, 0, 0xff, 0⟩
def LINK_CFG_NDEV : Fld := ⟨8, 0x20, 0, 4, .rw, .l, 1, 1, 8, 1⟩
def LINK_TMO_CUFF : Fld := ⟨8, 0x24, 0, 8, .rw, .f, 0x32, 1, 0xff, 1⟩
def LINK_TMO_LIST : Fld := ⟨8, 0x24, 8, 8, .rw, .f, 0x28, 1, 0xff, 1⟩
def LINK_TMO_REJOIN : Fld := ⟨8, 0x24, 16, 8, .rw, .f, 0x10, 1, 0xff, 1⟩
def LINK_TMO_DISC : Fld := ⟨8, 0x24, 24, 8, .rw, .l, 0x14, 1, 0xff, 1⟩
def LINK_STAT_POS : Fld := ⟨8, 0x28, 0, 3, .ro, .l, 0, 0, 7, 0⟩
def LINK_STAT_RING : Fld := ⟨8, 0x28, 3, 1, .ro, .l, 0, 0, 1, 0⟩
def LINK_STAT_LOCKED : Fld := ⟨8, 0x28, 5, 1, .ro, .l, 0, 0, 1, 0⟩
def LINK_STAT_SYNCOK : Fld := ⟨8, 0x28, 6, 1, .ro, .l, 0, 0, 1, 0⟩
def LINK_STAT_PRESENT : Fld := ⟨8, 0x28, 8, 8, .ro, .l, 0, 0, 0xff, 0⟩
def LINK_STAT_STATE : Fld := ⟨8, 0x28, 24, 3, .ro, .l, 0, 0, 7, 0⟩
def LINK_PORT_UPST : Fld := ⟨8, 0x2c, 0, 2, .ro, .l, 0, 0, 3, 0⟩
def LINK_PORT_DNST : Fld := ⟨8, 0x2c, 2, 2, .ro, .l, 0, 0, 3, 0⟩
def LINK_PORT_NBRUP : Fld := ⟨8, 0x2c, 16, 3, .ro, .l, 0, 0, 7, 0⟩
def LINK_PORT_NBRDN : Fld := ⟨8, 0x2c, 24, 3, .ro, .l, 0, 0, 7, 0⟩
def LINK_ERRC_LATE : Fld := ⟨8, 0x38, 0, 8, .ro, .l, 0, 0, 0xff, 0⟩
def LINK_ERRC_LLATE : Fld := ⟨8, 0x38, 8, 8, .ro, .l, 0, 0, 0xff, 0⟩
def LINK_ERRC_FPAB : Fld := ⟨8, 0x38, 16, 8, .ro, .l, 0, 0, 0xff, 0⟩
def LINK_ERRC_SYNCERR : Fld := ⟨8, 0x38, 24, 8, .ro, .l, 0, 0, 0xff, 0⟩
def LINK_RCMD_OP : Fld := ⟨8, 0x40, 0, 2, .wo, .l, 0, 0, 3, 0⟩
def LINK_RCMD_POS : Fld := ⟨8, 0x40, 4, 3, .wo, .l, 0, 0, 7, 0⟩
def LINK_RCMD_ALL : Fld := ⟨8, 0x40, 7, 1, .wo, .l, 0, 0, 1, 0⟩
def LINK_RCMD_ADDR : Fld := ⟨8, 0x40, 16, 16, .wo, .l, 0, 0, 0xffff, 0⟩
def LINK_RSTAT_BUSY : Fld := ⟨8, 0x4c, 0, 1, .ro, .l, 0, 0, 1, 0⟩
def LINK_RSTAT_REFUSED : Fld := ⟨8, 0x4c, 1, 1, .w1c, .l, 0, 0, 1, 0⟩
def LINK_RSTAT_RESULT : Fld := ⟨8, 0x4c, 4, 4, .ro, .l, 0, 0, 0xf, 0⟩
def AOUT_CTL_SRCA : Fld := ⟨0x20, 0x20, 0, 2, .rw, .l, 2, 0, 2, 0⟩
def AOUT_CTL_SRCB : Fld := ⟨0x20, 0x20, 2, 2, .rw, .l, 2, 0, 2, 0⟩
def AOUT_CTL_HOLD : Fld := ⟨0x20, 0x20, 8, 8, .rw, .l, 5, 1, 0xff, 1⟩
def AOUT_STROBE_A : Fld := ⟨0x20, 0x24, 0, 1, .wo, .l, 0, 0, 1, 0⟩
def AOUT_STROBE_B : Fld := ⟨0x20, 0x24, 1, 1, .wo, .l, 0, 0, 1, 0⟩
def AOUT_FLT_SHORT : Fld := ⟨0x20, 0x34, 0, 8, .w1c, .l, 0, 0, 0xff, 0⟩
def PWR_CMD_OP : Fld := ⟨1, 0x20, 0, 3, .wo, .l, 0, 0, 2, 0⟩
def PWR_CMD_RETAIN : Fld := ⟨1, 0x20, 8, 1, .wo, .l, 0, 0, 1, 0⟩
def PWR_CMD_LFSTOP : Fld := ⟨1, 0x20, 9, 1, .wo, .l, 0, 0, 1, 0⟩
def PWR_CMD_KEY : Fld := ⟨1, 0x20, 16, 16, .wo, .l, 0, 0, 0xffff, 0⟩
def PWR_STAT_STATE : Fld := ⟨1, 0x24, 0, 2, .ro, .l, 0, 0, 3, 0⟩
def PWR_STAT_PHASE : Fld := ⟨1, 0x24, 4, 3, .ro, .l, 0, 0, 7, 0⟩
def PWR_STAT_REFUSED : Fld := ⟨1, 0x24, 7, 1, .w1c, .l, 0, 0, 1, 0⟩
def PWR_STAT_RESULT : Fld := ⟨1, 0x24, 8, 4, .ro, .l, 0, 0, 0xf, 0⟩
def PWR_STAT_REFUSER : Fld := ⟨1, 0x24, 16, 8, .ro, .l, 0, 0, 0xff, 0⟩
def PWR_WAKESTAT_SRC : Fld := ⟨1, 0x30, 0, 4, .w1c, .l, 0, 0, 0xf, 0⟩
def PWR_WAKESTAT_WAKEPIN : Fld := ⟨1, 0x30, 8, 1, .ro, .l, 0, 0, 1, 0⟩
def CLOCK_TBSTAT_VALID : Fld := ⟨2, 0x28, 0, 1, .ro, .l, 1, 0, 1, 0⟩
def CLOCK_TBSTAT_SRC : Fld := ⟨2, 0x28, 1, 2, .ro, .l, 2, 0, 3, 0⟩
def CLOCK_TBSTAT_ACC : Fld := ⟨2, 0x28, 3, 2, .ro, .l, 2, 0, 3, 0⟩
def CLOCK_TBSTAT_LFXOK : Fld := ⟨2, 0x28, 5, 1, .ro, .l, 0, 0, 1, 0⟩
def CLOCK_TBSTAT_ACK : Fld := ⟨2, 0x28, 8, 1, .wo, .l, 0, 0, 1, 0⟩
def NIGHTCAP_CTL_RATE : Fld := ⟨0x21, 0x20, 0, 6, .rw, .l, 0xa, 0xa, 0x32, 0xa⟩
def NIGHTCAP_CTL_TIME : Fld := ⟨0x21, 0x20, 8, 8, .rw, .l, 0x19, 1, 0xff, 1⟩
def NIGHTCAP_CTL_ZTH : Fld := ⟨0x21, 0x20, 16, 8, .rw, .l, 0x19, 1, 0xff, 1⟩
def NIGHTCAP_CTL_ZHYST : Fld := ⟨0x21, 0x20, 24, 4, .rw, .l, 4, 0, 0xf, 0⟩
def GOV_CTL_EN : Fld := ⟨0x22, 0x20, 0, 1, .rw, .f, 1, 0, 1, 0⟩
def GOV_CTL_NPTS : Fld := ⟨0x22, 0x20, 4, 4, .rw, .k, 0, 0, 0xf, 0⟩
def GOV_CTL_TOPPT : Fld := ⟨0x22, 0x20, 8, 4, .rw, .f, 0, 0, 0xf, 0⟩
def GOV_CTL_MINPT : Fld := ⟨0x22, 0x20, 12, 4, .rw, .f, 0xf, 0, 0xf, 0⟩
def GOV_CTL_UPDWELL : Fld := ⟨0x22, 0x20, 16, 8, .rw, .f, 0x10, 1, 0xff, 1⟩
def GOV_CTL_UPMARG : Fld := ⟨0x22, 0x20, 24, 4, .rw, .f, 5, 0, 0xf, 0⟩
def GOV_STAT_PTACT : Fld := ⟨0x22, 0x2c, 0, 4, .ro, .l, 0, 0, 0xf, 0⟩
def GOV_STAT_PTNEXT : Fld := ⟨0x22, 0x2c, 4, 4, .ro, .l, 0, 0, 0xf, 0⟩
def GOV_STAT_REASON : Fld := ⟨0x22, 0x2c, 8, 3, .ro, .l, 0, 0, 7, 0⟩
def GOV_STAT_BELOW : Fld := ⟨0x22, 0x2c, 11, 1, .ro, .l, 0, 0, 1, 0⟩
def GOV_STAT_EXHAUST : Fld := ⟨0x22, 0x2c, 12, 1, .ro, .l, 0, 0, 1, 0⟩
def GOV_STAT_HOTSENS : Fld := ⟨0x22, 0x2c, 13, 2, .ro, .l, 0, 0, 3, 0⟩
def FAULT_CTL_PINSEV : Fld := ⟨4, 0x20, 0, 2, .rw, .l, 2, 0, 3, 0⟩
def FAULT_CTL_FFSEV : Fld := ⟨4, 0x20, 2, 2, .rw, .l, 1, 0, 3, 0⟩
def FAULT_CTL_FIRSTCLR : Fld := ⟨4, 0x20, 8, 1, .wo, .l, 0, 0, 1, 0⟩
def FAULT_CTL_LOGCLR : Fld := ⟨4, 0x20, 9, 1, .wo, .l, 0, 0, 1, 0⟩
def FAULT_CTL_KEY : Fld := ⟨4, 0x20, 16, 16, .wo, .l, 0, 0, 0xffff, 0⟩
def FAULT_LOGSTAT_OVF : Fld := ⟨4, 0x84, 16, 16, .ro, .l, 0, 0, 0xffff, 0⟩
def FAULT_STCFG_QPERIOD : Fld := ⟨4, 0xa0, 0, 8, .rw, .l, 1, 0, 0xff, 0⟩
def FAULT_STCFG_TIME : Fld := ⟨4, 0xa0, 8, 8, .rw, .l, 0x19, 1, 0xff, 1⟩
def FAULT_STCFG_STIMLIM : Fld := ⟨4, 0xa0, 16, 8, .rw, .l, 0x40, 1, 0xff, 1⟩
def FAULT_STCFG_FLEXPCT : Fld := ⟨4, 0xa0, 24, 4, .rw, .l, 5, 1, 0xa, 1⟩
def FAULT_STCFG_AUTO : Fld := ⟨4, 0xa0, 28, 1, .rw, .l, 1, 0, 1, 0⟩
def NVS_ADDR : Fld := ⟨3, 0x24, 5, 14, .rw, .l, 0, 0, 0x3fff, 0⟩
def NVS_SEQA : Fld := ⟨3, 0x2c, 0, 32, .ro, .l, 0, 0, 0xffffffff, 0⟩
def NVS_SEQB : Fld := ⟨3, 0x30, 0, 32, .ro, .l, 0, 0, 0xffffffff, 0⟩
def NVS_CFGSEQ : Fld := ⟨3, 0x38, 0, 32, .ro, .l, 0, 0, 0xffffffff, 0⟩
def NVS_WBUF (i : Nat) : Fld := ⟨3, 0x40 + 4 * i, 0, 32, .rw, .l, 0, 0, 0xffffffff, 0⟩
def NVS_RBUF (i : Nat) : Fld := ⟨3, 0x60 + 4 * i, 0, 32, .ro, .l, 0, 0, 0xffffffff, 0⟩
def DRIVE_TXEN (i : Nat) : Fld := ⟨0x14, 0x40 + 4 * i, 0, 32, .rw, .k, 0xffffffff, 0, 0xffffffff, 0⟩
def DRIVE_TXFLT (i : Nat) : Fld := ⟨0x14, 0x60 + 4 * i, 0, 32, .w1c, .l, 0, 0, 0xffffffff, 0⟩
def DRIVE_FTAB_DLO (i : Nat) : Fld := ⟨0x14, 0x80 + 4 * i, 0, 12, .rw, .k, (ftabReset (2 * i)), 0xc8, 0x960, 0xc8⟩
def DRIVE_FTAB_DHI (i : Nat) : Fld := ⟨0x14, 0x80 + 4 * i, 16, 12, .rw, .k, (ftabReset (2 * i + 1)), 0xc8, 0x960, 0xc8⟩
def SLICE_CTL_SDIV (s : Nat) : Fld := ⟨0x10 + s, 0x20, 0, 4, .rw, .f, 0xb, 3, 0xf, 3⟩
def SLICE_CTL_VS (s : Nat) : Fld := ⟨0x10 + s, 0x20, 4, 3, .rw, .f, 2, 0, 4, 0⟩
def SLICE_CTL_CTH (s : Nat) : Fld := ⟨0x10 + s, 0x20, 8, 3, .rw, .f, 3, 0, 4, 0⟩
def SLICE_CTL_CMAX (s : Nat) : Fld := ⟨0x10 + s, 0x20, 16, 8, .rw, .f, 0xf, 0, 0xff, 0⟩
def SLICE_CTL_OVLIM (s : Nat) : Fld := ⟨0x10 + s, 0x20, 24, 8, .rw, .f, 0, 0, 0xff, 0⟩
def SLICE_STAT_GENBUSY (s : Nat) : Fld := ⟨0x10 + s, 0x24, 0, 1, .ro, .l, 0, 0, 1, 0⟩
def SLICE_STAT_GAP (s : Nat) : Fld := ⟨0x10 + s, 0x24, 1, 1, .ro, .l, 0, 0, 1, 0⟩
def SLICE_STAT_GAPUS (s : Nat) : Fld := ⟨0x10 + s, 0x24, 8, 8, .ro, .l, 0, 0, 0xff, 0⟩
def SLICE_STAT_VTXTAG (s : Nat) : Fld := ⟨0x10 + s, 0x24, 16, 4, .ro, .l, 0, 0, 0xf, 0⟩
def SLICE_ERRCNT_OVLCNT (s : Nat) : Fld := ⟨0x10 + s, 0x30, 0, 16, .ro, .l, 0, 0, 0xffff, 0⟩
def SLICE_ERRCNT_CLPCNT (s : Nat) : Fld := ⟨0x10 + s, 0x30, 16, 16, .ro, .l, 0, 0, 0xffff, 0⟩
def SLICE_CNTCLR_CLR (s : Nat) : Fld := ⟨0x10 + s, 0x34, 0, 1, .wo, .l, 0, 0, 1, 0⟩
def SLICE_OVL_CH (s : Nat) : Fld := ⟨0x10 + s, 0x28, 0, 24, .ro, .l, 0, 0, 0xffffff, 0⟩
def SLICE_CLAMP_CH (s : Nat) : Fld := ⟨0x10 + s, 0x2c, 0, 24, .ro, .l, 0, 0, 0xffffff, 0⟩
def SLICE_CH_GAIN (s k : Nat) : Fld := ⟨0x10 + s, 0x40 + 4 * k, 0, 3, .rw, .f, 4, 0, 7, 0⟩
def SLICE_CH_CRANGE (s k : Nat) : Fld := ⟨0x10 + s, 0x40 + 4 * k, 4, 2, .rw, .f, 3, 0, 3, 0⟩
def SLICE_CH_CRACT (s k : Nat) : Fld := ⟨0x10 + s, 0x40 + 4 * k, 6, 2, .ro, .l, 0, 0, 3, 0⟩
def SLICE_CH_BULKM (s k : Nat) : Fld := ⟨0x10 + s, 0x40 + 4 * k, 8, 6, .rw, .f, 0, 0, 0x3f, 0⟩
def SLICE_CH_BULKS (s k : Nat) : Fld := ⟨0x10 + s, 0x40 + 4 * k, 16, 6, .rw, .f, 0x10, 0, 0x3f, 0⟩
def SLICE_CH_EN (s k : Nat) : Fld := ⟨0x10 + s, 0x40 + 4 * k, 24, 1, .rw, .k, 1, 0, 1, 0⟩
def SLICE_CH_COMPEN (s k : Nat) : Fld := ⟨0x10 + s, 0x40 + 4 * k, 25, 1, .rw, .f, 1, 0, 1, 0⟩
def NOISE_CAND0_E0 : Fld := ⟨0x16, 0x28, 0, 5, .rw, .f, 0x15, 0, 0x1f, 0⟩
def NOISE_CAND0_E1 : Fld := ⟨0x16, 0x28, 8, 5, .rw, .f, 0x18, 0, 0x1f, 0⟩
def NOISE_CAND0_E2 : Fld := ⟨0x16, 0x28, 16, 5, .rw, .f, 0x1b, 0, 0x1f, 0⟩
def NOISE_CAND0_E3 : Fld := ⟨0x16, 0x28, 24, 5, .rw, .f, 0x12, 0, 0x1f, 0⟩
def NOISE_CAND1_E4 : Fld := ⟨0x16, 0x2c, 0, 5, .rw, .f, 0x1d, 0, 0x1f, 0⟩
def NOISE_CAND1_E5 : Fld := ⟨0x16, 0x2c, 8, 5, .rw, .f, 0xf, 0, 0x1f, 0⟩
def NOISE_CAND1_E6 : Fld := ⟨0x16, 0x2c, 16, 5, .rw, .f, 0x17, 0, 0x1f, 0⟩
def NOISE_CAND1_E7 : Fld := ⟨0x16, 0x2c, 24, 5, .rw, .f, 0xc, 0, 0x1f, 0⟩
def NOISE_NF (i : Nat) : Fld := ⟨0x16, 0x40 + 4 * (i / 4), 8 * (i % 4), 8, .ro, .l, 0, 0, 0xff, 0⟩
def NOISE_NFVALID : Fld := ⟨0x16, 0x60, 0, 32, .ro, .l, 0, 0, 0xffffffff, 0⟩
def BASE_THR_TRKTH : Fld := ⟨0x18, 0x24, 0, 10, .rw, .f, 0x3c, 1, 0x3ff, 1⟩
def BASE_THR_SUSTH : Fld := ⟨0x18, 0x24, 10, 10, .rw, .f, 0x78, 1, 0x3ff, 1⟩
def BASE_THR_REVTH : Fld := ⟨0x18, 0x24, 20, 10, .rw, .f, 0xc8, 4, 0x3ff, 4⟩
def BASE_STHR_TRKTH : Fld := ⟨0x18, 0x28, 0, 10, .rw, .f, 8, 1, 0x3ff, 1⟩
def BASE_STHR_SUSTH : Fld := ⟨0x18, 0x28, 10, 10, .rw, .f, 0, 0, 0, 0⟩
def BASE_STHR_REVTH : Fld := ⟨0x18, 0x28, 20, 10, .rw, .f, 0x18, 4, 0x3ff, 4⟩
def PIPE_WATER_WSELF : Fld := ⟨0x1a, 0x34, 0, 8, .rw, .f, 0xc, 1, 0xff, 1⟩
def PIPE_WATER_WEN : Fld := ⟨0x1a, 0x34, 8, 1, .rw, .f, 1, 0, 1, 0⟩
def PIPE_HOVER_HOVTH : Fld := ⟨0x1a, 0x38, 0, 8, .rw, .f, 0x14, 1, 0xff, 1⟩
def PIPE_CTL_RPTMASK : Fld := ⟨0x1a, 0x20, 0, 7, .rw, .f, 0x3e, 0, 0x7f, 0⟩
def PIPE_CTL_IDLE : Fld := ⟨0x1a, 0x20, 8, 1, .rw, .f, 0, 0, 1, 0⟩
def PIPE_CTL_AUTOGLV : Fld := ⟨0x1a, 0x20, 9, 1, .rw, .f, 1, 0, 1, 0⟩
def PIPE_CTL_CLSHOLD : Fld := ⟨0x1a, 0x20, 12, 4, .rw, .f, 3, 1, 0xf, 1⟩
def PIPE_CTL_LIFTFR : Fld := ⟨0x1a, 0x20, 16, 4, .rw, .f, 1, 1, 0xf, 1⟩
def VCTRL_SEL : Fld := ⟨0x1c, 0x20, 0, 4, .rw, .l, 0, 0, 0xf, 0⟩
def VCTRL_DEF_TYPE (c : Nat) : Fld := ⟨0x100 + c, 0x24, 0, 3, .rw, .f, 0, 0, 4, 0⟩
def VCTRL_DEF_REL (c : Nat) : Fld := ⟨0x100 + c, 0x24, 3, 2, .rw, .f, 0, 0, 1, 0⟩
def VCTRL_DEF_CLASSES (c : Nat) : Fld := ⟨0x100 + c, 0x24, 8, 5, .rw, .f, 0xe, 0, 0x1f, 0⟩
def VCTRL_DEF_OUTA (c : Nat) : Fld := ⟨0x100 + c, 0x24, 16, 4, .rw, .f, 0xf, 0, 7, 0xf⟩
def VCTRL_DEF_OUTB (c : Nat) : Fld := ⟨0x100 + c, 0x24, 20, 4, .rw, .f, 0xf, 0, 7, 0xf⟩
def VCTRL_DEF_EVSTEP (c : Nat) : Fld := ⟨0x100 + c, 0x24, 24, 8, .rw, .f, 4, 0, 0xff, 0⟩
def VCTRL_RECTA_X0 (c : Nat) : Fld := ⟨0x100 + c, 0x28, 0, 16, .rw, .f, 0, 0, 0xffff, 0⟩
def VCTRL_RECTA_Y0 (c : Nat) : Fld := ⟨0x100 + c, 0x28, 16, 16, .rw, .f, 0, 0, 0xffff, 0⟩
def VCTRL_RECTB_X1 (c : Nat) : Fld := ⟨0x100 + c, 0x2c, 0, 16, .rw, .f, 0, 0, 0xffff, 0⟩
def VCTRL_RECTB_Y1 (c : Nat) : Fld := ⟨0x100 + c, 0x2c, 16, 16, .rw, .f, 0, 0, 0xffff, 0⟩
def VCTRL_KNOBA_RIN (c : Nat) : Fld := ⟨0x100 + c, 0x30, 0, 16, .rw, .f, 0, 0, 0xffff, 0⟩
def VCTRL_KNOBA_ROUT (c : Nat) : Fld := ⟨0x100 + c, 0x30, 16, 16, .rw, .f, 0, 0, 0xffff, 0⟩
def VCTRL_KNOBB_START (c : Nat) : Fld := ⟨0x100 + c, 0x34, 0, 16, .rw, .f, 0, 0, 0xffff, 0⟩
def VCTRL_KNOBB_SPAN (c : Nat) : Fld := ⟨0x100 + c, 0x34, 16, 16, .rw, .f, 0, 0, 0xffff, 0⟩
def VCTRL_REST_A (c : Nat) : Fld := ⟨0x100 + c, 0x38, 0, 16, .rw, .f, 0x8000, 0, 0xffff, 0⟩
def VCTRL_REST_B (c : Nat) : Fld := ⟨0x100 + c, 0x38, 16, 16, .rw, .f, 0x8000, 0, 0xffff, 0⟩
def ENG_CTL_HALT (e : Nat) : Fld := ⟨0x30 + e, 0x20, 0, 1, .rw, .l, 0, 0, 1, 0⟩
def ENG_CTL_BP0EN (e : Nat) : Fld := ⟨0x30 + e, 0x20, 2, 1, .rw, .l, 0, 0, 1, 0⟩
def ENG_CTL_BP1EN (e : Nat) : Fld := ⟨0x30 + e, 0x20, 3, 1, .rw, .l, 0, 0, 1, 0⟩
def ENG_CTL_BRKEN (e : Nat) : Fld := ⟨0x30 + e, 0x20, 4, 1, .rw, .l, 0, 0, 1, 0⟩
def ENG_CTL_STEP (e : Nat) : Fld := ⟨0x30 + e, 0x20, 1, 1, .wo, .l, 0, 0, 1, 0⟩
def ENG_CTL_RESTART (e : Nat) : Fld := ⟨0x30 + e, 0x20, 5, 1, .wo, .l, 0, 0, 1, 0⟩
def ENG_BP0 (e : Nat) : Fld := ⟨0x30 + e, 0x2c, 0, 16, .rw, .l, 0, 0, 0xffff, 0⟩
def ENG_BP1 (e : Nat) : Fld := ⟨0x30 + e, 0x30, 0, 16, .rw, .l, 0, 0, 0xffff, 0⟩
def ENG_DMAD (e : Nat) : Fld := ⟨0x30 + e, 0x38, 2, 10, .rw, .l, 0, 0, 0x3ff, 0⟩
def WORKRING_POSTED : Fld := ⟨0x50, 0x34, 0, 32, .ro, .l, 0, 0, 0xffffffff, 0⟩
def WORKRING_DONE : Fld := ⟨0x50, 0x38, 0, 32, .ro, .l, 0, 0, 0xffffffff, 0⟩
def QUEUE_CTL_WMARK (n : Nat) : Fld := ⟨0x1b, 0x20 + 4 * n, 0, 13, .rw, .l, 1, 0, 0x1fff, 0⟩
def QUEUE_CTL_OVF (n : Nat) : Fld := ⟨0x1b, 0x20 + 4 * n, 16, 1, .rw, .l, (if n = 0 then 0 else 1), 0, 1, 0⟩
def QUEUE_CTL_FLUSH (n : Nat) : Fld := ⟨0x1b, 0x20 + 4 * n, 17, 1, .wo, .l, 0, 0, 1, 0⟩
def QUEUE_CTL_SKIP (n : Nat) : Fld := ⟨0x1b, 0x20 + 4 * n, 18, 1, .wo, .l, 0, 0, 1, 0⟩
def QUEUE_SEQ_NEXT (n : Nat) : Fld := ⟨0x1b, 0x40 + 4 * n, 0, 16, .ro, .l, 0, 0, 0xffff, 0⟩
def QUEUE_SEQ_DROPS (n : Nat) : Fld := ⟨0x1b, 0x40 + 4 * n, 16, 16, .ro, .l, 0, 0, 0xffff, 0⟩
def QUEUE_CNTCLR_CLR : Fld := ⟨0x1b, 0x50, 0, 4, .wo, .l, 0, 0, 0xf, 0⟩
def QUEUE_Q2ORG_X0 : Fld := ⟨0x1b, 0x64, 0, 16, .rw, .f, 0, 0, 0xffff, 0⟩
def QUEUE_Q2ORG_Y0 : Fld := ⟨0x1b, 0x64, 16, 16, .rw, .f, 0, 0, 0xffff, 0⟩
def QUEUE_Q2SIZE_W : Fld := ⟨0x1b, 0x68, 0, 16, .rw, .f, 1, 1, 0x300, 1⟩
def QUEUE_Q2SIZE_H : Fld := ⟨0x1b, 0x68, 16, 16, .rw, .f, 1, 1, 0x200, 1⟩
def QUEUE_Q2DEC_DECX : Fld := ⟨0x1b, 0x6c, 0, 4, .rw, .f, 0, 0, 0xf, 0⟩
def QUEUE_Q2DEC_DECY : Fld := ⟨0x1b, 0x6c, 8, 4, .rw, .f, 0, 0, 0xf, 0⟩
def TWOWIRE_PTR : Fld := ⟨6, 0x28, 0, 16, .ro, .l, 0, 0, 0xffff, 0⟩
def TWOWIRE_ERRCLR_CLR : Fld := ⟨6, 0x30, 0, 1, .wo, .l, 0, 0, 1, 0⟩
def TWOWIRE_CADDR : Fld := ⟨6, 0x40, 0, 16, .rw, .l, 0, 0, 0xffff, 0⟩
def TWOWIRE_CBUF (i : Nat) : Fld := ⟨6, 0x60 + 4 * i, 0, 32, .rw, .l, 0, 0, 0xffffffff, 0⟩
def LINK_ERRUP_CODE : Fld := ⟨8, 0x30, 0, 8, .ro, .l, 0, 0, 0xff, 0⟩
def LINK_ERRUP_CRC : Fld := ⟨8, 0x30, 8, 8, .ro, .l, 0, 0, 0xff, 0⟩
def LINK_ERRUP_LOSTPK : Fld := ⟨8, 0x30, 16, 8, .ro, .l, 0, 0, 0xff, 0⟩
def LINK_ERRUP_DOWN : Fld := ⟨8, 0x30, 24, 8, .ro, .l, 0, 0, 0xff, 0⟩
def LINK_ERRDN_CODE : Fld := ⟨8, 0x34, 0, 8, .ro, .l, 0, 0, 0xff, 0⟩
def LINK_ERRDN_CRC : Fld := ⟨8, 0x34, 8, 8, .ro, .l, 0, 0, 0xff, 0⟩
def LINK_ERRDN_LOSTPK : Fld := ⟨8, 0x34, 16, 8, .ro, .l, 0, 0, 0xff, 0⟩
def LINK_ERRDN_DOWN : Fld := ⟨8, 0x34, 24, 8, .ro, .l, 0, 0, 0xff, 0⟩
def LINK_ERRCLR_CLR : Fld := ⟨8, 0x3c, 0, 1, .wo, .l, 0, 0, 1, 0⟩
def LINK_RWDATA : Fld := ⟨8, 0x44, 0, 32, .rw, .l, 0, 0, 0xffffffff, 0⟩
def LINK_RRDATA : Fld := ⟨8, 0x48, 0, 32, .ro, .l, 0, 0, 0xffffffff, 0⟩
def LINK_MAP_NTX (k : Nat) : Fld := ⟨8, 0x60 + 4 * k, 0, 8, .rw, .l, 0xa0, 0, 0xa0, 0⟩
def LINK_MAP_NRX (k : Nat) : Fld := ⟨8, 0x60 + 4 * k, 8, 7, .rw, .l, 0x60, 1, 0x60, 1⟩
def AOUT_SPAN (n : Nat) : Fld := ⟨0x20, 0x28, 2 * n, 2, .rw, .l, 0, 0, 2, 0⟩
def AOUT_SLEW (n : Nat) : Fld := ⟨0x20, 0x2c, 4 * n, 4, .rw, .l, 0, 0, 0xf, 0⟩
def AOUT_STAT_ST (n : Nat) : Fld := ⟨0x20, 0x30, 3 * n, 3, .ro, .l, 0, 0, 7, 0⟩
def AOUT_STAT_AVOGOOD : Fld := ⟨0x20, 0x30, 25, 1, .ro, .l, 0, 0, 1, 0⟩
def AOUT_STAT_VREFOK : Fld := ⟨0x20, 0x30, 26, 1, .ro, .l, 0, 0, 1, 0⟩
def AOUT_IN (n : Nat) : Fld := ⟨0x20, 0x40 + 4 * n, 0, 16, .rw, .l, 0, 0, 0xffff, 0⟩
def AOUT_ACT (n : Nat) : Fld := ⟨0x20, 0x60 + 4 * n, 0, 16, .ro, .l, 0, 0, 0xffff, 0⟩
def AOUT_OUT (n : Nat) : Fld := ⟨0x20, 0x80 + 4 * n, 0, 16, .ro, .l, 0, 0, 0xffff, 0⟩
def PWR_REFUSE_TMO : Fld := ⟨1, 0x28, 0, 16, .rw, .l, 0x7d0, 0x64, 0x4e20, 0x64⟩
def PWR_WAKEEN : Fld := ⟨1, 0x2c, 0, 4, .rw, .l, 7, 0, 0xf, 0⟩
def PWR_TIMER : Fld := ⟨1, 0x34, 0, 24, .rw, .l, 0, 0, 0xffffff, 0⟩
def CLOCK_TBHI : Fld := ⟨2, 0x24, 0, 16, .ro, .l, 0, 0, 0xffff, 0⟩
def CLOCK_LFCTL : Fld := ⟨2, 0x2c, 0, 1, .rw, .l, 0, 0, 1, 0⟩
def NIGHTCAP_ZEN : Fld := ⟨0x21, 0x24, 0, 16, .rw, .l, 0, 0, 0xffff, 0⟩
def NIGHTCAP_GEN : Fld := ⟨0x21, 0x24, 16, 8, .rw, .l, 0, 0, 0xff, 0⟩
def NIGHTCAP_GSEL : Fld := ⟨0x21, 0x28, 0, 3, .rw, .l, 0, 0, 7, 0⟩
def NIGHTCAP_DET : Fld := ⟨0x21, 0x2c, 0, 8, .w1c, .l, 0, 0, 0xff, 0⟩
def NIGHTCAP_LASTG : Fld := ⟨0x21, 0x2c, 8, 3, .ro, .l, 0, 0, 7, 0⟩
def NIGHTCAP_ZONE_FIRST (z : Nat) : Fld := ⟨0x21, 0x40 + 4 * z, 0, 9, .rw, .l, 0, 0, 0x1ff, 0⟩
def NIGHTCAP_ZONE_LAST (z : Nat) : Fld := ⟨0x21, 0x40 + 4 * z, 16, 9, .rw, .l, 0, 0, 0x1ff, 0⟩
def NIGHTCAP_STEP (g k : Nat) : Fld := ⟨0x120 + g, 0xC0 + 4 * k, 0, 32, .rw, .l, 0, 0, 0xffffffff, 0⟩
def GOV_BUDGET_MW : Fld := ⟨0x22, 0x24, 0, 16, .rw, .f, 0x1770, 0x1f4, 0x4e20, 0x1f4⟩
def GOV_TEMP_TCEIL : Fld := ⟨0x22, 0x28, 0, 8, .rw, .f, 0x69, 0x32, 0x7d, 0x32⟩
def GOV_TEMP_THYST : Fld := ⟨0x22, 0x28, 8, 4, .rw, .f, 5, 1, 0xf, 1⟩
def GOV_MEAS_PMW : Fld := ⟨0x22, 0x30, 0, 16, .ro, .l, 0, 0, 0xffff, 0⟩
def GOV_MEAS_TMAX : Fld := ⟨0x22, 0x30, 16, 16, .ro, .l, 0, 0, 0xffff, 0⟩
def GOV_VI_VIN : Fld := ⟨0x22, 0x34, 0, 16, .ro, .l, 0, 0, 0xffff, 0⟩
def GOV_VI_IIN : Fld := ⟨0x22, 0x34, 16, 16, .ro, .l, 0, 0, 0xffff, 0⟩
def GOV_TS (i : Nat) : Fld := ⟨0x22, 0x38 + 4 * (i / 2), 16 * (i % 2), 16, .ro, .l, 0, 0, 0xffff, 0⟩
def GOV_PT_VTX (k : Nat) : Fld := ⟨0x22, 0x40 + 4 * k, 0, 4, .rw, .k, 5, 0, 0xf, 0⟩
def GOV_PT_K (k : Nat) : Fld := ⟨0x22, 0x40 + 4 * k, 4, 3, .rw, .k, 1, 0, 7, 0⟩
def GOV_PT_REPS (k : Nat) : Fld := ⟨0x22, 0x40 + 4 * k, 8, 2, .rw, .k, 0, 0, 3, 0⟩
def GOV_PT_FDIV (k : Nat) : Fld := ⟨0x22, 0x40 + 4 * k, 12, 4, .rw, .k, 0, 0, 0xf, 0⟩
def GOV_PT_NACT (k : Nat) : Fld := ⟨0x22, 0x40 + 4 * k, 16, 6, .rw, .k, 0x20, 4, 0x20, 4⟩
def GOV_PT_KPT (k : Nat) : Fld := ⟨0x22, 0x40 + 4 * k, 24, 6, .rw, .k, 0x20, 1, 0x3f, 1⟩
def GOV_EST (i : Nat) : Fld := ⟨0x22, 0x80 + 4 * (i / 2), 16 * (i % 2), 16, .ro, .l, 0, 0, 0xffff, 0⟩
def GOV_CNT_DOWNS : Fld := ⟨0x22, 0xa0, 0, 16, .ro, .l, 0, 0, 0xffff, 0⟩
def GOV_CNT_UPS : Fld := ⟨0x22, 0xa0, 16, 16, .ro, .l, 0, 0, 0xffff, 0⟩
def TEST_KEY : Fld := ⟨0xf0, 0x20, 0, 16, .wo, .l, 0, 0, 0xffff, 0⟩
def TEST_STAT_UNLOCKED : Fld := ⟨0xf0, 0x24, 0, 1, .ro, .l, 0, 0, 1, 0⟩
def TEST_STAT_FUSED : Fld := ⟨0xf0, 0x24, 1, 1, .ro, .l, 0, 0, 1, 0⟩
def TEST_INJ_SRC : Fld := ⟨0xf0, 0x28, 0, 8, .wo, .l, 0, 0, 0xff, 0⟩
def TEST_INJ_KIND : Fld := ⟨0xf0, 0x28, 8, 8, .wo, .l, 0, 0, 0xff, 0⟩
def TEST_INJ_SEV : Fld := ⟨0xf0, 0x28, 16, 2, .wo, .l, 0, 0, 3, 0⟩
def TEST_INJ_GO : Fld := ⟨0xf0, 0x28, 31, 1, .wo, .l, 0, 0, 1, 0⟩
def TEST_INJAD_ADDR : Fld := ⟨0xf0, 0x2c, 0, 16, .rw, .l, 0, 0, 0xffff, 0⟩
def TEST_INJAD_DETAIL : Fld := ⟨0xf0, 0x2c, 16, 16, .rw, .l, 0, 0, 0xffff, 0⟩
def TEST_FUSE : Fld := ⟨0xf0, 0x30, 0, 16, .wo, .l, 0, 0, 0xffff, 0⟩
def FAULT_SEQ_NEXT : Fld := ⟨4, 0x28, 0, 16, .ro, .l, 0, 0, 0xffff, 0⟩
def FAULT_SEQ_PLDROP : Fld := ⟨4, 0x28, 16, 16, .ro, .l, 0, 0, 0xffff, 0⟩
def FAULT_LOGIDX : Fld := ⟨4, 0x80, 0, 6, .rw, .l, 0, 0, 0x3f, 0⟩
def FAULT_STCMD_OP : Fld := ⟨4, 0x98, 0, 2, .wo, .l, 0, 0, 3, 0⟩
def FAULT_STSTAT_BUSY : Fld := ⟨4, 0x9c, 0, 1, .ro, .l, 0, 0, 1, 0⟩
def FAULT_STSTAT_REFUSED : Fld := ⟨4, 0x9c, 1, 1, .w1c, .l, 0, 0, 1, 0⟩
def FAULT_STSTAT_RESULT : Fld := ⟨4, 0x9c, 4, 4, .ro, .l, 0, 0, 0xf, 0⟩
def FAULT_STSTAT_FRAMES : Fld := ⟨4, 0x9c, 8, 8, .ro, .l, 0, 0, 0xff, 0⟩
def FAULT_STSTAT_NFAIL : Fld := ⟨4, 0x9c, 16, 9, .ro, .l, 0, 0, 0x1ff, 0⟩
def FAULT_STLIM_OPENLIM : Fld := ⟨4, 0xa4, 0, 16, .rw, .l, 0x2000, 0, 0xffff, 0⟩
def FAULT_STLIM_SHORTLIM : Fld := ⟨4, 0xa4, 16, 16, .rw, .l, 0x40, 0, 0xffff, 0⟩
def FAULT_STAUX_LINE : Fld := ⟨4, 0xa8, 0, 9, .rw, .l, 0, 0, 0x1ff, 0⟩
def FAULT_STAUX_RXMUT : Fld := ⟨4, 0xa8, 20, 12, .rw, .l, 0x64, 1, 0xfff, 1⟩
def FAULT_STCNT_DEV : Fld := ⟨4, 0xac, 16, 16, .ro, .l, 0, 0, 0xffff, 0⟩
def FAULT_TXOPEN (i : Nat) : Fld := ⟨4, 0xB0 + 4 * i, 0, 32, .ro, .l, 0, 0, 0xffffffff, 0⟩
def FAULT_TXSHORT (i : Nat) : Fld := ⟨4, 0xC4 + 4 * i, 0, 32, .ro, .l, 0, 0, 0xffffffff, 0⟩
def FAULT_RXOPEN (i : Nat) : Fld := ⟨4, 0xD8 + 4 * i, 0, 32, .ro, .l, 0, 0, 0xffffffff, 0⟩
def FAULT_RXSHORT (i : Nat) : Fld := ⟨4, 0xE4 + 4 * i, 0, 32, .ro, .l, 0, 0, 0xffffffff, 0⟩
def FAULT_RXMASK (i : Nat) : Fld := ⟨4, 0xF0 + 4 * i, 0, 32, .w1c, .l, 0, 0, 0xffffffff, 0⟩
def SCANTABLE_WBASE (t : Nat) : Fld := ⟨0x60 + t, 0x20, 0, 8, .rw, .l, 0, 0, 0xff, 0⟩
def SCANTABLE_WORD (t k : Nat) : Fld := ⟨0x140 + t, 4 * k, 0, 32, .rw, .k, 0, 0, 0xffffffff, 0⟩
def PCTRL_EN (p : Nat) : Fld := ⟨p, 4, 0, 1, .rw, .l, 1, 0, 1, 0⟩
def PCTRL_BRST (p : Nat) : Fld := ⟨p, 4, 1, 1, .wo, .l, 0, 0, 1, 0⟩
def PCTRL_APPLY (p : Nat) : Fld := ⟨p, 4, 2, 1, .wo, .l, 0, 0, 1, 0⟩
def PSTAT_WRERR (p : Nat) : Fld := ⟨p, 8, 2, 1, .w1c, .l, 0, 0, 1, 0⟩
def PIRQ_MSG (p : Nat) : Fld := ⟨p, 0xc, 0, 1, .w1c, .l, 0, 0, 1, 0⟩
def PIRQ_WRERR (p : Nat) : Fld := ⟨p, 0xc, 1, 1, .w1c, .l, 0, 0, 1, 0⟩
def PIEN_MSG (p : Nat) : Fld := ⟨p, 0x10, 0, 1, .rw, .l, 1, 0, 1, 0⟩
def PIEN_WRERR (p : Nat) : Fld := ⟨p, 0x10, 1, 1, .rw, .l, 1, 0, 1, 0⟩
def PFMASK_NOTE (p : Nat) : Fld := ⟨p, 0x14, 0, 1, .rw, .l, 0, 0, 1, 0⟩
def PFMASK_WARN (p : Nat) : Fld := ⟨p, 0x14, 1, 1, .rw, .l, 0, 0, 1, 0⟩
def PLOCK_LOCKED (p : Nat) : Fld := ⟨p, 0x18, 0, 1, .ro, .l, 0, 0, 1, 0⟩
def PLOCK_SET (p : Nat) : Fld := ⟨p, 0x18, 8, 1, .wo, .l, 0, 0, 1, 0⟩
def PLOCK_KEY (p : Nat) : Fld := ⟨p, 0x18, 16, 16, .wo, .l, 0, 0, 0xffff, 0⟩
def DRIVE_BSTAT_LIVE0 : Fld := ⟨0x14, 0x38, 9, 1, .ro, .l, 0, 0, 1, 0⟩
def DRIVE_BSTAT_LIVE1 : Fld := ⟨0x14, 0x38, 10, 1, .ro, .l, 0, 0, 1, 0⟩

end R

/-! The fields of each page, in the order of spec/18 R461. -/

/-- The common page header at offsets 0x04 to 0x18 (18 R454). -/
def headerFields (p : Nat) : List Fld :=
  [R.PCTRL_EN p, R.PCTRL_BRST p, R.PCTRL_APPLY p, R.PSTAT_WRERR p, R.PIRQ_MSG p, R.PIRQ_WRERR p, R.PIEN_MSG p, R.PIEN_WRERR p, R.PFMASK_NOTE p, R.PFMASK_WARN p, R.PLOCK_LOCKED p, R.PLOCK_SET p, R.PLOCK_KEY p]

/-- The fields of the DEVICE page. -/
def deviceFields : List Fld :=
  [R.DEVICE_STRAPS_ROOT, R.DEVICE_STRAPS_APRON, R.DEVICE_STRAPS_TESTEN, R.DEVICE_STRAPS_ADDR, R.DEVICE_STRAPS_BOOTSEL, R.DEVICE_STRAPS_AMBIG, R.DEVICE_STRAPS_SAMPLED, R.DEVICE_RSTCAUSE_POR, R.DEVICE_RSTCAUSE_PIN, R.DEVICE_RSTCAUSE_SOFT]
  ++ [R.DEVICE_RSTCAUSE_LINK, R.DEVICE_RSTCMD_GO, R.DEVICE_RSTCMD_KEY, R.DEVICE_BOOT_STAGE, R.DEVICE_BOOT_BANK, R.DEVICE_BOOT_FALLBACK, R.DEVICE_BOOT_TRIAL, R.DEVICE_BOOT_CFGDEF, R.DEVICE_BOOT_NOREF, R.DEVICE_BOOT_FCALDEF]
  ++ [R.DEVICE_BOOT_EARLYWR]

/-- The fields of the NVS page. -/
def nvsFields : List Fld :=
  [R.NVS_CMD_OP, R.NVS_CMD_KEY, R.NVS_STAT_BUSY, R.NVS_STAT_BG, R.NVS_STAT_REFUSED, R.NVS_STAT_CORRCLR, R.NVS_STAT_RESULT, R.NVS_STAT_KEYREQ, R.NVS_STAT_CORR, R.NVS_CFG_CFGSLOT]
  ++ [R.NVS_CFG_REFFIRST, R.NVS_CFG_REFLEN, R.NVS_CFG_RELOC, R.NVS_ADDR, R.NVS_SEQA, R.NVS_SEQB, R.NVS_CFGSEQ]
  ++ ((List.range 8).flatMap fun i => [R.NVS_WBUF i, R.NVS_RBUF i])

/-- The fields of the DRIVE page. -/
def driveFields : List Fld :=
  [R.DRIVE_VTXCTL_CODE, R.DRIVE_EXC_FIDX, R.DRIVE_EXC_K, R.DRIVE_EXC_SETTLE, R.DRIVE_EXC_REPS, R.DRIVE_BURST_TXIDLE, R.DRIVE_BURST_RECOV, R.DRIVE_BURST_SHARE, R.DRIVE_BLANK_EN0, R.DRIVE_BLANK_POL0]
  ++ [R.DRIVE_BLANK_EN1, R.DRIVE_BLANK_POL1, R.DRIVE_BLANK_MAXVOID, R.DRIVE_BLANK_LIM, R.DRIVE_SHLD_MODE0, R.DRIVE_SHLD_MODE1, R.DRIVE_SHLD_MODE2, R.DRIVE_SHLD_MODE3, R.DRIVE_STAT_VTXACT, R.DRIVE_STAT_VTXGOOD]
  ++ [R.DRIVE_STAT_SETTLING, R.DRIVE_STAT_BURST, R.DRIVE_STAT_FIDXACT, R.DRIVE_STAT_KACT, R.DRIVE_STAT_REPSACT, R.DRIVE_STAT_EHOPS, R.DRIVE_BSTAT_VOIDS, R.DRIVE_BSTAT_BLANKX, R.DRIVE_BSTAT_BLANKUS, R.DRIVE_BSTAT_LIVE0]
  ++ [R.DRIVE_BSTAT_LIVE1]
  ++ ((List.range 5).flatMap fun i => [R.DRIVE_TXEN i, R.DRIVE_TXFLT i])
  ++ ((List.range 16).flatMap fun i => [R.DRIVE_FTAB_DLO i, R.DRIVE_FTAB_DHI i])

/-- The fields of the SCAN page. -/
def scanFields : List Fld :=
  [R.SCAN_CTL_MODE, R.SCAN_CTL_PEAKCLR, R.SCAN_CTL_HOLD, R.SCAN_TMAP_TNORM, R.SCAN_TMAP_TGLOVE, R.SCAN_TMAP_THOVER, R.SCAN_TMAP_TTEST, R.SCAN_PERIOD_P, R.SCAN_FDIV_DIV, R.SCAN_GLOVE_VTXMIN]
  ++ [R.SCAN_GLOVE_GAINADD, R.SCAN_GLOVE_THRSC, R.SCAN_TCHK_TABLE, R.SCAN_TCHK_GO, R.SCAN_TSTAT_BUSY, R.SCAN_TSTAT_REASON, R.SCAN_TSTAT_WORD, R.SCAN_TSTAT_TABLE, R.SCAN_TSTAT_BUILTIN, R.SCAN_STAT_MODEACT]
  ++ [R.SCAN_STAT_TACT, R.SCAN_STAT_WIDX, R.SCAN_STAT_SCANNING, R.SCAN_STAT_INSCAN, R.SCAN_TIMING_LASTUS, R.SCAN_TIMING_PEAKUS]

/-- The fields of the NOISE page. -/
def noiseFields : List Fld :=
  [R.NOISE_CTL_HOPEN, R.NOISE_CTL_AVG, R.NOISE_CTL_DWELL, R.NOISE_CTL_HYST, R.NOISE_CTL_NCL, R.NOISE_EHOP_EEN, R.NOISE_EHOP_ECHIPS, R.NOISE_EHOP_EMARG, R.NOISE_STAT_FCUR, R.NOISE_STAT_NFCUR]
  ++ [R.NOISE_STAT_DWELLCNT, R.NOISE_STAT_FNEXT, R.NOISE_STAT_PEND, R.NOISE_STAT_DEFERRED, R.NOISE_CNT_HOPS, R.NOISE_CNT_DEFER, R.NOISE_CNT_NOCAND, R.NOISE_EMEAS_E, R.NOISE_EMEAS_EPEAK, R.NOISE_CAND0_E0]
  ++ [R.NOISE_CAND0_E1, R.NOISE_CAND0_E2, R.NOISE_CAND0_E3, R.NOISE_CAND1_E4, R.NOISE_CAND1_E5, R.NOISE_CAND1_E6, R.NOISE_CAND1_E7, R.NOISE_NFVALID]
  ++ ((List.range 32).flatMap fun i => [R.NOISE_NF i])

/-- The fields of the BASE page. -/
def baseFields : List Fld :=
  [R.BASE_CTL_TRKEN, R.BASE_CTL_BORROWEN, R.BASE_CTL_PUCHK, R.BASE_CTL_TRKSH, R.BASE_CTL_TRKDIV, R.BASE_CTL_BORROWR, R.BASE_CTL_SUSMIN, R.BASE_STALE_SECS, R.BASE_STALE_SUSTMO, R.BASE_CMD_OP]
  ++ [R.BASE_STAT_ACQ, R.BASE_STAT_SUSP, R.BASE_STAT_NOREF, R.BASE_STAT_ACQOVL, R.BASE_STAT_BOOTFR, R.BASE_STAT_M0, R.BASE_CNT_SUSN, R.BASE_CNT_FRZN, R.BASE_THR_TRKTH, R.BASE_THR_SUSTH]
  ++ [R.BASE_THR_REVTH, R.BASE_STHR_TRKTH, R.BASE_STHR_SUSTH, R.BASE_STHR_REVTH]

/-- The fields of the CAL page. -/
def calFields : List Fld :=
  [R.CAL_CMD_OP, R.CAL_CMD_ARG, R.CAL_STAT_BUSY, R.CAL_STAT_BG, R.CAL_STAT_REFUSED, R.CAL_STAT_BGBLOCK, R.CAL_STAT_OP, R.CAL_STAT_PROG, R.CAL_RESULT_REASON, R.CAL_RESULT_OP]
  ++ [R.CAL_RESULT_ITEM, R.CAL_RESULT_INDEX, R.CAL_RESULT_SEQ, R.CAL_SCHED_PERIOD, R.CAL_SCHED_TDELTA, R.CAL_CSEL_INDEX, R.CAL_CSEL_ITEM]

/-- The fields of the PIPE page. -/
def pipeFields : List Fld :=
  [R.PIPE_FILT_TCOEF, R.PIPE_FILT_SPK, R.PIPE_FILT_JUMP, R.PIPE_THR_TON, R.PIPE_THR_TOFF, R.PIPE_THR_TPEAK, R.PIPE_SEG_SPLIT, R.PIPE_SEG_MINAREA, R.PIPE_CLS_FINGPK, R.PIPE_CLS_STYA]
  ++ [R.PIPE_CLS_PALMA, R.PIPE_TRACK_GATE, R.PIPE_GEST_TAPMAX, R.PIPE_GEST_DTAPGAP, R.PIPE_GEST_MOVE, R.PIPE_GEST_TAPEN, R.PIPE_GEST_DRAGEN, R.PIPE_GEST_PINCHEN, R.PIPE_PINCH_PINCHTH, R.PIPE_PINCH_PSTEP]
  ++ [R.PIPE_GLOVE_ENTER, R.PIPE_GLOVE_LEAVE, R.PIPE_GLOVE_CANDPK, R.PIPE_CNT_DROPPED, R.PIPE_CNT_OVERRUN, R.PIPE_CMD_CANCELALL, R.PIPE_CMD_CNTCLR, R.PIPE_WATER_WSELF, R.PIPE_WATER_WEN, R.PIPE_HOVER_HOVTH]
  ++ [R.PIPE_CTL_RPTMASK, R.PIPE_CTL_IDLE, R.PIPE_CTL_AUTOGLV, R.PIPE_CTL_CLSHOLD, R.PIPE_CTL_LIFTFR]

/-- The fields of the WORKRING page. -/
def workringFields : List Fld :=
  [R.WORKRING_CTL_EXTEN, R.WORKRING_CTL_EXTKILL, R.WORKRING_CTL_WAVETMO, R.WORKRING_CTL_NACT, R.WORKRING_ERR_LOST, R.WORKRING_ERR_WTMO, R.WORKRING_ERR_EXTOVR, R.WORKRING_ERR_PARKLATE, R.WORKRING_ERRCLR_CLR, R.WORKRING_ERRCLR_PEAKCLR]
  ++ [R.WORKRING_CRIT_LASTUS, R.WORKRING_CRIT_PEAKUS, R.WORKRING_POSTED, R.WORKRING_DONE]

/-- The fields of the HOSTPORT page. -/
def hostportFields : List Fld :=
  [R.HOSTPORT_CFG_LANES, R.HOSTPORT_CFG_CAW, R.HOSTPORT_CFG_DUMMY, R.HOSTPORT_STAT_LASTCMD, R.HOSTPORT_STAT_LASTADDR, R.HOSTPORT_ERR_BADCMD, R.HOSTPORT_ERR_ALIGN, R.HOSTPORT_ERR_UNDER, R.HOSTPORT_ERR_CUT, R.HOSTPORT_ERRCLR_CLR]

/-- The fields of the IRQ page. -/
def irqFields : List Fld :=
  [R.IRQ_PEND_EVENT, R.IRQ_MAP_SRC0, R.IRQ_MAP_SRC1, R.IRQ_MAP_SRC2, R.IRQ_MAP_SRC3, R.IRQ_MAP_SRC4, R.IRQ_MAP_SRC5, R.IRQ_MAP_SRC6, R.IRQ_MAP_SRC7, R.IRQ_PINCFG_POL]
  ++ [R.IRQ_PINCFG_FSEV]

/-- The fields of the QUEUE page. -/
def queueFields : List Fld :=
  [R.QUEUE_Q2PLANES_PLANES, R.QUEUE_Q2PLANES_RATE, R.QUEUE_CNTCLR_CLR, R.QUEUE_Q2ORG_X0, R.QUEUE_Q2ORG_Y0, R.QUEUE_Q2SIZE_W, R.QUEUE_Q2SIZE_H, R.QUEUE_Q2DEC_DECX, R.QUEUE_Q2DEC_DECY]
  ++ ((List.range 4).flatMap fun n => [R.QUEUE_CTL_WMARK n, R.QUEUE_CTL_OVF n, R.QUEUE_CTL_FLUSH n, R.QUEUE_CTL_SKIP n, R.QUEUE_SEQ_NEXT n, R.QUEUE_SEQ_DROPS n])

/-- The fields of the TWOWIRE page. -/
def twowireFields : List Fld :=
  [R.TWOWIRE_CFG_TGTEN, R.TWOWIRE_CFG_GCEN, R.TWOWIRE_CFG_FILT, R.TWOWIRE_CFG_STRETCH, R.TWOWIRE_STAT_JOINED, R.TWOWIRE_STAT_ADDRESSED, R.TWOWIRE_STAT_STRETCHING, R.TWOWIRE_STAT_BUSBUSY, R.TWOWIRE_ERR_BUSABORT, R.TWOWIRE_ERR_STRETCHTMO]
  ++ [R.TWOWIRE_ERR_ARBLOST, R.TWOWIRE_ERR_BUSCLEAR, R.TWOWIRE_CCFG_SPEED, R.TWOWIRE_CCFG_RETRY, R.TWOWIRE_CCFG_EEADDR, R.TWOWIRE_CCMD_OP, R.TWOWIRE_CCMD_LEN, R.TWOWIRE_CCMD_TARGET, R.TWOWIRE_CSTAT_BUSY, R.TWOWIRE_CSTAT_WBUSY]
  ++ [R.TWOWIRE_CSTAT_REFUSED, R.TWOWIRE_CSTAT_RESULT, R.TWOWIRE_CSTAT_ATTEMPTS, R.TWOWIRE_CSTAT_WRESULT, R.TWOWIRE_CSTAT_NBYTES, R.TWOWIRE_WMSG_EN, R.TWOWIRE_WMSG_WADDR, R.TWOWIRE_WMSG_PFX0, R.TWOWIRE_WMSG_PFX1, R.TWOWIRE_PTR]
  ++ [R.TWOWIRE_ERRCLR_CLR, R.TWOWIRE_CADDR]
  ++ ((List.range 8).flatMap fun i => [R.TWOWIRE_CBUF i])

/-- The fields of the LINK page. -/
def linkFields : List Fld :=
  [R.LINK_CFG_NDEV, R.LINK_TMO_CUFF, R.LINK_TMO_LIST, R.LINK_TMO_REJOIN, R.LINK_TMO_DISC, R.LINK_STAT_POS, R.LINK_STAT_RING, R.LINK_STAT_LOCKED, R.LINK_STAT_SYNCOK, R.LINK_STAT_PRESENT]
  ++ [R.LINK_STAT_STATE, R.LINK_PORT_UPST, R.LINK_PORT_DNST, R.LINK_PORT_NBRUP, R.LINK_PORT_NBRDN, R.LINK_ERRC_LATE, R.LINK_ERRC_LLATE, R.LINK_ERRC_FPAB, R.LINK_ERRC_SYNCERR, R.LINK_RCMD_OP]
  ++ [R.LINK_RCMD_POS, R.LINK_RCMD_ALL, R.LINK_RCMD_ADDR, R.LINK_RSTAT_BUSY, R.LINK_RSTAT_REFUSED, R.LINK_RSTAT_RESULT, R.LINK_ERRUP_CODE, R.LINK_ERRUP_CRC, R.LINK_ERRUP_LOSTPK, R.LINK_ERRUP_DOWN]
  ++ [R.LINK_ERRDN_CODE, R.LINK_ERRDN_CRC, R.LINK_ERRDN_LOSTPK, R.LINK_ERRDN_DOWN, R.LINK_ERRCLR_CLR, R.LINK_RWDATA, R.LINK_RRDATA]
  ++ ((List.range 8).flatMap fun k => [R.LINK_MAP_NTX k, R.LINK_MAP_NRX k])

/-- The fields of the AOUT page. -/
def aoutFields : List Fld :=
  [R.AOUT_CTL_SRCA, R.AOUT_CTL_SRCB, R.AOUT_CTL_HOLD, R.AOUT_STROBE_A, R.AOUT_STROBE_B, R.AOUT_FLT_SHORT, R.AOUT_STAT_AVOGOOD, R.AOUT_STAT_VREFOK]
  ++ ((List.range 8).flatMap fun n => [R.AOUT_SPAN n, R.AOUT_SLEW n, R.AOUT_STAT_ST n, R.AOUT_IN n, R.AOUT_ACT n, R.AOUT_OUT n])

/-- The fields of the PWR page. -/
def pwrFields : List Fld :=
  [R.PWR_CMD_OP, R.PWR_CMD_RETAIN, R.PWR_CMD_LFSTOP, R.PWR_CMD_KEY, R.PWR_STAT_STATE, R.PWR_STAT_PHASE, R.PWR_STAT_REFUSED, R.PWR_STAT_RESULT, R.PWR_STAT_REFUSER, R.PWR_WAKESTAT_SRC]
  ++ [R.PWR_WAKESTAT_WAKEPIN, R.PWR_REFUSE_TMO, R.PWR_WAKEEN, R.PWR_TIMER]

/-- The fields of the CLOCK page. -/
def clockFields : List Fld :=
  [R.CLOCK_TBSTAT_VALID, R.CLOCK_TBSTAT_SRC, R.CLOCK_TBSTAT_ACC, R.CLOCK_TBSTAT_LFXOK, R.CLOCK_TBSTAT_ACK, R.CLOCK_TBHI, R.CLOCK_LFCTL]

/-- The fields of the NIGHTCAP page. -/
def nightcapFields : List Fld :=
  [R.NIGHTCAP_CTL_RATE, R.NIGHTCAP_CTL_TIME, R.NIGHTCAP_CTL_ZTH, R.NIGHTCAP_CTL_ZHYST, R.NIGHTCAP_ZEN, R.NIGHTCAP_GEN, R.NIGHTCAP_GSEL, R.NIGHTCAP_DET, R.NIGHTCAP_LASTG]
  ++ ((List.range 16).flatMap fun z => [R.NIGHTCAP_ZONE_FIRST z, R.NIGHTCAP_ZONE_LAST z])

/-- The fields of the GOV page. -/
def govFields : List Fld :=
  [R.GOV_CTL_EN, R.GOV_CTL_NPTS, R.GOV_CTL_TOPPT, R.GOV_CTL_MINPT, R.GOV_CTL_UPDWELL, R.GOV_CTL_UPMARG, R.GOV_STAT_PTACT, R.GOV_STAT_PTNEXT, R.GOV_STAT_REASON, R.GOV_STAT_BELOW]
  ++ [R.GOV_STAT_EXHAUST, R.GOV_STAT_HOTSENS, R.GOV_BUDGET_MW, R.GOV_TEMP_TCEIL, R.GOV_TEMP_THYST, R.GOV_MEAS_PMW, R.GOV_MEAS_TMAX, R.GOV_VI_VIN, R.GOV_VI_IIN, R.GOV_CNT_DOWNS]
  ++ [R.GOV_CNT_UPS]
  ++ ((List.range 4).flatMap fun i => [R.GOV_TS i])
  ++ ((List.range 16).flatMap fun k => [R.GOV_PT_VTX k, R.GOV_PT_K k, R.GOV_PT_REPS k, R.GOV_PT_FDIV k, R.GOV_PT_NACT k, R.GOV_PT_KPT k])
  ++ ((List.range 16).flatMap fun i => [R.GOV_EST i])

/-- The fields of the FAULT page. -/
def faultFields : List Fld :=
  [R.FAULT_CTL_PINSEV, R.FAULT_CTL_FFSEV, R.FAULT_CTL_FIRSTCLR, R.FAULT_CTL_LOGCLR, R.FAULT_CTL_KEY, R.FAULT_LOGSTAT_OVF, R.FAULT_STCFG_QPERIOD, R.FAULT_STCFG_TIME, R.FAULT_STCFG_STIMLIM, R.FAULT_STCFG_FLEXPCT]
  ++ [R.FAULT_STCFG_AUTO, R.FAULT_SEQ_NEXT, R.FAULT_SEQ_PLDROP, R.FAULT_LOGIDX, R.FAULT_STCMD_OP, R.FAULT_STSTAT_BUSY, R.FAULT_STSTAT_REFUSED, R.FAULT_STSTAT_RESULT, R.FAULT_STSTAT_FRAMES, R.FAULT_STSTAT_NFAIL]
  ++ [R.FAULT_STLIM_OPENLIM, R.FAULT_STLIM_SHORTLIM, R.FAULT_STAUX_LINE, R.FAULT_STAUX_RXMUT, R.FAULT_STCNT_DEV]
  ++ ((List.range 5).flatMap fun i => [R.FAULT_TXOPEN i, R.FAULT_TXSHORT i])
  ++ ((List.range 3).flatMap fun i => [R.FAULT_RXOPEN i, R.FAULT_RXSHORT i, R.FAULT_RXMASK i])

/-- The fields of the SLICE page. -/
def sliceFields (s : Nat) : List Fld :=
  [R.SLICE_CTL_SDIV s, R.SLICE_CTL_VS s, R.SLICE_CTL_CTH s, R.SLICE_CTL_CMAX s, R.SLICE_CTL_OVLIM s, R.SLICE_STAT_GENBUSY s, R.SLICE_STAT_GAP s, R.SLICE_STAT_GAPUS s, R.SLICE_STAT_VTXTAG s, R.SLICE_ERRCNT_OVLCNT s]
  ++ [R.SLICE_ERRCNT_CLPCNT s, R.SLICE_CNTCLR_CLR s, R.SLICE_OVL_CH s, R.SLICE_CLAMP_CH s]
  ++ ((List.range 24).flatMap fun k => [R.SLICE_CH_GAIN s k, R.SLICE_CH_CRANGE s k, R.SLICE_CH_CRACT s k, R.SLICE_CH_BULKM s k, R.SLICE_CH_BULKS s k, R.SLICE_CH_EN s k, R.SLICE_CH_COMPEN s k])

/-- The fields of the ENG page. -/
def engFields (e : Nat) : List Fld :=
  [R.ENG_CTL_HALT e, R.ENG_CTL_BP0EN e, R.ENG_CTL_BP1EN e, R.ENG_CTL_BRKEN e, R.ENG_CTL_STEP e, R.ENG_CTL_RESTART e, R.ENG_BP0 e, R.ENG_BP1 e, R.ENG_DMAD e]

/-- The fields of the TEST page. -/
def testFields : List Fld :=
  [R.TEST_KEY, R.TEST_STAT_UNLOCKED, R.TEST_STAT_FUSED, R.TEST_INJ_SRC, R.TEST_INJ_KIND, R.TEST_INJ_SEV, R.TEST_INJ_GO, R.TEST_INJAD_ADDR, R.TEST_INJAD_DETAIL, R.TEST_FUSE]

/-- The registers of one virtual control, that VCTRL.SEL selects (08 R217). -/
def controlFields (c : Nat) : List Fld :=
  [R.VCTRL_DEF_TYPE c, R.VCTRL_DEF_REL c, R.VCTRL_DEF_CLASSES c, R.VCTRL_DEF_OUTA c, R.VCTRL_DEF_OUTB c, R.VCTRL_DEF_EVSTEP c, R.VCTRL_RECTA_X0 c, R.VCTRL_RECTA_Y0 c, R.VCTRL_RECTB_X1 c, R.VCTRL_RECTB_Y1 c, R.VCTRL_KNOBA_RIN c, R.VCTRL_KNOBA_ROUT c, R.VCTRL_KNOBB_START c, R.VCTRL_KNOBB_SPAN c, R.VCTRL_REST_A c, R.VCTRL_REST_B c]

/-- The steps of one Nightcap gesture, that NIGHTCAP.GSEL selects (16 R417). -/
def gestureFields (g : Nat) : List Fld :=
  (List.range 16).map fun k => R.NIGHTCAP_STEP g k

/-- The words of one scan table (06 R143). -/
def tableFields (t : Nat) : List Fld :=
  (List.range 256).map fun k => R.SCANTABLE_WORD t k

end Sys2Proof
end

