-- ==== Sys2Proof/Machine/State.lean ====
section
/-!
DEFINITION. The state of the block as plain data, and the state right after a power-on reset. Register fields
live in `regs` (Machine/Registers.lean names them); the parts below hold what the spec gives the block besides.
-/

namespace Sys2Proof.Machine

/-- A fault that stops the model. None of the spec's commands stops the block, so the type has the one
constructor that a meaning of this model raises for an access the spec says does not exist. -/
inductive Fault where
  /-- Raised by no meaning today; kept so that the type is inhabited. Safe. -/
  | noSuchAddress
  deriving DecidableEq, Repr

/-- A refusal: the model gives the command no meaning. -/
inductive Refusal where
  /-- Raised by the dispatch for a command not modelled yet. Safe: it stops. -/
  | notModelled (mnemonic : String)
  deriving DecidableEq, Repr

/-! ### Supplies and pins (02) -/

/-- Supply and pin conditions (02 R39 to R57). -/
structure Supply where
  /-- Out of OFF (R46). -/
  on : Bool
  vioGood : Bool
  /-- The host port answers from here on (R50). -/
  portReady : Bool
  /-- PD1 to PD5 are held in reset for want of the 24 MHz oscillator (R52). -/
  oscHeld : Bool
  refclk : Bool
  /-- The 32.768 kHz crystal runs stably (R51, R57). -/
  lfx : Bool
  /-- The strap balls as they stand now (R43). -/
  pins : StrapPins
  /-- A lockout shutdown is in progress (R53). -/
  lockout : Bool
  deriving DecidableEq, Repr

/-! ### Fault collector (17) -/

/-- A fault message on its way to the collector (17 R429, R446). -/
structure Msg where
  src : Nat
  kind : Nat
  sev : Nat
  addr : Nat
  detail : Nat
  inj : Bool
  deriving DecidableEq, Repr

/-- A log record (17 R434). -/
structure LogRec where
  msg : Msg
  same : Bool
  order : Nat
  tb : Nat
  seq : Nat
  deriving DecidableEq, Repr

/-- The fault collector and its logs (17 R434 to R444). -/
structure Faults where
  /-- The input queue, oldest first; entries after the 32nd wait at their sources (01 R26). -/
  queue : List Msg
  /-- The C kinds that are live, each with its instance (R432). -/
  live : List (Nat × Nat)
  /-- Latched severity plus 1 of every set status bit, by kind (R437). -/
  status : List (Nat × Nat)
  log : List LogRec
  first : Option LogRec
  /-- The fault safe state (01 R34). -/
  safe : Bool
  /-- Records waiting for the persistent log (R440, R441). -/
  plWait : List LogRec
  plTokens : Nat
  plRefillTb : Nat
  plRecord : Nat
  plBoot : Nat
  plCause : Nat
  deriving DecidableEq, Repr

/-- Factory test mode (17 R445). -/
structure TestMode where
  step : Nat
  stepTb : Nat
  fuseOnce : Bool
  deriving DecidableEq, Repr

/-! ### The store (03) -/

/-- A configuration record's content (03 R83). -/
structure CfgRec where
  seq : Nat
  fmt : Nat
  vals : List (Nat × Nat)
  deriving DecidableEq, Repr

/-- A reference record's model (03 R85); a residual of -128 marks a node without a reference. -/
structure RefRec where
  seq : Nat
  rowbias : List Int
  colbias : List Int
  res : List (List Int)
  deriving DecidableEq, Repr

/-- One slot of the configuration region (03 R83). -/
inductive Slot where
  | free
  | claimed
  | config (r : CfgRec)
  | reference (seq : Nat) (idx : Nat) (count : Nat)
  deriving DecidableEq, Repr

/-- A record whose last seal has been programmed, with the slots that hold it: the live one of its type, or one that it
replaced, which stays in its slots until they are programmed again (03 R83, R84). -/
inductive Sealed where
  | config (slot : Nat) (r : CfgRec)
  | reference (slots : List Nat) (r : RefRec)
  deriving DecidableEq, Repr

/-- What a command of NVS.CMD that is not complete does (03 R81): it reads, or it programs lines. -/
inductive JobKind where
  | readLine (line : Nat)
  | verifyBank (line : Nat)
  | programLine (line : Nat) (data : List Byte)
  | stateLine (bank : Nat) (confirmed : Bool)
  | saveConfig (slot : Nat) (r : CfgRec)
  deriving DecidableEq, Repr

/-- A command of NVS.CMD that is not complete: its work and the lines still to be programmed, the present one included. -/
structure Job where
  kind : JobKind
  left : Nat
  deriving DecidableEq, Repr

/-- A reference record being written, by a capture or a relocation: its claimed slots, its content, and the lines still
to be programmed, the present one included (03 R84, R86). -/
structure RefWrite where
  slots : List Nat
  content : RefRec
  left : Nat
  deriving DecidableEq, Repr

/-- For whom a line is programmed (03 R87): a relocation, a command of NVS.CMD, a reference capture. -/
inductive LineOwner where
  | background | command | capture
  deriving DecidableEq, Repr

/-- The line program under way: its line and what the line will hold (03 R73). -/
structure LineProg where
  owner : LineOwner
  line : Nat
  data : List Byte
  deriving DecidableEq, Repr

/-- The non-volatile store and its controller (03 R73 to R88). It survives every reset but for what runs. -/
structure Store where
  /-- Bytes 0x00000 to 0x7FFFF, in canonical form; an unlisted byte reads 0. -/
  cells : List Host.Cell
  /-- Lines with an uncorrectable check-bit error, lines whose data fails the CRC-32 of their image, and lines with an
  error that each read corrects (R74; logs 61, 100). -/
  torn : List Nat
  spoilt : List Nat
  soft : List Nat
  /-- Owner-key lines already programmed, 0 to 3 (R77, R82). -/
  keyLines : List Nat
  /-- The bank passed its last VERIFY_BANK and no line of it was programmed since (R81). -/
  validA : Bool
  validB : Bool
  slots : List Slot
  ref : Option RefRec
  /-- The sealed records, the newest first. -/
  records : List Sealed
  /-- Configuration saves so far, and whether a relocation is owed since the last 65,536th of them (R86). -/
  saves : Nat
  relocOwed : Bool
  /-- The command of NVS.CMD that runs or waits, the reference record that a capture writes, and the one that a relocation
  copies; then the line program under way. -/
  job : Option Job
  cap : Option RefWrite
  reloc : Option RefWrite
  prog : Option LineProg
  deriving DecidableEq, Repr

/-! ### Register access buffers (00 R13, 01 R28) -/

/-- One requester's byte-wise access buffers: the read snapshot and the held bytes of a write. -/
structure ByteBuf where
  snapAddr : Nat
  snap : Nat
  holdAddr : Nat
  held : List (Nat × Nat)
  deriving DecidableEq, Repr

/-! ### Queues and host port (12) -/

/-- One report queue: whole records, oldest first, and how many bytes of the open head record are delivered. -/
structure Queue where
  recs : List (List Byte)
  delivered : Nat
  deriving DecidableEq, Repr

/-- The host port: the bytes the device sent in the last transaction (12 R316 to R325), the buffer of the two-wire port
stands with that port. `q2Told`: Q2_TOO_BIG was raised since the Q2 fields last changed (R333). -/
structure HostPort where
  out : List Byte
  q2Told : Bool
  deriving DecidableEq, Repr

/-- The two-wire port (13 R339 to R354) besides its registers: its byte buffers, the bytes it sent last, the operation,
length and target of the controller transfer, and its attempts; the gestures whose wake messages wait, and the attempts
of the one that runs; the bytes that the controller sent in the transfer that ended last, its address bytes among them (R351,
R354). -/
structure TwoWire where
  buf : ByteBuf
  out : List Byte
  op : Nat
  len : Nat
  target : Nat
  tries : Nat
  wmsg : List Nat
  wtries : Nat
  ctl : List Byte
  deriving DecidableEq, Repr

/-! ### Power (16) -/

/-- The power states (01 R32). -/
inductive PState where
  | run | watch | halt
  deriving DecidableEq, Repr

/-- The power manager and the timebase (16 R404 to R422). -/
structure Power where
  state : PState
  /-- TB in microseconds, 48 bits, and the fraction of a microsecond in 1/512 (R420). -/
  tb : Nat
  frac : Nat
  lfStopped : Bool
  /-- The entry being voted: its target and options. -/
  voting : Option PState
  retain : Bool
  lfstop : Bool
  /-- Domains stopped so far, first one first. -/
  stopped : List Nat
  /-- TB at which the present voter was first found refusing, and its ID. -/
  refusal : Option (Nat × Nat)
  /-- TB at the last change of power state. -/
  sinceTb : Nat
  windowOpen : Bool
  wakereq : Bool
  timerCause : Bool
  /-- A wake is recognised and its sequence has not finished. -/
  waking : Bool
  /-- In a cascade ROOT, WAKE is driven since a wake until discovery has configured every member (R414). -/
  rootWake : Bool
  /-- At ROOT, the members that have reported their domains stopped (R414). -/
  members : List Nat
  deriving DecidableEq, Repr

/-- One Nightcap zone (16 R416). -/
structure NZone where
  base : Nat
  sum : Nat
  touched : Bool
  faulty : Bool
  deriving DecidableEq, Repr

/-- One Nightcap gesture: step pointer, TB of the last match, and zones and TB at its last detection. -/
structure NGest where
  ptr : Nat
  matchTb : Nat
  detZones : Nat
  detTb : Nat
  deriving DecidableEq, Repr

/-- Nightcap (16 R415 to R419). -/
structure Nightcap where
  scans : Nat
  /-- TB of the last scan, or of the commit before the first one. -/
  scanTb : Nat
  zones : List NZone
  gests : List NGest
  deriving DecidableEq, Repr

/-- The budget governor (16 R424 to R427). -/
structure Governor where
  running : Bool
  prevPoint : Nat
  dwell : Nat
  deriving DecidableEq, Repr

/-! ### Drive, receive and scan (04, 05, 06) -/

/-- A scale tag: the VTX code and the 96 gain codes of a frame (05 R123), with the gain corrections in use, whose
change rescales as a change of the scale factor does (07 R186). -/
structure Tag where
  vtx : Nat
  gains : List Nat
  corr : List Nat
  deriving DecidableEq, Repr

/-- Where the sequencers stand in the frame (06 R151). -/
inductive Phase where
  /-- No frame runs. -/
  | idle
  /-- The word at WIDX runs. -/
  | word
  /-- A burst waits for VTX to be good (04 R91). -/
  | waitVtx
  /-- A burst waits for its compensation sequence (05 R130). -/
  | waitComp
  /-- END was reached; SCAN_END follows. -/
  | done
  /-- SCAN_END has passed. -/
  | ended
  deriving DecidableEq, Repr

/-- One burst's compensation sequences: for every channel its range and its codes (05 R126). -/
structure BurstSeq where
  burst : Nat
  ranges : List Nat
  codes : List (List Int)
  deriving DecidableEq, Repr

/-- Blanking (04 R114 to R116): the input levels, the interval in progress, and the frame's counts. `passVoids`: where the
counting pass that runs was voided, in AFECLK cycles after it began; which of its conversions ran then shows at its end. -/
structure Blank where
  level0 : Bool
  level1 : Bool
  /-- Blanking is asserted; whether what it holds is voided already. -/
  frozen : Bool
  voided : Bool
  voids : Nat
  passVoids : List Nat
  us : Nat
  /-- Where the interval began: AFECLK cycles after FRAME_START, 0 where it spans FRAME_START; what of it lies before
  FRAME_START in µs; and TB. -/
  start : Nat
  before : Nat
  tb : Nat
  deriving DecidableEq, Repr

/-- The scan sequencers and what the frame in force holds (04 to 06). -/
structure Scan where
  /-- Scanning has started and has not stopped (06 R149). -/
  started : Bool
  /-- No frame has started since scanning started (first-frame rules of 16 R426 and 06 R149). -/
  fresh : Bool
  /-- The 32-bit frame counter. -/
  frame : Nat
  /-- TB at FRAME_START, and what lies beyond it in AFECLK cycles. -/
  startTb : Nat
  startFrac : Nat
  /-- Period of the frame in force, and the time since FRAME_START, in AFECLK cycles. -/
  period : Nat
  clk : Nat
  phase : Phase
  /-- The words of the frame, up to and including END. -/
  words : List Nat
  /-- Window, pass or decoded chip of the word that runs. -/
  sub : Nat
  /-- Settling chips still to run, whether a settling interval is due before the next burst, and whether one ran. -/
  settle : Nat
  settleDue : Bool
  settled : Bool
  /-- An emergency hop was taken in the frame (header flag HOP). -/
  hopped : Bool
  /-- Emergency evaluation has ended for the frame, and its run of chips. -/
  eDone : Bool
  eRun : Nat
  ePeak : Nat
  /-- Index taken by a deferred request, for the next frame (06 R159). -/
  deferred : Option Nat
  /-- Ordinal of the burst that runs or comes next. -/
  burst : Nat
  gap : Nat
  seqs : List BurstSeq
  built : Nat
  /-- The frame's listen windows in order; none where a window stayed idle, measured nothing or was discarded. -/
  windows : List (Option (Nat × Nat))
  /-- Indices measured in the slot that runs. -/
  slot : List Nat
  rotor : Nat
  /-- Staging strips of the four slices, 64 entries each, and what of them was copied to the test strips last (06 R152,
  R153). -/
  staging : List Nat
  testStaging : List Nat
  /-- This frame is a test frame, and the ordinal of its TXSTIM word that runs or comes next (17 R447). -/
  test : Bool
  stim : Nat
  /-- Scale tag in force, and the VTX code of the last frame that ran a burst (05 R125). -/
  tag : Tag
  lastVtx : Nat
  /-- VTX has dropped out (02 R45), and VTX_DROPOUT was raised for the frame. -/
  dropout : Bool
  dropTold : Bool
  /-- The frame's overloaded chips and clamps, by channel (05 R128, R132). -/
  ovChips : List Nat
  ovl : List Nat
  clamped : List Nat
  /-- TX pins and receive channels masked in the frame in force (04 R119, 17 R449). -/
  txOff : List Nat
  rxOff : List Nat
  /-- The decoders' writes wait for engines that still run tasks of an older frame (09 R247). -/
  waits : Bool
  /-- Blanking has voided the listen window that runs (06 R155). -/
  winVoid : Bool
  /-- Consecutive frames that each noise figure was not measured (06 R156). -/
  ages : List Nat
  /-- The frame is abandoned; nothing of it is processed (04 R113). -/
  abandoned : Bool
  /-- HOLD = 1 was written and the last frame has not completed its processing (06 R149). -/
  stopping : Bool
  /-- Who wrote the scan mode last: 0 host, 1 auto glove, 2 discovery (08 R225). -/
  modeSrc : Nat
  /-- The next frame of the scan mode runs the built-in table (06 R147). -/
  builtin : Bool
  /-- Electrodes of this device enabled while scanning is held: TX pins from 0, receive channels from 0x100 (06 R149). -/
  enabled : List Nat
  blank : Blank
  deriving DecidableEq, Repr

/-! ### Analogue outputs (15) -/

/-- What an output holds besides its registers: a strobe arrived during its hold (R393), when the hold began, the
state before CAL, and a span write recorded during CAL (R395). -/
structure OutStage where
  strobed : Bool
  holdTb : Nat
  calPrev : Nat
  spanNew : Bool
  deriving DecidableEq, Repr

/-- The analogue outputs. `vref`: VREFA lies within 0.9 V to 10.5 V; `vrefTold`: the excursion has raised VREFA_RANGE (R400). -/
structure Outputs where
  stages : List OutStage
  vref : Bool
  vrefTold : Bool
  deriving DecidableEq, Repr

/-! ### Panel (14 R358) -/

/-- The panel in force: drive and receive lines of every position, this device's position, and the devices of the
ring (1 for a single device). -/
structure Panel where
  map : List (Nat × Nat)
  pos : Nat
  ndev : Nat
  /-- Global drive indices of other devices that are not enabled, and positions whose area is masked. -/
  off : List Nat
  lost : List Nat
  /-- Global drive indices of other devices that a TXFLT bit masks (14 R370). -/
  flt : List Nat
  deriving DecidableEq, Repr

/-! ### Calibration coefficients (07 R186) -/

/-- The coefficients in use, by 256 * item + index; those waiting to be accepted at the next FRAME_START. -/
structure Coefs where
  used : List (Nat × Nat)
  next : List (Nat × Nat)
  deriving DecidableEq, Repr

/-! ### Baselines (07) -/

/-- One acquisition frame's decoded image (07 R176): its tag, the mutual values by node (channel + 96 d), and the
self counts by staging entry. -/
structure AcqFrame where
  tag : Tag
  image : List Int
  self : List Nat
  deriving DecidableEq, Repr

/-- Baselines besides what lies in frame memory (07 R166 to R182). -/
structure Baseline where
  /-- Tag of each tile's stored baselines, by 6 * tile row + tile column (05 R138). -/
  tags : List (Nat × Tag)
  /-- Index of the next acquisition frame, while an acquisition runs, and the frame taken last. -/
  acq : Option Nat
  acqFrame : Nat
  /-- The frames since the last bootstrap frame, oldest first, and the newest image whether or not it is averaged. -/
  frames : List AcqFrame
  newest : Option AcqFrame
  /-- BASE commands that wait for the next FRAME_START, oldest first. -/
  cmds : List Nat
  /-- Flag bytes of the frame before, by node (07 R171); self-count flags of the frame before, by staging entry. -/
  flags : List Nat
  selfFlags : List Nat
  /-- The two published self-count step sets (07 R174), by staging entry. -/
  selfStep0 : List Int
  selfStep1 : List Int
  /-- TB of the first of the frames in a row in which a suspect node kept within the window of R180, by node. -/
  susTb : List (Nat × Nat)
  /-- Raw value less the baseline before the update, of the last frame that measured the node (07 R168), by node. -/
  deltas : List (Nat × Int)
  /-- Suspect nodes that a lift on another device releases (07 R181), by node. -/
  lifts : List Nat
  /-- The candidate nodes of regions at the boundaries, until ROOT's verdict: panel coordinates, the baseline that a suspect
  node takes and its value A; the tag of both; and the unions that ROOT has found suspect (07 R181). -/
  edges : List (Nat × Nat × Int × Int)
  edgeTag : Tag
  unions : List (List (Nat × Nat))
  deriving DecidableEq, Repr

/-! ### Calibration (07 R186 to R194) -/

/-- A reference capture: frames left, the frame counted last, the first frame's baselines and tag, and the lowest
rejection order met so far, 0 for none (07 R184, R185). -/
structure Capture where
  left : Nat
  frame : Nat
  base : List Int
  tag : Tag
  fail : Nat
  /-- The lines are being written. -/
  writing : Bool
  /-- What every device of the cascade has found, and with which result its lines were written, by position: this device's
  own among them (07 R184). -/
  found : List (Nat × Nat)
  wrote : List (Nat × Nat)
  /-- ROOT has ordered the capture and gives the verdict; the record that the sixteenth frame gave. -/
  led : Bool
  content : Option RefRec
  deriving DecidableEq, Repr

/-- The calibration controller. -/
structure Cal where
  /-- Mask of the running command, the results of its steps so far (256 * item + index), whether its step is being
  repeated, and whether an abort waits for the end of the step. -/
  arg : Nat
  vals : List (Nat × Nat)
  again : Bool
  abort : Bool
  /-- The frame in whose listen slot the last step ran. -/
  stepFrame : Nat
  /-- The slices that calibrate in the frame's first listen slot, until their step is told; whether the step is a background
  one; and its frame (07 R189, R190). -/
  slot : List Nat
  slotBg : Bool
  slotFrame : Nat
  /-- The steps of its slice that the background pass had complete when the slot began; a foreground command has paused the
  pass since then. -/
  slotStep : Nat
  bgPaused : Bool
  /-- Where AOUT_CAL stands with the output in turn: 0 VREFA is to be checked, 1 code 0x1000 is out, 2 code 0xF000 is out. -/
  outPhase : Nat
  capture : Option Capture
  /-- A background pass runs: its slice, its step, its results, and the repetition of its step. -/
  bg : Bool
  bgSlice : Nat
  bgStep : Nat
  bgVals : List (Nat × Nat)
  bgAgain : Bool
  /-- TB and die temperatures at the start of the last background pass (07 R190). -/
  bgTb : Nat
  bgTemps : List Int
  deriving DecidableEq, Repr

/-! ### Self-test (17 R447 to R451) -/

/-- The self-test. Electrodes are numbered as FAULT.STAUX.LINE numbers them: TX pins 0 to 159, channel c at 0x100 + c. -/
structure SelfTest where
  /-- The test that runs: 0 none, 1 full, 2 quick, 3 selected by the host (06 R148); and a request for one that waits for FRAME_START. -/
  kind : Nat
  request : Nat
  /-- Index of the test frame that runs or comes next, and of the next TXSTIM line. -/
  frame : Nat
  abort : Bool
  /-- TB of the last quick test. -/
  lastTb : Nat
  /-- Last counts of the electrodes; the counts of the test that runs, by 512 * test frame + electrode; and the counts of its
  TXSTIM passes as (line, 512 * test frame + electrode, count). -/
  counts : List (Nat × Nat)
  acc : List (Nat × Nat)
  stims : List (Nat × Nat × Nat)
  /-- Consecutive passed tests of masked electrodes. -/
  passed : List (Nat × Nat)
  /-- Times at which R97 masked a pin, and the pins that stay masked until the host writes their TXFLT bit (R451). -/
  shortTbs : List (Nat × Nat)
  held : List Nat
  deriving DecidableEq, Repr

/-! ### Touch engines (10, 11, 09 R227 to R233) -/

/-- State of an engine (ENGn.STAT.STATE). -/
inductive EngState where
  | reset | run | sleep | parked | halted | stopped
  deriving DecidableEq, Repr

/-- Where a delayed write of an engine goes: local RAM, frame memory, or an engine-local port. -/
inductive Place where
  | ram (a : Nat)
  | frame (a : Nat)
  | port (a : Nat)
  deriving DecidableEq, Repr

/-- A write that becomes visible at slot `due`; `quince` marks the bytes of a pending Quince operation (10 R267, R280). -/
structure Late where
  due : Nat
  place : Place
  val : Byte
  quince : Bool
  deriving DecidableEq, Repr

/-- A product on its way to MH:ML; `mac`: it is added there (10 R274, R275). -/
structure Product where
  due : Nat
  val : Nat
  mac : Bool
  deriving DecidableEq, Repr

/-- What stands in the delay slot that comes next (10 R269): nothing; a control instruction, with its target where it
branches, and whether it ends an extension task; a CALL, with its target, its two stack addresses and the slot at which the pushed bytes are seen; a RETI with
the frame it popped (R284). -/
inductive Delay where
  | none
  | flow (target : Option (BitVec 16)) (leave : Bool)
  | call (target : BitVec 16) (hi : Nat) (lo : Nat) (due : Nat)
  | reti (pc : BitVec 16) (fl : Byte) (rc : Byte)
  deriving DecidableEq, Repr

/-- A repeat prefix that waits for its governed instruction, or whose repetitions run (10 R271): its address, its count,
whether it is REPI, whether a repetition has run, and its own encoding error as (check step, cause) (11 R294). -/
structure Prefix where
  pc : BitVec 16
  count : Nat
  inter : Bool
  begun : Bool
  bad : Option (Nat × Nat)
  deriving DecidableEq, Repr

/-- What a Sloe operation computes: SPEAK, or a histogram with its base, shift and number of bins, added to the counts that
are there or to 0 (11 R310). -/
inductive SloeOp where
  | peak
  | hist (zero : Bool) (lo : Int) (shift nbins : Nat)
  deriving DecidableEq, Repr

/-- A pending Sloe operation (11 R311; log 18): the cycle at which it completes, its issue slot, the number that its choices
go by, its operation and the columns of its tile; the places that it writes, each with the index of its byte in the result;
and the bytes that it reads, elements first, each with its place and the values that it has had since the issue, oldest first. -/
structure Sloe where
  due : Nat
  at_ : Nat
  key : Nat
  op : SloeOp
  ncol : Nat
  dst : List (Place × Nat)
  src : List (Option Place × List Byte)
  deriving DecidableEq, Repr

/-- The registers and the pipeline of an engine (10 R258 to R290). -/
structure Core where
  pc : BitVec 16
  fl : Byte
  x : Byte
  sp : Byte
  rc : Byte
  mh : Byte
  ml : Byte
  mq : Byte
  mr : Byte
  /-- Slots issued and cycles passed since reset. -/
  slot : Nat
  cyc : Nat
  cycSnap : Nat
  tbsSnap : Nat
  delay : Delay
  pre : Option Prefix
  /-- Pointer bytes forwarded between repetitions (R272). -/
  fwd : List (Nat × Byte)
  prods : List Product
  quot : Option (Nat × Byte × Byte)
  sloe : Option Sloe
  /-- The Quince operation issued last: its issue slot, and the slot in which it is complete (R279). -/
  quince : Option (Nat × Nat)
  /-- RC and the snapshots of CYC and TBS as the waiting prefix found them (11 R294). -/
  held : Byte × Nat × Nat
  /-- The reserved line (frame address / 8) and the cycle at which its LDRS issued (R277, R278). -/
  rsv : Option (Nat × Nat)
  /-- Vectors entered and not returned from, and that number right after the entry of the trap that is being handled (R286). -/
  depth : Nat
  trapAt : Option Nat
  /-- Last trap: cause, whether it stopped the engine, and its PC (ENGn.TRAP). -/
  cause : Nat
  double : Bool
  trapPc : BitVec 16
  deriving DecidableEq, Repr

/-- An engine's memory view, ports, task and debug unit (09 R227 to R233, R255). -/
structure Engine where
  core : Core
  /-- Delayed writes in the order in which they become visible. -/
  late : List Late
  /-- Frame bytes that left the write buffer early (R232) and what the engine itself still reads there: slot, address, byte. -/
  hidden : List (Nat × Nat × Byte)
  /-- The entries of the write buffer: the cycle at which each has left it (R232). -/
  wbuf : List Nat
  ram : List Host.Cell
  win : List Nat
  tidStage : Nat
  fevt : Nat
  fevten : Nat
  /-- An extension task runs (XMODE): SP and the vector depth at its entry. -/
  xmode : Option (Byte × Nat)
  dbg : List Byte
  drops : Nat
  /-- Steal rounds begun, and the engines this round has returned (R242). -/
  round : Nat
  given : Nat
  buf : ByteBuf
  state : EngState
  /-- The state that a halt interrupts. -/
  prior : EngState
  /-- KIND and TID of the current or last task, and whether it lies between TSTART and TDONE. -/
  kind : Nat
  tid : Nat
  task : Bool
  /-- The task that ended last ended ABORTED (R243). -/
  aborted : Bool
  tasks : Nat
  busy : Nat
  stall : Nat
  /-- One instruction may issue though the engine is halted (STEP), or at a breakpoint (after a resume). -/
  step : Bool
  pass : Bool
  /-- The engine was halted by a BRK that has not issued yet (11 R306). -/
  brk : Bool
  deriving DecidableEq, Repr

/-! ### The frame that the engines process (01 R20, 09 R235 to R254) -/

/-- The masks of a frame: this device's own electrodes, and what FPARAM said of the other positions: lost ones, masked drive
lines, and shadowed positions with their shadow frames left (04 R119; 14 R370, R378, R380). -/
structure Masks where
  txOff : List Nat
  rxOff : List Nat
  lost : List Nat
  flt : List Nat
  shadow : List (Nat × Nat)
  deriving DecidableEq, Repr

/-- What a frame's header, thresholds and stages need after its scan phase (08 R222). -/
structure FrameInfo where
  frame : Nat
  tb : Nat
  tag : Tag
  flags : Nat
  /-- The F-class values that its FRAME_START sampled. -/
  force : List (Nat × Nat)
  mode : Nat
  govEn : Bool
  oppt : Nat
  kpt : Nat
  thrsc : Nat
  fidx : Nat
  vtx : Nat
  scanUs : Nat
  voids : Nat
  nf : Nat
  /-- The table in force held a self pass over the receive electrodes; over the drive lines. -/
  rxPass : Bool
  txPass : Bool
  hasMutual : Bool
  ovl : List Nat
  table : Nat
  devs : Nat
  /-- Payload of the frame's NOISE plane (12 R332). -/
  noise : List Byte
  masks : Masks
  deriving DecidableEq, Repr

/-- Where a posted task stands (09 R243). -/
inductive TaskState where
  /-- In the queue of an engine. -/
  | posted (queue : Nat)
  | taken (engine : Nat)
  | running (engine : Nat)
  deriving DecidableEq, Repr

/-- A task descriptor with its state (09 R238, R243). -/
structure Task where
  kind : Nat
  buf : Nat
  tid : Nat
  frame : Nat
  row0 : Nat
  col0 : Nat
  nrow : Nat
  ncol : Nat
  slice : Nat
  arg : Nat
  /-- TB at which its wave was posted (R253). -/
  waveTb : Nat
  state : TaskState
  deriving DecidableEq, Repr

/-- An entry of the extension table (09 R250). -/
structure ExtEntry where
  hook : Nat
  enabled : Bool
  entry : Nat
  budget : Nat
  arg : Nat
  win : List Nat
  deriving DecidableEq, Repr

/-- The frame dispatcher (09 R235 to R253). -/
structure Disp where
  /-- Frames past SCAN_END that wait for DISPATCH, oldest first, and the frame being processed. -/
  ready : List FrameInfo
  cur : Option FrameInfo
  /-- REPORT_COMMIT of the frame being processed has passed. -/
  reported : Bool
  /-- Tasks of the wave not yet ended, and those still to be posted with the engine chosen for each (R237, R240). -/
  tasks : List Task
  waiting : List (Nat × Task)
  /-- The wave in progress, 0 for none (WORKRING.STAT.WAVE), whether all its tasks have ended, Nact in force, and the
  active engines in the order of R234. -/
  wave : Nat
  ended : Bool
  nact : Nat
  active : List Nat
  tid : Nat
  /-- Low byte of the counter of the frame dispatched last (FRGEN). -/
  gen : Nat
  /-- TB at which the frame was dispatched and at which the wave was posted. -/
  dispTb : Nat
  waveTb : Nat
  /-- TB at which the wave in progress was complete. -/
  endTb : Nat
  ext : List ExtEntry
  /-- Overruns in a row by entry, entries disabled by R253, and the frames for which EXT_BUDGET was raised. -/
  extRun : List (Nat × Nat)
  extOff : List Nat
  extTold : List Nat
  /-- The booted image's extension table passed R250. -/
  extOk : Bool
  /-- Engines asked to park, with the TB of the request until PARK_LATE is told (R246). -/
  parkReq : List (Nat × Option Nat)
  deriving DecidableEq, Repr

/-! ### The touch pipeline (08) -/

/-- A sub-blob with its moment sums (08 R202, R203). `sg` and `gmax` are in units of 1 / 92,252,160 at σ = 1. -/
structure SubBlob where
  seedD : Nat
  seedC : Nat
  /-- Lies in a blob that counts as a palm (R202 step 1). -/
  palm : Bool
  n : Nat
  sw : Int
  swc : Int
  swd : Int
  sg : Int
  gmax : Int
  edge : Bool
  /-- Largest self signal of its receive electrodes (R206). -/
  sself : Int
  suspect : Bool
  fast : Bool
  /-- Its nodes as (drive index, global receive index), own and borrowed. -/
  nodes : List (Nat × Nat)
  /-- Names the blob it belongs to, by the blob's highest-ranked node. -/
  blob : Nat × Nat
  /-- The device that segmented it with that node, for every part that is joined in it; the device's own nodes of the whole
  blob, and how many they are. -/
  parts : List (Nat × Nat × Nat)
  whole : List (Nat × Nat)
  blobN : Nat
  /-- The blob's on nodes in the two columns on each side of a boundary (14 R373). -/
  reach : List (Nat × Nat)
  deriving DecidableEq, Repr

/-- A tracked contact (08 R211 to R216). -/
structure Track where
  x : Int
  y : Int
  px : Int
  py : Int
  cls : Nat
  newCls : Nat
  newRun : Nat
  coast : Nat
  /-- Contact ID, 0 while it is not reported. -/
  id : Nat
  /-- Not reported again until it ends (R214). -/
  barred : Bool
  v0 : Int
  area : Nat
  peak : Nat
  volume : Int
  suspect : Bool
  edge : Bool
  downX : Nat
  downY : Nat
  downTb : Nat
  age : Nat
  /-- It once was 8 * MOVE or more from its DOWN position; a drag runs. -/
  far : Bool
  drag : Bool
  recX : Nat
  recY : Nat
  /-- Own nodes of its blob, and the blobs that it is made of: device and highest-ranked node (07 R173). -/
  nodes : List (Nat × Nat)
  parts : List (Nat × Nat × Nat)
  /-- Phase of its record in the frame: 0 none, 1 DOWN, 2 HELD, 3 UP, 4 CANCEL. -/
  phase : Nat
  /-- The track ends with this frame. -/
  ends : Bool
  deriving DecidableEq, Repr

/-- A virtual control (08 R217 to R220): values, owner, values posted last, the definition of the last frame in which
its TYPE was not NONE, whether it follows REST, and whether it is faulted. -/
structure Control where
  a : Nat
  b : Nat
  owner : Nat
  postA : Nat
  postB : Nat
  typ : Nat
  rel : Nat
  restA : Nat
  restB : Nat
  outA : Nat
  outB : Nat
  resting : Bool
  faulted : Bool
  deriving DecidableEq, Repr

/-- A pinch (08 R216): the pair, dist0 squared, whether it is active, and the last posted scale. -/
structure Pinch where
  lo : Nat
  hi : Nat
  dist0 : Nat
  active : Bool
  scale : Nat
  deriving DecidableEq, Repr

/-- The last tap: TB of its end, position, and count. -/
structure Tap where
  tb : Nat
  x : Nat
  y : Nat
  count : Nat
  deriving DecidableEq, Repr

/-- The pipeline's state from frame to frame. -/
structure Pipe where
  tracks : List Track
  freeIds : List Nat
  /-- Sub-blobs of the frame being processed, by slice; those that arrived from the members (R204). -/
  subs : List SubBlob
  lists : List (Nat × List SubBlob)
  /-- The hover blob's x, y and peak (R207). -/
  hover : Option (Nat × Nat × Nat)
  /-- Threshold scales kpt * kg and tags of the last processed frame (R201). -/
  lastU : Nat
  lastTag : Tag
  /-- Positions shadowed in the last processed frame (14 R380). -/
  lastShadow : List Nat
  /-- The last 16 processed frames, newest first: was it a glove frame (R209). -/
  glove : List Bool
  /-- TB since which no contact is tracked. -/
  idleTb : Nat
  controls : List Control
  pinch : Option Pinch
  tap : Option Tap
  /-- FLAGS of the last committed report, none before the first one, and its COUNT (R221). -/
  lastFlags : Option Nat
  lastCount : Nat
  /-- A frame since the last committed report was abandoned. -/
  gap : Bool
  cancelAll : Bool
  /-- Sub-blobs were left over in the frame (FULL, R212). -/
  full : Bool
  /-- MODE events that wait for the report: new mode, previous mode, source, table. -/
  modes : List (Nat × Nat × Nat × Nat)
  /-- Header flags that the members' lists bring for the frame: POWERUP-SUSPECT and OVERLOAD (R222). -/
  listFlags : Nat
  /-- The tracks as they stood at DISPATCH, for a frame that is abandoned (R212). -/
  kept : List Track
  /-- Nodes on in the last frame whose segmentation was complete: channel + 96 d (07 R169). -/
  segOn : List Nat
  deriving DecidableEq, Repr

/-! ### Link (14) -/

/-- What the device puts on the link (14 R360 to R381). -/
inductive LinkMsg where
  | enum (port : Option Nat) (hops ndev : Nat)
  | config (c : LinkConfig)
  | configAck
  | fparam (f : Fparam)
  | fparamAck (flt : List Nat) (down upOk : Bool)
  | abandon (frame : Nat)
  | noise (chip e : Nat)
  | listen (frame : Nat) (m : List (Nat × Nat))
  /-- The new index, and the chip at whose end every device switches. -/
  | hop (index chip : Nat)
  | nak (port : Nat)
  /-- A packet that is sent again, or a packet or ordered set that is passed on. -/
  | packet (port : Nat)
  | leaving (pos : Nat)
  | cuff (side part frame : Nat) (values : List Int) (words : List Nat)
  | list (frame : Nat) (recs : List SubRec) (dropped : Nat) (sus ovl : Bool)
  | suspects (nodes : List (Nat × Nat))
  | verdict (unions : List (List (Nat × Nat)))
  | lift (nodes : List (Nat × Nat))
  | stale (parts : List (Nat × Nat × Nat))
  | captureCheck
  | captureResult (order : Nat)
  | captureVerdict (order : Nat)
  | captureDone (result : Nat)
  | q2 (frame : Nat) (vals : List (Nat × Nat))
  | blanking
  | power (retain : Bool)
  | powerStopped
  | powerAbort
  | event (type src p0 p1 p2 flags : Nat)
  | access (op pos addr data : Nat)
  deriving DecidableEq, Repr

/-- The Halgon link. -/
structure Link where
  /-- Window measurements of the members in the frame: index and value (06 R156). -/
  windows : List (Nat × Nat)
  /-- Largest e so far, of every device, for the chip that ended last (14 R376). -/
  e : Nat
  /-- Cuff parts that have arrived for the next frame to be dispatched: signal and filter part, lower and upper side;
  and whether the parts of the frame being processed are there (14 R373). -/
  sigLo : Bool
  sigHi : Bool
  filtLo : Bool
  filtHi : Bool
  cuffLo : Bool
  cuffHi : Bool
  /-- The wait for a signal part has ended without it; the wait for the members' lists has ended (R373, R375). -/
  lateLo : Bool
  lateHi : Bool
  listsDone : Bool
  /-- Positions whose part of the Q2 region has arrived, and the values that it brought (R372). -/
  q2from : List Nat
  q2vals : List (Nat × Nat)
  /-- Lost positions that are configured again, with their shadow frames left (14 R380). -/
  shadow : List (Nat × Nat)
  /-- Positions that ROOT has declared lost; their area is masked from the next frame (R378). -/
  lost : List Nat
  /-- Positions that ENUM has reached and that have acknowledged CONFIG (R362, R363); TB at the start of discovery. -/
  reached : List Nat
  confd : List Nat
  discTb : Nat
  /-- LINK.TMO.DISC as discovery read it at boot (R358). -/
  discLimit : Nat
  /-- ROOT awaits the boundary regions of an acquisition; the positions whose list has come, and the nodes (07 R181). -/
  susOpen : Bool
  susFrom : List Nat
  susNodes : List (Nat × Nat)
  /-- Cuff nodes on in the frame being processed and in the last processed one, in panel coordinates (14 R373, 08 R204). -/
  cuffSeg : List (Nat × Nat)
  cuffOn : List (Nat × Nat)
  /-- Scale factors of the cuff columns, by column: of the frame being processed, of the one dispatched before it, and of the
  last processed one (14 R373, 08 R201). -/
  cuffNow : List (Nat × Nat)
  cuffPrev : List (Nat × Nat)
  cuffLast : List (Nat × Nat)
  deriving DecidableEq, Repr

/-- What the link holds of the frames' parameters, of the remote accesses and of its packets. -/
structure LinkFrame where
  /-- FPARAM for the next frame: as sent by ROOT, or as received by a member (R367, R368). -/
  fp : Option Fparam
  /-- Masked drive lines as the members' acknowledgements brought them, by position (14 R370). -/
  flts : List (Nat × List Nat)
  /-- Positions that have acknowledged it, and frames in a row without FPARAM or with a late list, by position. -/
  acks : List Nat
  miss : List (Nat × Nat)
  late : List (Nat × Nat)
  /-- The falling SYNC edge that starts the next frame: TB, and what lies beyond it in AFECLK cycles (R366). -/
  sync : Option (Nat × Nat)
  /-- A member's bursts are stopped: no FRAME_START for 2T, no path to ROOT, or its own crystal (R365, R366, R378). -/
  mute : Bool
  /-- The hop that switches at the end of a chip: index, and chips still to end (R376). -/
  hop : Option (Nat × Nat)
  /-- TB that CONFIG brought, to be loaded at the SYNC pulse (R362). -/
  tbLoad : Option Nat
  /-- The remote access that runs: OP, position, address, ALL; and TB at its start (R381). -/
  remote : Option (Nat × Nat × Nat × Bool)
  remoteTb : Nat
  /-- ROOT's scan tables, as CONFIG brought them (R364). -/
  tables : List (List Nat)
  /-- A member's scanning is held, as the FPARAM that came last says (06 R149). -/
  held : Bool
  /-- What the members' acknowledgements say of their own governors, by position: 1 DOWN, 2 UPOK (16 R428). -/
  wishes : List (Nat × Nat)
  /-- The port over which a position's traffic came last; at a member, ROOT's (R360). -/
  heard : List (Nat × Nat)
  /-- Members that have not kept their baselines through a sleep (16 R414). -/
  bare : List Nat
  deriving DecidableEq, Repr


/-! ### The whole block -/

/-- The state of the block. -/
structure State where
  sup : Supply
  pow : Power
  /-- Register fields by key (Machine/Registers.lean); a field not listed holds its reset value. -/
  regs : List (Nat × Nat)
  /-- The register fields as the last FRAME_START sampled them (00 R9, R10). -/
  force : List (Nat × Nat)
  nvs : Store
  flt : Faults
  tst : TestMode
  queues : List Queue
  host : HostPort
  twi : TwoWire
  panel : Panel
  coefs : Coefs
  scan : Scan
  base : Baseline
  cal : Cal
  st : SelfTest
  disp : Disp
  pipe : Pipe
  link : Link
  lf : LinkFrame
  /-- The last 16 messages that the device has put on the link, with the ports that carry them: 0 UP, 1 DN. -/
  linkOut : List (List Nat × LinkMsg)
  aout : Outputs
  engines : List Engine
  /-- Instruction RAM, the same in the four slices (01 R18), and the 1 MB frame memory (09 R229), in canonical form. -/
  iram : List Host.Cell
  fmem : List Host.Cell
  night : Nightcap
  gov : Governor
  /-- The next free value: how many values that the spec leaves open have been used (log 1). The model's own field. -/
  free : Nat
  /-- The commands that wait, first in, first out. -/
  pending : List Instr
  deriving DecidableEq, Repr

/-! ### The state right after a power-on reset -/

/-- Strap balls left open (log 7). -/
def StrapPins.open : StrapPins := ⟨true, false, false, some 3, some 5, false⟩

/-- An empty queue. -/
def Queue.reset : Queue := ⟨[], 0⟩

/-- No blanking. -/
def Blank.reset : Blank := ⟨false, false, false, false, 0, [], 0, 0, 0, 0⟩

/-- The scale tag before any frame: VTX code 5 (05 R125) and the gain codes of reset. -/
def Tag.reset : Tag := ⟨5, List.replicate 96 4, List.replicate 96 0x8000⟩

/-- The sequencers before scanning starts. -/
def Scan.reset : Scan where
  started := false
  fresh := true
  frame := 0
  startTb := 0
  startFrac := 0
  period := 0
  clk := 0
  phase := .idle
  words := []
  sub := 0
  settle := 0
  settleDue := false
  settled := false
  hopped := false
  eDone := false
  eRun := 0
  ePeak := 0
  deferred := none
  burst := 0
  gap := 0
  seqs := []
  built := 0
  windows := []
  slot := []
  rotor := 0
  staging := List.replicate 256 0
  testStaging := List.replicate 256 0
  test := false
  stim := 0
  tag := Tag.reset
  lastVtx := 5
  dropout := false
  dropTold := false
  ovChips := List.replicate 96 0
  ovl := []
  clamped := []
  txOff := []
  rxOff := []
  waits := false
  winVoid := false
  ages := List.replicate 32 0
  abandoned := false
  stopping := false
  modeSrc := 0
  builtin := false
  enabled := []
  blank := Blank.reset

/-- Baselines before any acquisition. -/
def Baseline.reset : Baseline :=
  ⟨[], none, 0, [], none, [], [], [], List.replicate 256 0, List.replicate 256 0, [], [], [], [], Tag.reset, []⟩

/-- The calibration controller at rest. -/
def Cal.reset : Cal where
  arg := 0
  vals := []
  again := false
  abort := false
  stepFrame := 0
  slot := []
  slotBg := false
  slotFrame := 0
  slotStep := 0
  bgPaused := false
  outPhase := 0
  capture := none
  bg := false
  bgSlice := 0
  bgStep := 0
  bgVals := []
  bgAgain := false
  bgTb := 0
  bgTemps := []

/-- The self-test at rest. -/
def SelfTest.reset : SelfTest := ⟨0, 0, 0, false, 0, [], [], [], [], [], []⟩

/-- The dispatcher at rest. -/
def Disp.reset : Disp where
  ready := []
  cur := none
  reported := false
  tasks := []
  waiting := []
  wave := 0
  ended := false
  nact := 32
  active := (List.range 8).flatMap fun k => [k, 8 + k, 16 + k, 24 + k]
  tid := 0
  gen := 0
  dispTb := 0
  waveTb := 0
  endTb := 0
  ext := []
  extRun := []
  extOff := []
  extTold := []
  extOk := false
  parkReq := []

/-- The registers of an engine after reset (10 R290). -/
def Core.reset : Core where
  pc := 0
  fl := 0
  x := 0
  sp := 0
  rc := 0
  mh := 0
  ml := 0
  mq := 0
  mr := 0
  slot := 0
  cyc := 0
  cycSnap := 0
  tbsSnap := 0
  delay := .none
  pre := none
  fwd := []
  prods := []
  quot := none
  sloe := none
  quince := none
  held := (0, 0, 0)
  rsv := none
  depth := 0
  trapAt := none
  cause := 0
  double := false
  trapPc := 0

/-- The windows of an engine of slice `s` after reset: its own bank from its start (09 R230). -/
def resetWindows (s : Nat) : List Nat := (List.range 7).map fun k => 32 * s + k

/-- Engine `e` after reset; its local RAM is undefined after power-on (09 R228; log 6). -/
def Engine.reset (e : Nat) : Engine where
  core := Core.reset
  late := []
  hidden := []
  wbuf := []
  ram := []
  win := resetWindows (e / 8)
  tidStage := 0
  fevt := 0
  fevten := 0
  xmode := none
  dbg := []
  drops := 0
  round := 0
  given := 0
  buf := ⟨0x10000, 0, 0x10000, []⟩
  state := .reset
  prior := .reset
  kind := 0
  tid := 0
  task := false
  aborted := false
  tasks := 0
  busy := 0
  stall := 0
  step := false
  pass := false
  brk := false

/-- The pipeline with no track; the free IDs are 1 to 250 in ascending order (08 R213). -/
def Pipe.reset : Pipe where
  tracks := []
  freeIds := (List.range 250).map (· + 1)
  subs := []
  lists := []
  hover := none
  lastU := 0
  lastTag := Tag.reset
  lastShadow := []
  glove := []
  idleTb := 0
  controls := List.replicate 16 ⟨0, 0, 0, 0, 0, 0, 0, 0, 0, 0, 0, false, false⟩
  pinch := none
  tap := none
  lastFlags := none
  lastCount := 0
  gap := false
  cancelAll := false
  full := false
  modes := []
  listFlags := 0
  kept := []
  segOn := []

/-- The link before discovery. -/
def Link.reset : Link where
  windows := []
  e := 0
  sigLo := false
  sigHi := false
  filtLo := false
  filtHi := false
  cuffLo := false
  cuffHi := false
  lateLo := false
  lateHi := false
  listsDone := false
  q2from := []
  q2vals := []
  shadow := []
  lost := []
  reached := []
  confd := []
  discTb := 0
  discLimit := 0x14
  susOpen := false
  susFrom := []
  susNodes := []
  cuffSeg := []
  cuffOn := []
  cuffNow := []
  cuffPrev := []
  cuffLast := []

/-- The store as delivered: nothing programmed (log 6). -/
def Store.reset : Store :=
  ⟨[], [], [], [], [], false, false, List.replicate 16 .free, none, [], 0, false, none, none, none, none⟩

/-- The collector with nothing accepted. -/
def Faults.reset : Faults := ⟨[], [], [], [], none, false, [], 16, 0, 0, 0, 0⟩

/-- The power manager in RUN, TB at 0 (03 R63). -/
def Power.reset : Power :=
  ⟨.run, 0, 0, false, none, false, false, [], none, 0, false, false, false, false, false, []⟩

/-- The block right after a power-on reset: the rails are up, no command of the boot has run, the straps are not
sampled, and DEVICE.RSTCAUSE.POR is set (03 R63). -/
def State.reset : State where
  sup := ⟨true, true, false, false, true, false, StrapPins.open, false⟩
  pow := Power.reset
  regs := [(R.DEVICE_RSTCAUSE_POR.key, 1)]
  force := []
  nvs := Store.reset
  flt := Faults.reset
  tst := ⟨0, 0, false⟩
  queues := List.replicate 4 Queue.reset
  host := ⟨[], false⟩
  twi := ⟨⟨0x10000, 0, 0x10000, []⟩, [], 0, 0, 0, 0, [], 0, []⟩
  panel := ⟨[(160, 96)], 0, 1, [], [], []⟩
  coefs := ⟨[], []⟩
  scan := Scan.reset
  base := Baseline.reset
  cal := Cal.reset
  st := SelfTest.reset
  disp := Disp.reset
  pipe := Pipe.reset
  link := Link.reset
  lf := ⟨none, [], [], [], [], none, false, none, none, none, 0, [], false, [], [], []⟩
  linkOut := []
  engines := (List.range 32).map Engine.reset
  iram := []
  fmem := []
  aout := ⟨List.replicate 8 ⟨false, 0, 0, false⟩, true, false⟩
  night := ⟨0, 0, List.replicate 16 ⟨0, 0, false, false⟩, List.replicate 8 ⟨0, 0, 0, 0⟩⟩
  gov := ⟨false, 0, 0⟩
  free := 0
  pending := []

end Sys2Proof.Machine
end

