-- ==== Sys2Proof/Machine/Ops.lean ====
section
/-!
DEFINITION. The named operations that every family uses: sparse lists, memory, register fields, byte order,
rounding, the timebase and the raising of fault messages.
-/

namespace Sys2Proof.Machine

/-! ### Sparse lists sorted by key -/

/-- The value at a key, `d` where none is listed. -/
def aget {α : Type} (d : α) (k : Nat) : List (Nat × α) → α
  | [] => d
  | (j, v) :: t => if k = j then v else if k < j then d else aget d k t

/-- Sets the value at a key, keeping the keys in rising order. -/
def aput {α : Type} (k : Nat) (v : α) : List (Nat × α) → List (Nat × α)
  | [] => [(k, v)]
  | (j, w) :: t =>
    if k < j then (k, v) :: (j, w) :: t
    else if k = j then (k, v) :: t
    else (j, w) :: aput k v t

/-- Removes a key. -/
def adel {α : Type} (k : Nat) (m : List (Nat × α)) : List (Nat × α) := m.filter fun p => p.1 ≠ k

/-! ### Byte memories in canonical form: addresses rising, no byte 0 listed -/

/-- What a byte that nothing has written reads as (log 6). -/
def Memory.empty : Byte := 0

/-- Reads one byte. -/
def Memory.read (m : List Host.Cell) (a : Nat) : Byte :=
  match m with
  | [] => Memory.empty
  | (b, v) :: t => if a = b then v else if a < b then Memory.empty else Memory.read t a

/-- Writes one byte and keeps the canonical form. -/
def Memory.write (m : List Host.Cell) (a : Nat) (v : Byte) : List Host.Cell :=
  match m with
  | [] => if v = Memory.empty then [] else [(a, v)]
  | (b, w) :: t =>
    if a < b then (if v = Memory.empty then (b, w) :: t else (a, v) :: (b, w) :: t)
    else if a = b then (if v = Memory.empty then t else (a, v) :: t)
    else (b, w) :: Memory.write t a v

/-- The canonical form above `lo`: addresses strictly rising, no listed byte equal to what an unlisted one reads as. -/
def Memory.wfFrom (lo : Nat) : List Host.Cell → Bool
  | [] => true
  | (a, v) :: t => decide (lo ≤ a) && decide (v ≠ Memory.empty) && Memory.wfFrom (a + 1) t

/-- The canonical form of a memory. -/
def Memory.wf (m : List Host.Cell) : Bool := Memory.wfFrom 0 m

/-- The cells of a list of bytes from an address upward. -/
def Memory.cells (a : Nat) : List Byte → List Host.Cell
  | [] => []
  | v :: t => if v = Memory.empty then Memory.cells (a + 1) t else (a, v) :: Memory.cells (a + 1) t

/-- Writes a list of bytes from an address upward, in one pass. -/
def Memory.writeList (m : List Host.Cell) (a : Nat) (l : List Byte) : List Host.Cell :=
  match m with
  | [] => Memory.cells a l
  | (b, w) :: t =>
    if b < a then (b, w) :: Memory.writeList t a l
    else Memory.cells a l ++ ((b, w) :: t).dropWhile fun c => c.1 < a + l.length

/-- Reads `n` bytes from an address upward. -/
def Memory.readList (m : List Host.Cell) (a n : Nat) : List Byte :=
  (List.range n).map fun i => Memory.read m (a + i)

/-! ### Numbers and byte order (00 R5) -/

/-- The low byte of a number. -/
def byteOf (n : Nat) : Byte := BitVec.ofNat 8 n

/-- `n` bytes of a number, least significant first. -/
def toBytes : Nat → Nat → List Byte
  | 0, _ => []
  | n + 1, v => byteOf v :: toBytes n (v / 256)

/-- The number that bytes spell, least significant first. -/
def ofBytes : List Byte → Nat
  | [] => 0
  | b :: t => b.toNat + 256 * ofBytes t

/-- 16 bits as a signed number. -/
def signed16 (n : Nat) : Int := if n % 65536 < 32768 then (n % 65536 : Nat) else ((n % 65536 : Nat) : Int) - 65536

/-- A signed number as 16 bits. -/
def unsigned16 (i : Int) : Nat := (i % 65536).toNat

/-- `n` divided by `d`, rounded half away from zero. -/
def roundDiv (n : Int) (d : Nat) : Int :=
  if d = 0 then 0
  else if 0 ≤ n then (2 * n + d) / (2 * d) else -((2 * (-n) + d) / (2 * d))

/-- Clamps to a range. -/
def clampInt (lo hi x : Int) : Int := if x < lo then lo else if hi < x then hi else x

/-- The quotient rounded up. -/
def ceilDiv (n d : Nat) : Nat := if d = 0 then 0 else (n + d - 1) / d

/-- Bit `i` of a number. -/
def bit (n i : Nat) : Bool := (n >>> i) % 2 == 1

/-- The first number with every bit cleared that the second one sets. -/
def clearBits (n w : Nat) : Nat := n ^^^ (n &&& w)

/-- 1 for true. -/
def b2n (b : Bool) : Nat := if b then 1 else 0

/-- Sum of a list. -/
def sumNat (l : List Nat) : Nat := l.foldl (· + ·) 0

/-- Sum of a list of signed numbers. -/
def sumInt (l : List Int) : Int := l.foldl (· + ·) 0

/-- Changes the element at an index, if there is one. -/
def upd {α : Type} (l : List α) (i : Nat) (f : α → α) : List α :=
  match l, i with
  | [], _ => []
  | a :: t, 0 => f a :: t
  | a :: t, n + 1 => a :: upd t n f

/-- Adds an element to a list that holds no repeats. -/
def addOnce {α : Type} [DecidableEq α] (a : α) (l : List α) : List α := if a ∈ l then l else a :: l

/-! ### Register fields (00 R8 to R12) -/

/-- The present value of a field. -/
def State.get (s : State) (f : Fld) : Nat := aget f.reset f.key s.regs

/-- Sets a field, cut to its width. -/
def State.set (s : State) (f : Fld) (v : Nat) : State := { s with regs := aput f.key (v % 2 ^ f.width) s.regs }

/-- The value of an F-class field that the last FRAME_START sampled (00 R9). -/
def State.inForce (s : State) (f : Fld) : Nat := aget f.reset f.key s.force

/-- A field of one bit as a truth value. -/
def State.flag (s : State) (f : Fld) : Bool := s.get f != 0

/-- Sets a field of one bit. -/
def State.setFlag (s : State) (f : Fld) (b : Bool) : State := s.set f (b2n b)

/-- Increments an error counter, which saturates (00 R17). -/
def State.sat (s : State) (f : Fld) : State :=
  if s.get f + 1 < 2 ^ f.width then s.set f (s.get f + 1) else s.set f (2 ^ f.width - 1)

/-- Increments an event counter, which wraps (00 R17). -/
def State.wrap (s : State) (f : Fld) : State := s.set f (s.get f + 1)

/-- Sets every field of a list to its reset value. -/
def State.clear (s : State) : List Fld → State
  | [] => s
  | f :: t => (s.set f f.reset).clear t

/-! ### The timebase (16 R420, 17 R452) -/

/-- One more than the largest value of TB. -/
def tbMod : Nat := 0x1000000000000

/-- The time from `a` to `b`, modulo 2^48 (17 R452). -/
def tbDiff (b a : Nat) : Nat := (b + tbMod - a % tbMod) % tbMod

/-- The code of an output after `us` microseconds of slewing at limit `sl` toward its active code (15 R394). -/
def slewStep (sl out act us : Nat) : Nat :=
  if sl = 0 then act
  else if out ≤ act then min act (out + us * 2 ^ (sl - 1))
  else max act (out - us * 2 ^ (sl - 1))

/-- Lets one LIVE output slew (15 R394). -/
def State.slewOne (us : Nat) (s : State) (n : Nat) : State :=
  if s.get (R.AOUT_STAT_ST n) = 2 && s.get (R.AOUT_OUT n) ≠ s.get (R.AOUT_ACT n) then
    s.set (R.AOUT_OUT n) (slewStep (s.get (R.AOUT_SLEW n)) (s.get (R.AOUT_OUT n)) (s.get (R.AOUT_ACT n)) us)
  else s

/-- Lets microseconds pass: TB counts, and the LIVE outputs slew. -/
def State.addTb (s : State) (us : Nat) : State :=
  (List.range 8).foldl (State.slewOne us) { s with pow := { s.pow with tb := (s.pow.tb + us) % tbMod } }

/-- Brings TB forward to a time, unless it is there or beyond already. -/
def State.advanceTo (s : State) (t : Nat) : State :=
  if tbDiff t s.pow.tb < tbMod / 2 then s.addTb (tbDiff t s.pow.tb) else s

/-- A fresh value that the spec leaves open (log 1), and the state that has used it up. -/
def State.takeFree (s : State) : Nat × State :=
  ((Config.freeValue s.free).toNat, { s with free := s.free + 1 })

/-! ### Fault messages (17 R429 to R433) -/

/-- One row of the table of fault kinds: code, severity, whether it is a condition, and its source. -/
structure KindRow where
  kind : Nat
  sev : Nat
  cond : Bool
  src : Nat

/-- The fault kinds (17 R433). Source 0x00 of REG_WRERR and 0x10 of COMP_CLAMP and FE_OVERLOAD stand for the owning page and slice. -/
def kindTable : List KindRow :=
  [⟨0x01, 0, false, 0x00⟩, ⟨0x02, 1, true, 0x00⟩, ⟨0x03, 1, true, 0x01⟩, ⟨0x04, 1, false, 0x14⟩,
   ⟨0x05, 1, true, 0x01⟩, ⟨0x06, 3, true, 0x02⟩, ⟨0x07, 3, true, 0x22⟩, ⟨0x08, 3, false, 0x14⟩,
   ⟨0x09, 1, true, 0x14⟩, ⟨0x0A, 3, true, 0x04⟩, ⟨0x10, 2, true, 0x19⟩, ⟨0x11, 1, false, 0x03⟩,
   ⟨0x12, 1, true, 0x03⟩, ⟨0x13, 2, true, 0x03⟩, ⟨0x14, 1, false, 0x03⟩, ⟨0x15, 1, false, 0x03⟩,
   ⟨0x16, 1, false, 0x03⟩, ⟨0x17, 1, false, 0x03⟩, ⟨0x20, 1, false, 0x15⟩, ⟨0x21, 1, false, 0x15⟩,
   ⟨0x22, 1, false, 0x1A⟩, ⟨0x23, 1, false, 0x10⟩, ⟨0x24, 1, false, 0x10⟩, ⟨0x25, 1, false, 0x18⟩,
   ⟨0x26, 0, false, 0x18⟩, ⟨0x27, 0, false, 0x19⟩, ⟨0x28, 1, false, 0x19⟩, ⟨0x29, 0, false, 0x1B⟩]
  ++
  [⟨0x30, 1, false, 0x30⟩, ⟨0x31, 2, true, 0x30⟩, ⟨0x32, 3, true, 0x50⟩, ⟨0x33, 1, false, 0x50⟩,
   ⟨0x34, 1, false, 0x50⟩, ⟨0x35, 0, false, 0x50⟩, ⟨0x36, 0, false, 0x50⟩, ⟨0x37, 1, false, 0x50⟩,
   ⟨0x38, 1, false, 0x50⟩, ⟨0x39, 1, true, 0x50⟩, ⟨0x40, 1, true, 0x08⟩, ⟨0x41, 0, false, 0x08⟩,
   ⟨0x42, 2, true, 0x08⟩, ⟨0x43, 0, false, 0x08⟩, ⟨0x44, 1, true, 0x08⟩, ⟨0x45, 1, true, 0x08⟩,
   ⟨0x46, 2, true, 0x08⟩, ⟨0x47, 2, true, 0x08⟩, ⟨0x48, 2, true, 0x08⟩, ⟨0x49, 1, true, 0x08⟩,
   ⟨0x4A, 1, false, 0x08⟩, ⟨0x4B, 0, false, 0x08⟩, ⟨0x50, 1, true, 0x20⟩, ⟨0x51, 2, true, 0x20⟩,
   ⟨0x52, 1, true, 0x20⟩, ⟨0x53, 0, false, 0x21⟩, ⟨0x54, 1, true, 0x22⟩, ⟨0x55, 1, true, 0x22⟩,
   ⟨0x60, 1, true, 0x04⟩, ⟨0x61, 1, true, 0x04⟩, ⟨0x62, 2, true, 0x04⟩, ⟨0x63, 0, false, 0x04⟩]

/-- The row of a kind; a kind that the table does not list has severity NOTE and source 0. -/
def kindRow (k : Nat) : KindRow := (kindTable.find? fun r => r.kind = k).getD ⟨k, 0, false, 0⟩

/-- Severity of a kind by the table; ENG_TRAP's NOTE or WARN is chosen by its sender (10 R287). -/
def kindSev (k : Nat) : Nat := (kindRow k).sev

namespace Kind
def regWrerr : Nat := 0x01
def strapAmbig : Nat := 0x02
def vinLow : Nat := 0x03
def vtxDropout : Nat := 0x04
def vioLoss : Nat := 0x05
def clkLoss : Nat := 0x06
def thermal : Nat := 0x07
def vtxFault : Nat := 0x08
def txShort : Nat := 0x09
def collectorParity : Nat := 0x0A
def fcalBad : Nat := 0x10
def cfgMismatch : Nat := 0x11
def noReference : Nat := 0x12
def noImage : Nat := 0x13
def nvsEcc : Nat := 0x14
def bankFallback : Nat := 0x15
def trialReject : Nat := 0x16
def plogFail : Nat := 0x17
def scanTableBad : Nat := 0x20
def scanOverrun : Nat := 0x21
def pipeOverrun : Nat := 0x22
def compClamp : Nat := 0x23
def feOverload : Nat := 0x24
def baseAcqOvl : Nat := 0x25
def refStale : Nat := 0x26
def calReject : Nat := 0x27
def calCfgBad : Nat := 0x28
def q2TooBig : Nat := 0x29
def engTrap : Nat := 0x30
def engDoubleTrap : Nat := 0x31
def engExhausted : Nat := 0x32
def taskLost : Nat := 0x33
def waveTimeout : Nat := 0x34
def houseLate : Nat := 0x35
def parkLate : Nat := 0x36
def extTableBad : Nat := 0x37
def extBudget : Nat := 0x38
def extDisabled : Nat := 0x39
def linkDown : Nat := 0x40
def linkUp : Nat := 0x41
def devLost : Nat := 0x42
def devReturn : Nat := 0x43
def noRing : Nat := 0x44
def noRoot : Nat := 0x45
def rootConflict : Nat := 0x46
def cascadeCfg : Nat := 0x47
def syncFault : Nat := 0x48
def clkRef : Nat := 0x49
def linkLate : Nat := 0x4A
def cuffLate : Nat := 0x4B
def aoutShort : Nat := 0x50
def avoFail : Nat := 0x51
def vrefaRange : Nat := 0x52
def ncapGesture : Nat := 0x53
def govBelow : Nat := 0x54
def govExhausted : Nat := 0x55
def elecOpen : Nat := 0x60
def elecShort : Nat := 0x61
def flexLost : Nat := 0x62
def flexReturn : Nat := 0x63
end Kind

/-- The page whose header a message's source owns; engine messages carry ENGID in the detail (18 R458). -/
def Msg.page (m : Msg) : Nat :=
  if m.src = 0x30 then 0x30 + (if m.kind = Kind.engTrap then m.detail / 256 else m.detail) % 32 else m.src

/-- Whether the source's page suppresses the message; ERROR and CRITICAL cannot be suppressed (17 R431). -/
def State.suppressed (s : State) (m : Msg) : Bool :=
  (m.sev = 0 && s.flag (R.PFMASK_NOTE m.page)) || (m.sev = 1 && s.flag (R.PFMASK_WARN m.page))

/-- The kinds whose condition is tracked for each instance that the detail names (17 R432). -/
def perInstance (k : Nat) : Bool :=
  [Kind.thermal, Kind.txShort, Kind.engDoubleTrap, Kind.extDisabled, Kind.linkDown, Kind.devLost, Kind.aoutShort,
    Kind.elecOpen, Kind.elecShort].contains k

/-- Two messages come from one source and are of one kind and instance; each engine is a source of its own (17 R444). -/
def Msg.sameInstance (a b : Msg) : Bool := a.page = b.page && a.kind = b.kind && (!perInstance a.kind || a.detail = b.detail)

/-- A source sends a message: it enters the input queue, or waits at its source behind a full queue, where a
second message of the same kind and instance merges into the waiting one (01 R26, 17 R431, R444). -/
def State.raise (s : State) (m : Msg) : State :=
  if s.suppressed m then s
  else if s.flt.queue.length ≥ 32 && (s.flt.queue.drop 32).any m.sameInstance then s
  else { s with flt := { s.flt with queue := s.flt.queue ++ [m] } }

/-- Raises an event kind of the table, with its address and detail. -/
def State.eventFault (s : State) (k addr detail : Nat) : State :=
  s.raise ⟨(kindRow k).src, k, kindSev k, addr, detail, false⟩

/-- The onset of a condition on an instance: its LIVE mark and one message, unless it is live there already (17 R432). -/
def State.onset (s : State) (k inst addr detail : Nat) : State :=
  if (k, inst) ∈ s.flt.live then s
  else ({ s with flt := { s.flt with live := (k, inst) :: s.flt.live } }).eventFault k addr detail

/-- A condition becomes live without a message. -/
def State.markLive (s : State) (k inst : Nat) : State :=
  { s with flt := { s.flt with live := addOnce (k, inst) s.flt.live } }

/-- The end of a condition on an instance: its LIVE mark goes. -/
def State.ceases (s : State) (k inst : Nat) : State :=
  { s with flt := { s.flt with live := s.flt.live.filter fun p => p ≠ (k, inst) } }

/-- Whether a kind is live on any instance. -/
def State.isLive (s : State) (k : Nat) : Bool := s.flt.live.any fun p => p.1 = k

/-- The source ID of a page: the engines share 0x30 (17 R430). -/
def pageSource (p : Nat) : Nat := if 0x30 ≤ p && p < 0x50 then 0x30 else p

/-- A write is rejected: PSTAT.WRERR, the page event and one REG_WRERR that carries the register's address (18 R458, R460). -/
def State.wrerr (s : State) (page off : Nat) : State :=
  let s := s.set (R.PSTAT_WRERR page) 1
  let s := if s.flag (R.PIEN_WRERR page) then s.set (R.PIRQ_WRERR page) 1 else s
  s.raise ⟨pageSource page, Kind.regWrerr, 0, page * 256 + off, 0, false⟩

/-- A write that the vendor program makes to a register of a page, as engine writes do: it is ignored while PCTRL.EN is 0,
and rejected while the page is locked (18 R456, R459, R460). `t` is the state after the write. -/
def State.vendorWrite (s : State) (page off : Nat) (t : State) : State :=
  if !s.flag (R.PCTRL_EN page) then s
  else if s.flag (R.PLOCK_LOCKED page) then s.wrerr page off
  else t

/-! ### The link (14 R360) -/

/-- The device works in a cascade. -/
def State.inCascade (s : State) : Bool := 1 < s.panel.ndev

/-- The device is a configured member of a cascade. -/
def State.follows (s : State) : Bool := s.inCascade && s.panel.pos ≠ 0

/-- The state of a port: 0 UP, 1 DN. -/
def portState (p : Nat) : Fld := if p = 0 then R.LINK_PORT_UPST else R.LINK_PORT_DNST

/-- The ports that are up. -/
def State.portsUp (s : State) : List Nat := [0, 1].filter fun p => s.get (portState p) = 2

/-- The port that traffic takes of two ways of so many hops: the shorter one, of two of one length either (log 114), while the
ring is closed; the way that still works when the ring is broken, over which position `p` was heard last (14 R360). -/
def State.portFor (s : State) (p up dn : Nat) : List Nat :=
  let short := if up < dn || (up = dn && Config.tieUp s.panel.pos) then 0 else 1
  let want := if s.flag R.LINK_STAT_RING then short else aget short p s.lf.heard
  if want ∈ s.portsUp then [want] else s.portsUp

/-- The port toward ROOT, and at ROOT the port toward a position. -/
def State.portToRoot (s : State) : List Nat := s.portFor 0 s.panel.pos (s.panel.ndev - s.panel.pos)
def State.portToPos (s : State) (p : Nat) : List Nat := s.portFor p (s.panel.ndev - p) p

/-- The ports that carry a message (14 R360, R372): a broadcast of ROOT goes both ways round, and so does LEAVING; what a member
has for ROOT goes toward ROOT, and what ROOT has for one member toward that one. -/
def State.portsFor (s : State) : LinkMsg → List Nat
  | .enum none _ _ => s.portsUp
  | .enum (some p) _ _ => s.portsUp.filter (· = p)
  | .config c => s.portToPos c.pos
  | .nak p => [p]
  | .packet p => [p]
  | .cuff side _ _ _ _ => [side]
  | .leaving _ => s.portsUp
  | .lift _ => s.portsUp
  | .access _ pos _ _ => if s.panel.pos ≠ 0 then s.portToRoot else if pos = 0xF then s.portsUp else s.portToPos pos
  | _ => if s.panel.pos ≠ 0 then s.portToRoot else s.portsUp

/-- Puts a message on the link; the last 16 are kept. -/
def State.send (s : State) (m : LinkMsg) : State :=
  let l := s.linkOut ++ [(s.portsFor m, m)]
  { s with linkOut := l.drop (l.length - 16) }

/-- A member passes on what has come over a port, by the other one where it is up (14 R360). -/
def State.passOn (s : State) (port : Nat) : State := if 1 - port ∈ s.portsUp then s.send (.packet (1 - port)) else s

/-! ### Whether the block is powered -/

/-- The block is out of OFF and its oscillator runs (02 R46, R52). -/
def State.up (s : State) : Bool := s.sup.on && !s.sup.oscHeld

/-- The block is in the power state RUN with its domains on. -/
def State.inRun (s : State) : Bool := s.up && s.pow.state = .run

/-- The end of a command that has led from `s` to `t`: the queue is as it stands, and TB and the frame counter keep to their
48 and 32 bits (17 R452, 08 R222). -/
def State.finish (s t : State) : State :=
  { t with
    pending := s.pending
    pow := { t.pow with tb := t.pow.tb % tbMod }
    scan := { t.scan with frame := t.scan.frame % 0x100000000 } }

/-- A command completes. -/
def done (s t : State) : Host.Outcome State Fault Refusal := .next (s.finish t)

/-- A meaning that takes effect only under a condition, and otherwise leaves the block as it is. -/
def onlyIf (b : Bool) (s t : State) : Host.Outcome State Fault Refusal := if b then done s t else .next s

end Sys2Proof.Machine
end

