-- ==== Sys2Proof/Machine/Queues.lean ====
section
/-!
DEFINITION. The report queues Q0 to Q3, their overflow rules, the events of Q1, and the interrupt sources
(spec/12_host_port_queues_interrupts.md R327 to R338; checks of spec/08 R223 and R225).
-/

namespace Sys2Proof.Machine

/-! ### Checks -/

/-- One byte into a CRC that shifts left: width `w` bits, polynomial `poly`. -/
def crcStep (w poly crc : Nat) (b : Byte) : Nat :=
  (List.range 8).foldl
    (fun c _ => if bit c (w - 1) then ((c <<< 1) ^^^ poly) % 2 ^ w else (c <<< 1) % 2 ^ w)
    (crc ^^^ (b.toNat <<< (w - 8)))

/-- CRC-16 of reports: polynomial 0x1021, initial value 0xFFFF (08 R223). -/
def crc16 (l : List Byte) : Nat := l.foldl (crcStep 16 0x1021) 0xFFFF

/-- CRC-8 of events: polynomial 0x07, initial value 0 (08 R225). -/
def crc8 (l : List Byte) : Nat := l.foldl (crcStep 8 0x07) 0

/-! ### Queues -/

/-- Capacity of a queue in bytes (12 R327). -/
def queueCapacity (n : Nat) : Nat :=
  match n with
  | 0 => 16384
  | 1 => 4096
  | 2 => 131072
  | _ => 4096

/-- The bytes a queue holds, its open record included (QnSTAT.LEVEL). -/
def Queue.level (q : Queue) : Nat := sumNat (q.recs.map List.length) - q.delivered

/-- Whether the head record is open (12 R328). -/
def Queue.isOpen (q : Queue) : Bool := q.delivered != 0

/-- The queue of a number. -/
def State.queue (s : State) (n : Nat) : Queue := s.queues.getD n ⟨[], 0⟩

/-- Replaces a queue. -/
def State.setQueue (s : State) (n : Nat) (q : Queue) : State := { s with queues := upd s.queues n fun _ => q }

/-- Drops records from the oldest on until `need` bytes fit in `room`: how many went, and what is left. -/
def dropFor (need room : Nat) : List (List Byte) → Nat × List (List Byte)
  | [] => (0, [])
  | r :: t => if need ≤ room then (0, r :: t) else let (n, l) := dropFor need (room + r.length) t; (n + 1, l)

/-- Counts `n` more dropped records (12 R330). -/
def State.drops (s : State) (q : Nat) : Nat → State
  | 0 => s
  | n + 1 => (s.sat (R.QUEUE_SEQ_DROPS q)).drops q n

/-- Commits a record to a queue; it takes the next sequence number whether it is stored or refused (12 R329, R330). A member of
a cascade commits nothing to its own queues (14 R372).
`always`: refused whatever OVF says (12 R333). -/
def State.push (s : State) (n : Nat) (refuse : Bool) (mk : Nat → List Byte) : State :=
  if s.follows then s else
  let rec_ := mk (s.get (R.QUEUE_SEQ_NEXT n))
  let s := s.wrap (R.QUEUE_SEQ_NEXT n)
  let q := s.queue n
  let room := queueCapacity n - q.level
  if refuse then s.drops n 1
  else if rec_.length ≤ room then s.setQueue n { q with recs := q.recs ++ [rec_] }
  else if s.flag (R.QUEUE_CTL_OVF n) then s.drops n 1
  else
    let kept := if q.isOpen then q.recs.take 1 else []
    let rest := if q.isOpen then q.recs.drop 1 else q.recs
    let (gone, left) := dropFor rec_.length room rest
    let s := s.drops n gone
    let q := { q with recs := kept ++ left }
    if rec_.length ≤ queueCapacity n - q.level then s.setQueue n { q with recs := q.recs ++ [rec_] }
    else (s.setQueue n q).drops n 1

/-- Delivers `k` bytes of a queue; where it holds none, 0x00 is sent and nothing is consumed (12 R328). -/
def Queue.deliver : Nat → Queue → List Byte × Queue
  | 0, q => ([], q)
  | k + 1, q =>
    match q.recs with
    | [] => let (l, q') := Queue.deliver k q; (0 :: l, q')
    | r :: t =>
      let q' := if q.delivered + 1 < r.length then { q with delivered := q.delivered + 1 } else ⟨t, 0⟩
      let (l, q'') := Queue.deliver k q'
      (r.getD q.delivered 0 :: l, q'')

/-- FLUSH: every record that is not open goes (12 R331). -/
def Queue.flush (q : Queue) : Queue := if q.isOpen then { q with recs := q.recs.take 1 } else ⟨[], 0⟩

/-- SKIP: the undelivered rest of the open record goes (12 R331). -/
def Queue.skip (q : Queue) : Queue := if q.isOpen then ⟨q.recs.drop 1, 0⟩ else q

/-! ### Interrupts -/

/-- The bits of IRQ.PEND's event sources (12 R335), counted from bit 4. -/
def irqFault : Nat := 1
def irqPower : Nat := 2
def irqWake : Nat := 4
def irqCal : Nat := 8

/-- An event source becomes pending (12 R336). -/
def State.irq (s : State) (b : Nat) : State := s.set R.IRQ_PEND_EVENT (s.get R.IRQ_PEND_EVENT ||| b)

/-- IRQ.RAW: the level sources of the queues (12 R335); an event source has no level. -/
def State.irqRaw (s : State) : Nat :=
  (List.range 4).foldl
    (fun a n => if 16 * s.get (R.QUEUE_CTL_WMARK n) ≤ (s.queue n).level then a ||| (1 <<< n) else a) 0

/-- IRQ.PEND (12 R336), which is also the status echo (12 R325). -/
def State.irqPend (s : State) : Nat := s.irqRaw ||| (s.get R.IRQ_PEND_EVENT <<< 4)

/-- The field of IRQ.MAP that routes a source. -/
def irqMap (k : Nat) : Fld := ⟨0x07, 0x28, 4 * k, 4, .rw, .l, 0x13322F10 >>> (4 * k) % 16, 0, 3, 15⟩

/-- Whether some source routed to pin IRQn is pending: the pin is asserted (12 R337). -/
def State.irqAsserted (s : State) (n : Nat) : Bool :=
  (List.range 8).any fun k => bit s.irqPend k && s.get (irqMap k) == n

/-- PD1 is powered: in RUN, and in the fault safe state (01 R32, R34). -/
def State.pd1 (s : State) : Bool := s.up && (s.pow.state = .run || s.flt.safe)

/-- Posts an event to Q1 (08 R225); nothing is posted while PD1 is off or in the fault safe state (17 R442). A member
of a cascade commits nothing to its own queues; its CAL and SUSPECT_EXPIRED events go to ROOT (14 R372), and so do the TIMEGAP
and MODE events whose rules have a member post them (16 R421, 06 R162; log 114). -/
def State.event (s : State) (type src p0 p1 p2 flags : Nat) : State :=
  if !s.pd1 || s.flt.safe then s
  else if s.follows then
    if type = 0x20 || type = 0x22 || type = 0x30 || type = 0x31 then
      s.send (.event type src p0 p1 p2 flags)
    else s
  else
    let s := s.push 1 false fun seq =>
      let body := toBytes 1 type ++ toBytes 1 src ++ toBytes 2 seq ++ toBytes 4 s.scan.frame
        ++ toBytes 2 p0 ++ toBytes 2 p1 ++ toBytes 2 p2 ++ toBytes 1 flags
      body ++ toBytes 1 (crc8 body)
    if type = 0x21 || type = 0x24 || type = 0x22 then s.irq irqPower
    else if type = 0x23 then s.irq irqWake
    else s

end Sys2Proof.Machine
end

