-- ==== Sys2Proof/Machine/Aout.lean ====
section
/-!
DEFINITION. The analogue outputs: states, loads, strobes, span changes, faults (spec/15_analogue_outputs.md).
-/

namespace Sys2Proof.Machine

/-- State of output n: 0 OFF, 1 APRON, 2 LIVE, 3 HOLD, 4 CAL (15 R388). -/
def State.outState (s : State) (n : Nat) : Nat := s.get (R.AOUT_STAT_ST n)

/-- Changes what an output holds besides its registers. -/
def State.updStage (s : State) (n : Nat) (f : OutStage → OutStage) : State :=
  { s with aout := { s.aout with stages := upd s.aout.stages n f } }

/-- PD5 is powered: in RUN, and in the fault safe state (01 R32, R34). -/
def State.pd5 (s : State) : Bool := s.up && ((s.pow.state = .run && 5 ∉ s.pow.stopped) || s.flt.safe)

/-- The apron voltage as a code of an output's span, clamped to 0xFFFF (15 R384, R393). Where AVO is good before the straps
are sampled, for want of VIO, 02 R51 does not say which apron voltage the outputs take: the model drives zero scale until
the sampling (DESIGN CHOICE, log 105). -/
def State.apronCode (s : State) (n : Nat) : Nat :=
  if s.flag R.DEVICE_STRAPS_APRON then (if s.get (R.AOUT_SPAN n) = 1 then 0xFFFF else 0x8000) else 0

/-- An output goes OFF. -/
def State.outOff (s : State) (n : Nat) : State := s.set (R.AOUT_STAT_ST n) 0

/-- An output enters APRON or HOLD: it moves to the apron voltage at full speed. -/
def State.outApron (s : State) (st n : Nat) : State :=
  (s.set (R.AOUT_STAT_ST n) st).set (R.AOUT_OUT n) (s.apronCode n)

/-- An output becomes LIVE with the code of its active register, through the slew limit (15 R388, R394). -/
def State.outLive (s : State) (n : Nat) : State :=
  let s := s.set (R.AOUT_STAT_ST n) 2
  if s.get (R.AOUT_SLEW n) = 0 then s.set (R.AOUT_OUT n) (s.get (R.AOUT_ACT n)) else s

/-- A load: the input register is copied into the active register, and the output moves to it (15 R385). -/
def State.outLoad (s : State) (n : Nat) : State := (s.set (R.AOUT_ACT n) (s.get (R.AOUT_IN n))).outLive n

/-- A strobe as it reaches one output (15 R386, R389, R393). -/
def State.strobeOne (s : State) (n : Nat) : State :=
  match s.outState n with
  | 1 => s.outLoad n
  | 2 => s.outLoad n
  | 3 => s.updStage n fun o => { o with strobed := true }
  | 4 => s.updStage n fun o => { o with strobed := true }
  | _ => s

/-- A strobe of a group, 0 for A and 1 for B: without effect before DONE, in the loader state, in the fault safe state, in a
lockout shutdown, once PD5 has stopped (16 R405), and while no output of the group is in LIVE or APRON (15 R386, R389, R396, R398; log 36). -/
def State.strobe (s : State) (g : Nat) : State :=
  if s.flt.safe || s.sup.lockout || !s.pd5 || s.get R.DEVICE_BOOT_STAGE ≠ 7
      || !(List.range 4).any (fun i => s.outState (4 * g + i) = 1 || s.outState (4 * g + i) = 2) then s
  else (((s.strobeOne (4 * g)).strobeOne (4 * g + 1)).strobeOne (4 * g + 2)).strobeOne (4 * g + 3)

/-- The strobe source of a group: 0 LDAC, 1 FRAME, 2 NONE. -/
def State.strobeSource (s : State) (g : Nat) : Nat := if g = 0 then s.get R.AOUT_CTL_SRCA else s.get R.AOUT_CTL_SRCB

/-- Strobes every group whose hardware source is `src`. -/
def State.hwStrobe (s : State) (src : Nat) : State :=
  let s := if s.strobeSource 0 = src then s.strobe 0 else s
  if s.strobeSource 1 = src then s.strobe 1 else s

/-- What follows a write that changed the span of output n (15 R391, R392, R395). -/
def State.spanChanged (s : State) (n : Nat) : State :=
  match s.outState n with
  | 1 => s.outApron 1 n
  | 2 => (s.outApron 3 n).updStage n fun o => { o with strobed := false, holdTb := s.pow.tb }
  | 3 => (s.outApron 3 n).updStage n fun o => { o with holdTb := s.pow.tb }
  | 4 => s.updStage n fun o => { o with spanNew := true }
  | _ => s

/-- The end of a span hold (15 R393). -/
def State.holdEnds (s : State) (n : Nat) : State :=
  let o := s.aout.stages.getD n ⟨false, 0, 0, false⟩
  let s := s.advanceTo (o.holdTb + 10 * s.get R.AOUT_CTL_HOLD)
  let s := s.updStage n fun o => { o with strobed := false }
  if o.strobed then s.outLoad n else s.outLive n

/-- Output n enters CAL at a test code (07 R192). -/
def State.outCal (s : State) (n : Nat) : State :=
  let st := s.outState n
  ((s.updStage n fun o => { o with strobed := false, calPrev := st, spanNew := false }).set (R.AOUT_STAT_ST n) 4).set
    (R.AOUT_OUT n) 0x1000

/-- Output n returns from CAL to the state before it: to its active register, or to the apron value if no strobe has yet loaded
it; ignored strobes and a recorded span write apply now (07 R192, 15 R388, R395). One that has left CAL meanwhile, parked or
switched off, stays as it is. -/
def State.outCalEnds (s : State) (n : Nat) : State :=
  let o := s.aout.stages.getD n ⟨false, 0, 0, false⟩
  let s := s.updStage n fun o => { o with strobed := false, spanNew := false }
  if s.outState n ≠ 4 then s
  else
    let t := if o.strobed then s.outLoad n else if o.calPrev = 2 then s.outLive n else s.outApron 1 n
    if o.spanNew && t.outState n = 2 then t.spanChanged n else t

/-- Outputs 0 to 7 in turn. -/
def State.eachOut (s : State) (f : State → Nat → State) : State := (List.range 8).foldl f s

/-- Outputs in APRON take the apron voltage as the strap and their spans give it now (15 R384, R391). -/
def State.apronAgain (s : State) : State := s.eachOut fun s n => if s.outState n = 1 then s.outApron 1 n else s

/-- The reset value of the input registers: it depends on the APRON strap, and not on the span (15 R390). -/
def State.apronInputs (s : State) : State :=
  s.eachOut fun s n => s.set (R.AOUT_IN n) (if s.flag R.DEVICE_STRAPS_APRON then 0x8000 else 0)

/-- The straps are sampled, once per reset, with VIO good (02 R43, R44); outputs in APRON follow the APRON strap. -/
def State.sampleStraps (s : State) : State :=
  if s.flag R.DEVICE_STRAPS_SAMPLED then s
  else
    let p := s.sup.pins
    let amb := p.addr.isNone || p.bootsel.isNone
    let s := ((s.setFlag R.DEVICE_STRAPS_ROOT p.root).setFlag R.DEVICE_STRAPS_APRON p.apron).setFlag R.DEVICE_STRAPS_TESTEN p.testen
    let s := (s.set R.DEVICE_STRAPS_ADDR (p.addr.getD 3).val).set R.DEVICE_STRAPS_BOOTSEL (p.bootsel.getD 5).val
    let s := (s.setFlag R.DEVICE_STRAPS_AMBIG amb).set R.DEVICE_STRAPS_SAMPLED 1
    let s := if amb then s.markLive Kind.strapAmbig 0 else s
    s.apronInputs.apronAgain

/-- VREFA outside its range with PD5 on raises VREFA_RANGE, once per excursion (15 R400). -/
def State.judgeVref (s : State) : State :=
  if s.aout.vref || !s.pd5 then s
  else if s.aout.vrefTold then s.markLive Kind.vrefaRange 0
  else { s with aout := { s.aout with vrefTold := true } }.onset Kind.vrefaRange 0 0 0

/-- AVO is good with PD5 on: every output enters APRON but those that a fault holds OFF (15 R389, R399, R400). The straps
have been sampled before, if VIO is good (02 R51 steps 4 and 7). -/
def State.avoGood (s : State) : State :=
  let s := if s.sup.vioGood then s.sampleStraps else s
  let s := ((s.set R.AOUT_STAT_AVOGOOD 1).ceases Kind.avoFail 0).judgeVref
  s.eachOut fun s n => if bit (s.get R.AOUT_FLT_SHORT) n && !s.flt.safe then s else s.outApron 1 n

/-- Every output is parked at its apron value; one that is OFF waits for AVO, and one that is OFF by a short stays so until its
bit is cleared, but in the fault safe state, where every output is in APRON (15 R388, R396, R397, R399). -/
def State.parkOutputs (s : State) : State :=
  s.eachOut fun s n =>
    if s.outState n = 0 && (!s.flag R.AOUT_STAT_AVOGOOD || (bit (s.get R.AOUT_FLT_SHORT) n && !s.flt.safe)) then s
    else s.outApron 1 n

/-- Every output goes OFF (15 R397, R398, R400). -/
def State.outputsOff (s : State) : State := s.eachOut fun s n => s.outOff n

/-- An output released by a write to AOUT.FLT enters APRON (15 R399). -/
def State.outReleased (s : State) (n : Nat) : State :=
  let s := s.ceases Kind.aoutShort n
  if s.flag R.AOUT_STAT_AVOGOOD && s.pd5 then s.outApron 1 n else s

/-- VREFA within its range with PD5 on (AOUT.STAT.VREFOK). After a reset it reads 0 until the boot sequence has begun. -/
def State.vrefOk (s : State) : Bool := s.aout.vref && s.pd5 && (s.sup.portReady || s.flt.safe)

/-- AOUT.STAT.SLEWING: some LIVE output has not reached its active code. -/
def State.slewing (s : State) : Bool :=
  (List.range 8).any fun n => s.outState n = 2 && s.get (R.AOUT_OUT n) ≠ s.get (R.AOUT_ACT n)

/-- An output's code after calibration: GAIN in 1/32,768, then OFFSET, clamped to 16 bits (15 R383). -/
def correctedCode (gain : Nat) (offset : Int) (c : Nat) : Int :=
  clampInt 0 65535 (roundDiv (c * gain) 32768 + offset)

/-! ### Commands -/

/-- LDAC (15 R386): a rising edge of the ball strobes each group whose source is LDAC. -/
def execLdac (s : State) : Host.Outcome State Fault Refusal := onlyIf s.inRun s (s.hwStrobe 0)

/-- SPAN_HOLD_END (15 R393), for an output in HOLD. -/
def execSpanHoldEnd (n : Fin 8) (s : State) : Host.Outcome State Fault Refusal :=
  onlyIf (s.outState n = 3 && !s.flt.safe) s (s.holdEnds n)

/-- AOUT_SHORT (15 R399), for an output that drives. In the fault safe state no output leaves APRON (R388; log 36). -/
def execAoutShort (n : Fin 8) (s : State) : Host.Outcome State Fault Refusal :=
  onlyIf (s.outState n ≠ 0 && s.pd5 && !s.flt.safe) s
    (((s.outOff n).set R.AOUT_FLT_SHORT (s.get R.AOUT_FLT_SHORT ||| (1 <<< n.val))).onset Kind.aoutShort n 0 n)

/-- AVO_GOOD (15 R389). -/
def execAvoGood (s : State) : Host.Outcome State Fault Refusal :=
  onlyIf (s.pd5 && !s.flag R.AOUT_STAT_AVOGOOD) s s.avoGood

/-- AVO_FAIL (15 R400). -/
def execAvoFail (s : State) : Host.Outcome State Fault Refusal :=
  onlyIf (s.pd5 && s.flag R.AOUT_STAT_AVOGOOD) s
    ((s.outputsOff.set R.AOUT_STAT_AVOGOOD 0).onset Kind.avoFail 0 0 0)

/-- VREFA_RANGE (15 R400): VREFA leaves 0.9 V to 10.5 V. -/
def execVrefaRange (s : State) : Host.Outcome State Fault Refusal :=
  done s { s with aout := { s.aout with vref := false } }.judgeVref

/-- VREFA_RETURN (15 R400): VREFA is back within its range. -/
def execVrefaReturn (s : State) : Host.Outcome State Fault Refusal :=
  done s (({ s with aout := { s.aout with vref := true, vrefTold := false } }).ceases Kind.vrefaRange 0)

end Sys2Proof.Machine
end

