-- ==== Sys2Proof/Machine/SafeState.lean ====
section
/-!
DEFINITION. Entry into the fault safe state (spec/01_architecture.md R34, spec/17 R442).
-/

namespace Sys2Proof.Machine

/-- The drive stops: TX pins low, converter stopped, VTX discharging (04 R93, 17 R442); the frame in progress ends. -/
def State.stopDrive (s : State) : State :=
  let s := s.clear [R.DRIVE_STAT_VTXACT, R.DRIVE_STAT_VTXGOOD, R.DRIVE_STAT_SETTLING, R.DRIVE_STAT_BURST,
    R.SCAN_STAT_SCANNING, R.SCAN_STAT_INSCAN, R.SLICE_STAT_GENBUSY 0, R.SLICE_STAT_GENBUSY 1, R.SLICE_STAT_GENBUSY 2,
    R.SLICE_STAT_GENBUSY 3]
  { s with scan := { s.scan with started := false, phase := .idle }, gov := { s.gov with running := false } }

/-- Running engine tasks end, and none is posted or started (17 R442). -/
def State.endTasks (s : State) : State :=
  { s with
    disp := { s.disp with ready := [], cur := none, tasks := [], waiting := [], wave := 0, ended := false }
    engines := s.engines.map fun g => { g with task := false, xmode := none } }

/-- Entry into the fault safe state (01 R34, 17 R442): drive stopped, outputs at apron, no task runs and none is
posted, a vote in progress ends, and PD1 and PD5 are powered with the oscillator and the PLL. In a cascade the device
says LEAVING (14 R377). -/
def State.enterSafe (s : State) : State :=
  if s.flt.safe then s
  else
    let s := { s with flt := { s.flt with safe := true } }
    let s := s.stopDrive.endTasks
    let s := if s.pow.state = .run then s else s.set R.CLOCK_TBSTAT_SRC 0
    let s := s.clear [R.PWR_STAT_STATE, R.PWR_STAT_PHASE]
    let s := { s with pow := { s.pow with voting := none, windowOpen := false, waking := false, lfStopped := false } }
    let s := if 1 < s.panel.ndev then s.send (.leaving s.panel.pos) else s
    s.parkOutputs

end Sys2Proof.Machine
end

