-- ==== Sys2Proof/Machine/Collector.lean ====
section
/-!
DEFINITION. The fault collector: ordering, stamping, logging, status bits, first fault, and the FAULT pin
(spec/17_faults_selftest_longrun.md R434 to R443).
-/

namespace Sys2Proof.Machine

/-- Whether a message comes before another of the same cycle (17 R434). -/
def Msg.before (a b : Msg) : Bool :=
  if a.sev ≠ b.sev then b.sev < a.sev
  else if a.src ≠ b.src then a.src < b.src
  else if a.kind ≠ b.kind then a.kind < b.kind
  else if a.addr ≠ b.addr then a.addr < b.addr
  else a.detail ≤ b.detail

/-- Places a message among ordered ones. -/
def Msg.place (m : Msg) : List Msg → List Msg
  | [] => [m]
  | h :: t => if m.before h then m :: h :: t else h :: Msg.place m t

/-- The messages of one cycle in their order (17 R434). -/
def Msg.order : List Msg → List Msg
  | [] => []
  | m :: t => Msg.place m (Msg.order t)

/-- The 16 bytes of a log record (17 R434). -/
def LogRec.bytes (r : LogRec) : List Byte :=
  toBytes 1 r.msg.src ++ toBytes 1 r.msg.kind ++ toBytes 1 (r.msg.sev + 4 * b2n r.msg.inj + 8 * b2n r.same)
    ++ toBytes 1 r.order ++ toBytes 2 r.msg.addr ++ toBytes 2 r.msg.detail ++ toBytes 6 r.tb ++ toBytes 2 r.seq

/-- Removes the oldest NOTE or WARN record, if there is one. -/
def dropMinor : List LogRec → Option (List LogRec)
  | [] => none
  | r :: t => if r.msg.sev < 2 then some t else (dropMinor t).map (r :: ·)

/-- Adds a record to the log ring of 64 (17 R435). -/
def State.logRecord (s : State) (r : LogRec) : State :=
  if s.flt.log.length < 64 then { s with flt := { s.flt with log := s.flt.log ++ [r] } }
  else
    match dropMinor s.flt.log with
    | some l => { s with flt := { s.flt with log := l ++ [r] } }
    | none => s.sat R.FAULT_LOGSTAT_OVF

/-- Latched severity plus 1 of a kind's status bit; 0 while the bit is clear (17 R437). -/
def State.latched (s : State) (k : Nat) : Nat := aget 0 k s.flt.status

/-- Sets a kind's status bit with a severity; the highest one stays latched (17 R437). -/
def State.latch (s : State) (k sev : Nat) : State :=
  { s with flt := { s.flt with status := aput k (max (s.latched k) (sev + 1)) s.flt.status } }

/-- Clears a kind's status bit; it is set again at once while the kind is live (17 R437). -/
def State.clearStatus (s : State) (k : Nat) : State :=
  { s with flt := { s.flt with status := aput k (if s.isLive k then kindSev k + 1 else 0) s.flt.status } }

/-- The collector accepts one message as number `order` of its cycle (17 R434 to R440). -/
def State.acceptOne (s : State) (order : Nat) (m : Msg) : State :=
  let r : LogRec := ⟨m, order != 0, order, s.pow.tb, s.get R.FAULT_SEQ_NEXT⟩
  let s := s.wrap R.FAULT_SEQ_NEXT
  let s := s.logRecord r
  let s := s.latch m.kind m.sev
  let fills := s.flt.first.isNone && s.get R.FAULT_CTL_FFSEV ≤ m.sev
  let s := if fills then { s with flt := { s.flt with first := some r } } else s
  let s := if (2 ≤ m.sev || fills) && m.kind ≠ Kind.plogFail
    then { s with flt := { s.flt with plWait := s.flt.plWait ++ [r] } } else s
  let s := if s.pd1 then s.push 3 false fun q => toBytes 1 0xC3 ++ toBytes 1 0 ++ toBytes 2 q ++ r.bytes else s
  let s := if s.get R.IRQ_PINCFG_FSEV ≤ m.sev then s.irq irqFault else s
  let s := if s.flag (R.PIEN_MSG m.page) then s.set (R.PIRQ_MSG m.page) 1 else s
  if m.sev = 3 then s.enterSafe else s

/-- Accepts ordered messages one after the other. -/
def State.acceptAll (s : State) (order : Nat) : List Msg → State
  | [] => s
  | m :: t => (s.acceptOne order m).acceptAll (order + 1) t

/-- One cycle of the collector: up to four messages of the input queue (01 R26, 17 R434). -/
def State.collect (s : State) : State :=
  let now := s.flt.queue.take 4
  ({ s with flt := { s.flt with queue := s.flt.queue.drop 4 } }).acceptAll 0 (Msg.order now)

/-- Whether the collector runs: it is in PD0 and stands still only in OFF and while LFCLK is stopped (17 R442). -/
def State.collectorRuns (s : State) : Bool := s.sup.on && !s.pow.lfStopped

/-- FAULT is asserted (17 R438; before DONE, 03 R71; from step 4 of a lockout shutdown, 02 R53). -/
def State.faultPin (s : State) : Bool :=
  s.sup.on && s.sup.vioGood &&
    (s.flt.safe || s.get R.DEVICE_BOOT_STAGE != 7 || (s.sup.lockout && !s.sup.portReady) ||
      s.flt.status.any fun p => s.get R.FAULT_CTL_PINSEV < p.2)

/-- FAULT.SUMMARY (17). -/
def State.faultSummary (s : State) : Nat :=
  (List.range 4).foldl (fun a n => if s.flt.status.any (fun p => p.2 = n + 1) then a ||| (1 <<< n) else a) 0
    ||| (b2n s.faultPin <<< 4) ||| (b2n s.flt.safe <<< 5) ||| (b2n s.flt.first.isSome <<< 6)
    ||| (b2n (s.flag R.TEST_STAT_UNLOCKED) <<< 7)

/-- FAULT.STATUSi: bit b is the status bit of kind 32 i + b (17 R437). -/
def State.faultStatus (s : State) (i : Nat) : Nat :=
  (List.range 32).foldl (fun a b => if s.latched (32 * i + b) ≠ 0 then a ||| (1 <<< b) else a) 0

/-- FAULT.LIVEi (17 R432). -/
def State.faultLive (s : State) (i : Nat) : Nat :=
  (List.range 32).foldl (fun a b => if s.isLive (32 * i + b) then a ||| (1 <<< b) else a) 0

/-- FAULT.LOGSTAT: COUNT, HIGH and OVF (17). -/
def State.logStat (s : State) : Nat :=
  s.flt.log.length ||| ((s.flt.log.filter fun r => 2 ≤ r.msg.sev).length <<< 8) ||| (s.get R.FAULT_LOGSTAT_OVF <<< 16)

end Sys2Proof.Machine
end

