-- ==== Sys2Proof/Machine/Governor.lean ====
section
/-!
DEFINITION. The budget governor and the excitation in force (spec/16_power_states_and_governor.md R424 to R428,
spec/01 R30, spec/06 R161).
-/

namespace Sys2Proof.Machine

/-- The governor is enabled in the frame in force. -/
def State.govEn (s : State) : Bool := s.inForce R.GOV_CTL_EN ≠ 0

/-- The point in force. -/
def State.point (s : State) : Nat := s.get R.GOV_STAT_PTACT

/-- The scan mode in force: 0 NORMAL, 1 GLOVE, 2 HOVER, 3 TEST (06 R144). -/
def State.mode (s : State) : Nat := s.inForce R.SCAN_CTL_MODE

/-- The VTX code that the operating point or DRIVE.VTXCTL asks for, raised in GLOVE mode (01 R30, 06 R161). -/
def State.askVtx (s : State) : Nat :=
  let v := if s.govEn then s.get (R.GOV_PT_VTX s.point) else s.inForce R.DRIVE_VTXCTL_CODE
  if s.mode = 1 then max v (s.inForce R.SCAN_GLOVE_VTXMIN) else v

/-- K, from 1 to 8. -/
def State.askK (s : State) : Nat :=
  (if s.govEn then s.get (R.GOV_PT_K s.point) else s.inForce R.DRIVE_EXC_K) + 1

/-- Nrep, from 1 to 4. -/
def State.askReps (s : State) : Nat :=
  (if s.govEn then s.get (R.GOV_PT_REPS s.point) else s.inForce R.DRIVE_EXC_REPS) + 1

/-- Ndiv, from 1 to 16 (06 R142). -/
def State.ndiv (s : State) : Nat :=
  (if s.govEn then s.get (R.GOV_PT_FDIV s.point) else s.inForce R.SCAN_FDIV_DIV) + 1

/-- The active-engine count Nact (16 R425, 09 R234). -/
def State.nact (s : State) : Nat := if s.govEn then s.get (R.GOV_PT_NACT s.point) else s.inForce R.WORKRING_CTL_NACT

/-- KPT of the threshold factor kpt = KPT / 32; 32 while the governor is disabled (16 R425, 08 R200). -/
def State.kpt (s : State) : Nat := if s.govEn then s.get (R.GOV_PT_KPT s.point) else 32

/-- The gain code of a channel in force: CHk.GAIN, raised in GLOVE mode (06 R161). -/
def State.gainCode (s : State) (c : Nat) : Nat :=
  let g := s.inForce (R.SLICE_CH_GAIN (c / 24) (c % 24))
  if s.mode = 1 then min 7 (g + s.inForce R.SCAN_GLOVE_GAINADD) else g

/-- Index of the largest number of a list, the lowest index on a tie, and that number. -/
def maxIdx (l : List Int) : Nat × Int :=
  (l.zip (List.range l.length)).foldl (fun a p => if a.2 < p.1 then (p.2, p.1) else a) (0, l.headD 0)

/-- Publishes the measurements of the frame that has ended (16 R424). -/
def State.publish (s : State) (m : GovMeas) : State :=
  let hot := maxIdx (m.temps.take 4)
  let s := ((s.set R.GOV_MEAS_PMW m.pmw).set R.GOV_MEAS_TMAX (unsigned16 hot.2)).set R.GOV_STAT_HOTSENS hot.1
  let s := (s.set R.GOV_VI_VIN m.vin).set R.GOV_VI_IIN m.iin
  (List.range 4).foldl (fun s i => s.set (R.GOV_TS i) (unsigned16 (m.temps.getD i 0))) s

/-- The decision for the next frame: the next point and its reason code (16 R426). `p` is the point in force, `prev`
that of the frame measured. -/
def State.govNext (s : State) (p prev : Nat) : Nat × Nat :=
  let m := s.get R.GOV_MEAS_PMW
  let t := signed16 (s.get R.GOV_MEAS_TMAX)
  let budget := s.inForce R.GOV_BUDGET_MW
  let ceil : Int := 16 * s.inForce R.GOV_TEMP_TCEIL
  let top := s.inForce R.GOV_CTL_TOPPT
  let marg := s.inForce R.GOV_CTL_UPMARG
  if prev ≠ p then (p, 4)
  else if p < top then (p + 1, 5)
  else if budget < m && p < s.get R.GOV_CTL_NPTS then (p + 1, 1)
  else if ceil < t && p < s.get R.GOV_CTL_NPTS then (p + 1, 2)
  else if top < p && m ≤ budget * (100 - 2 * marg) / 100 && t ≤ ceil - 16 * s.inForce R.GOV_TEMP_THYST
      && s.inForce R.GOV_CTL_UPDWELL ≤ s.gov.dwell
      && (s.get (R.GOV_EST (p - 1)) = 0 || s.get (R.GOV_EST (p - 1)) ≤ budget) then (p - 1, 3)
  else (p, 0)

/-- The estimate of the point in force takes in the measurement (16 R426). -/
def State.govEstimate (s : State) (p : Nat) : State :=
  let m := s.get R.GOV_MEAS_PMW
  let e := s.get (R.GOV_EST p)
  s.set (R.GOV_EST p) (if e = 0 then m else (e + Int.tdiv ((m : Int) - e) 4).toNat)

/-- BELOW and EXHAUST with their faults (16 R427). `used`: the measurement was taken at the point in force. -/
def State.govFlags (s : State) (p : Nat) (used : Bool) : State :=
  let below := s.inForce R.GOV_CTL_MINPT < p
  let s := s.setFlag R.GOV_STAT_BELOW below
  let s := if below then s.onset Kind.govBelow 0 0 p else s.ceases Kind.govBelow 0
  if !used then s
  else
    let above := s.inForce R.GOV_BUDGET_MW < s.get R.GOV_MEAS_PMW
      || (16 * s.inForce R.GOV_TEMP_TCEIL : Int) < signed16 (s.get R.GOV_MEAS_TMAX)
    let ex := above && p = s.get R.GOV_CTL_NPTS
    let s := s.setFlag R.GOV_STAT_EXHAUST ex
    if ex then s.onset Kind.govExhausted 0 0 0 else s.ceases Kind.govExhausted 0

/-- The governor stops having a say: it is disabled or scanning has stopped. -/
def State.govIdle (s : State) : State :=
  let s := (s.set R.GOV_STAT_BELOW 0).set R.GOV_STAT_EXHAUST 0
  (({ s with gov := { s.gov with running := false } }).ceases Kind.govBelow 0).ceases Kind.govExhausted 0

/-- The point that comes into force: the decided one, or in a member the one that FPARAM names (16 R428). -/
def State.nextPoint (s : State) (own : Nat) : Nat :=
  match s.follows, s.lf.fp with
  | true, some f => f.point
  | true, none => s.point
  | false, _ => own

/-- ROOT's decision beside those of its members: it steps down where one of them would, and up only where all would. A step
that a member alone asks for has reason 1, the step that one holds back reason 0 (16 R428; log 114). -/
def State.govJoin (s : State) (p : Nat) (d : Nat × Nat) : Nat × Nat :=
  if !s.inCascade || s.panel.pos ≠ 0 then d
  else
    let members := (List.range s.panel.ndev).filter fun k => k ≠ 0 && decide (k ∉ s.link.lost)
    let wish (k : Nat) : Nat := aget 0 k s.lf.wishes
    if d.1 ≤ p && members.any (fun k => bit (wish k) 0) && p < s.get R.GOV_CTL_NPTS && s.gov.prevPoint = p then (p + 1, 1)
    else if d.1 < p && members.any (fun k => !bit (wish k) 1) then (p, 0)
    else d

/-- DOWN and UPOK of a member's acknowledgement: what its own governor has decided (16 R428). -/
def State.govWish (s : State) : Bool × Bool :=
  (s.govEn && s.point < s.get R.GOV_STAT_PTNEXT, s.govEn && s.get R.GOV_STAT_PTNEXT < s.point)

/-- The governor at FRAME_START: the decided point takes effect (01 R29 step 3), and the next one is decided. -/
def State.govFrame (s : State) : State :=
  if !s.govEn then (s.govIdle).set R.GOV_STAT_REASON 6
  else if !s.gov.running then
    let p := s.nextPoint (s.inForce R.GOV_CTL_TOPPT)
    let s := ((s.set R.GOV_STAT_PTACT p).set R.GOV_STAT_PTNEXT p).set R.GOV_STAT_REASON 4
    ({ s with gov := ⟨true, p, 0⟩ }).govFlags p false
  else
    let old := s.point
    let p := s.nextPoint (s.get R.GOV_STAT_PTNEXT)
    let s := s.set R.GOV_STAT_PTACT p
    let s := if old < p then s.wrap R.GOV_CNT_DOWNS else if p < old then s.wrap R.GOV_CNT_UPS else s
    let s := { s with gov := { s.gov with prevPoint := old, dwell := if p = old then s.gov.dwell + 1 else 0 } }
    let s := if p = old then s.govEstimate p else s
    let (next, why) := s.govJoin p (s.govNext p old)
    ((s.set R.GOV_STAT_PTNEXT next).set R.GOV_STAT_REASON why).govFlags p (p = old)

end Sys2Proof.Machine
end

