-- ==== Sys2Proof/Machine/Tables.lean ====
section
/-!
DEFINITION. The panel, scan words and scan tables: decoding, durations, the table check and the built-in table
(spec/06_scan_sequencer_and_noise.md R142 to R153, spec/04 R101, spec/14 R358).
-/

namespace Sys2Proof.Machine

/-! ### The panel (14 R358) -/

/-- Drive lines of the panel in force. -/
def State.ntx (s : State) : Nat := sumNat (s.panel.map.map Prod.fst)

/-- Receive lines of the panel in force. -/
def State.nrx (s : State) : Nat := sumNat (s.panel.map.map Prod.snd)

/-- First global drive index of a position. -/
def State.txBase (s : State) (k : Nat) : Nat := sumNat ((s.panel.map.take k).map Prod.fst)

/-- First global receive index of a position. -/
def State.rxBase (s : State) (k : Nat) : Nat := sumNat ((s.panel.map.take k).map Prod.snd)

/-- Drive and receive lines of this device. -/
def State.ownTx (s : State) : Nat := (s.panel.map.getD s.panel.pos (0, 0)).1
def State.ownRx (s : State) : Nat := (s.panel.map.getD s.panel.pos (0, 0)).2

/-- This device's pin of a global drive index. -/
def State.pinOf (s : State) (d : Nat) : Option Nat :=
  let b := s.txBase s.panel.pos
  if b ≤ d && d < b + s.ownTx then some (d - b) else none

/-- The position that owns a global drive index. -/
def State.ownerOf (s : State) (d : Nat) : Nat :=
  ((List.range s.panel.map.length).filter fun k => s.txBase k ≤ d).foldl max 0

/-- DRIVE.TXEN of a pin. -/
def State.txEn (s : State) (p : Nat) : Bool := bit (s.get (R.DRIVE_TXEN (p / 32))) (p % 32)

/-- A drive line is enabled (04 R101). -/
def State.lineOn (s : State) (d : Nat) : Bool :=
  match s.pinOf d with
  | some p => s.txEn p
  | none => decide (d ∉ s.panel.off)

/-- A drive line is masked: by this device, or with its position's area (04 R94, 14 R378). -/
def State.lineMasked (s : State) (d : Nat) : Bool :=
  match s.pinOf d with
  | some p => decide (p ∈ s.scan.txOff)
  | none => decide (s.ownerOf d ∈ s.panel.lost) || decide (d ∈ s.panel.flt)

/-- A receive channel of this device is enabled: CHk.EN, within the map, not masked (05 R124, 14 R358, 17 R449). -/
def State.chanOn (s : State) (c : Nat) : Bool :=
  s.flag (R.SLICE_CH_EN (c / 24) (c % 24)) && c < s.ownRx && decide (c ∉ s.scan.rxOff)

/-! ### Scan words (06 R150) -/

/-- A decoded scan word. -/
inductive ScanWord where
  | burst (first last lc base : Nat)
  | finish
  | listen (tcand ncand : Nat)
  | self (axis guard slices time : Nat)
  | test (type slices stim time : Nat)
  | wait (us : Nat)
  | reserved
  deriving DecidableEq, Repr

/-- Bits `hi` to `lo` of a number. -/
def bits (w hi lo : Nat) : Nat := (w >>> lo) % 2 ^ (hi + 1 - lo)

/-- Decodes a scan word; a reserved opcode, a reserved code or a non-zero reserved field gives `reserved` (06 R150). -/
def decodeWord (w : Nat) : ScanWord :=
  if bit w 31 then
    if bits w 1 0 ≠ 0 || bits w 10 2 = 0 then .reserved
    else .burst (bits w 30 22) (bits w 21 13) (bits w 12 11) (bits w 10 2)
  else
    match bits w 30 28 with
    | 0 => if bits w 27 0 = 0 then .finish else .reserved
    | 1 =>
      if bits w 27 16 ≠ 0 || bits w 7 3 ≠ 0 || bits w 15 8 < 8 then .reserved
      else .listen (bits w 15 8) (bits w 2 0)
    | 2 =>
      if bits w 27 26 = 3 || bit w 24 || bits w 23 20 = 0 || bits w 19 8 ≠ 0 || bits w 7 0 = 0 then .reserved
      else .self (bits w 27 26) (bits w 25 25) (bits w 23 20) (bits w 7 0)
    | 3 =>
      if 2 < bits w 27 24 || bits w 23 20 = 0 || bits w 19 17 ≠ 0 || bits w 7 0 = 0
          || (bits w 27 24 ≠ 2 && bits w 16 8 ≠ 0) then .reserved
      else .test (bits w 27 24) (bits w 23 20) (bits w 16 8) (bits w 7 0)
    | 4 => if bits w 27 16 ≠ 0 || bits w 15 0 = 0 then .reserved else .wait (bits w 15 0)
    | _ => .reserved

/-- Code length of a burst's LC (06 R150). -/
def codeLen (lc : Nat) : Nat := 64 * 2 ^ lc

/-- The lines a burst covers, in rank order (04 R101). -/
def State.covered (s : State) (first last : Nat) : List Nat :=
  ((List.range (last + 1)).drop first).filter s.lineOn

/-- Passes of a SELF word by AXIS, and of a TEST word by TYPE: 0 RX, 1 TX-A, 2 TX-B (06 R152, R153). -/
def passes (axis : Nat) : List Nat :=
  match axis with
  | 0 => [0]
  | 1 => [1, 2]
  | _ => [0, 1, 2]

/-! ### Durations in AFECLK cycles, 96 to the microsecond (06 R151) -/

/-- Divider Di of a frequency index (04 R105). -/
def State.divider (s : State) (i : Nat) : Nat :=
  if i % 2 = 0 then s.inForce (R.DRIVE_FTAB_DLO (i / 2)) else s.inForce (R.DRIVE_FTAB_DHI (i / 2))

/-- Settling chips of a settling interval (04 R111). -/
def State.settleChips (s : State) : Nat := s.inForce R.DRIVE_EXC_SETTLE + 1

/-- K and Nrep in force. -/
def State.kAct (s : State) : Nat := s.get R.DRIVE_STAT_KACT + 1
def State.repsAct (s : State) : Nat := s.get R.DRIVE_STAT_REPSACT + 1

/-- Duration of a word at frequency index `f`, without settling, waits and blanking. -/
def State.wordCycles (s : State) (f : Nat) : ScanWord → Nat
  | .burst _ _ lc _ =>
    if s.get R.DRIVE_STAT_VTXACT = 0 then 0 else s.repsAct * codeLen lc * s.kAct * s.divider f
  | .listen t n => (n + 1) * t * 96
  | .self a _ _ t => (passes a).length * t * 8 * 96
  | .test k _ _ t =>
    (passes k).length * (if s.scan.test then s.get R.FAULT_STCFG_TIME else t) * 8 * 96
  | .wait us => us * 96
  | _ => 0

/-! ### The table check (06 R146) -/

/-- The table that each scan mode selects, from a value of SCAN.TMAP. -/
def tmapTable (tmap mode : Nat) : Nat := bits tmap (2 * mode + 1) (2 * mode)

/-- SCAN.TMAP as written last, and as sampled. -/
def State.tmap (s : State) : Nat :=
  s.get R.SCAN_TMAP_TNORM + 4 * s.get R.SCAN_TMAP_TGLOVE + 16 * s.get R.SCAN_TMAP_THOVER + 64 * s.get R.SCAN_TMAP_TTEST
def State.tmapForce (s : State) : Nat :=
  s.inForce R.SCAN_TMAP_TNORM + 4 * s.inForce R.SCAN_TMAP_TGLOVE + 16 * s.inForce R.SCAN_TMAP_THOVER
    + 64 * s.inForce R.SCAN_TMAP_TTEST

/-- Word k of scan table t. -/
def State.tableWord (s : State) (t k : Nat) : Nat := s.get (R.SCANTABLE_WORD t k)

/-- A word's own rules in the order RESERVED, RANGE, CODE_ASSIGN: 0 passes, else the reason code. -/
def State.wordReason (s : State) (w : ScanWord) : Nat :=
  match w with
  | .reserved => 1
  | .burst first last lc base =>
    if last < first || s.ntx ≤ last then 5
    else if codeLen lc - 1 < base + (s.covered first last).length - 1 then 4 else 0
  | .test _ _ stim _ => if s.ntx ≤ stim then 5 else 0
  | _ => 0

/-- What the check has met so far. -/
structure TableSeen where
  listens : Nat
  hoverSelf : Bool
  hasBurst : Bool

/-- Checks words from index k on; reason code and word index. `hover`, `needBurst`: the rules of the modes that map to the table. -/
def State.checkWords (s : State) (hover needBurst : Bool) : List Nat → Nat → TableSeen → Nat × Nat
  | [], _, _ => (2, 255)
  | w :: t, k, seen =>
    let d := decodeWord w
    match s.wordReason d with
    | 0 =>
      match d with
      | .finish =>
        if seen.listens = 0 then (3, k)
        else if hover && (!seen.hoverSelf || s.inCascade) then (6, k)
        else if needBurst && !seen.hasBurst then (7, k)
        else (0, 0)
      | .listen _ _ =>
        if seen.listens = 4 then (3, k)
        else s.checkWords hover needBurst t (k + 1) { seen with listens := seen.listens + 1 }
      | .self a g _ _ =>
        s.checkWords hover needBurst t (k + 1) { seen with hoverSelf := seen.hoverSelf || (a = 2 && g = 1) }
      | .burst _ _ _ _ => s.checkWords hover needBurst t (k + 1) { seen with hasBurst := true }
      | _ => s.checkWords hover needBurst t (k + 1) seen
    | r => (r, k)

/-- The words of scan table t. -/
def State.tableWords (s : State) (t : Nat) : List Nat := (List.range 256).map (s.tableWord t)

/-- The check of a table under a mapping: reason code and word index (06 R146). -/
def State.checkTable (s : State) (t tmap : Nat) : Nat × Nat :=
  s.checkWords (tmapTable tmap 2 = t) ((List.range 3).any fun m => tmapTable tmap m = t) (s.tableWords t) 0 ⟨0, false, false⟩

/-- SCAN.TSTAT of a check. -/
def State.recordCheck (s : State) (t : Nat) (r : Nat × Nat) : State :=
  ((s.set R.SCAN_TSTAT_REASON r.1).set R.SCAN_TSTAT_WORD r.2).set R.SCAN_TSTAT_TABLE t

/-- The built-in table of R147. -/
def builtinTable (ntx : Nat) : List Nat :=
  let burst first last lc := 0x80000000 + first * 2 ^ 22 + last * 2 ^ 13 + lc * 2 ^ 11 + 4
  let bursts :=
    if ntx = 0 then []
    else if ntx ≤ 511 then
      [burst 0 (ntx - 1) (if ntx + 1 ≤ 64 then 0 else if ntx + 1 ≤ 128 then 1 else if ntx + 1 ≤ 256 then 2 else 3)]
    else [burst 0 ((ntx + 1) / 2 - 1) 3, burst ((ntx + 1) / 2) (ntx - 1) 3]
  0x10001400 :: bursts ++ [0]

/-- The words of a table up to and including its first END. -/
def untilEnd : List Nat → List Nat
  | [] => []
  | w :: t => if decodeWord w = .finish then [w] else w :: untilEnd t

end Sys2Proof.Machine
end

