-- ==== Sys2Proof/Machine/Scan.lean ====
section
/-!
DEFINITION. The running frame: words, bursts, settling, compensation, decoding, listen windows, noise figures, the
hop policy, counting passes and blanking (spec/04, spec/05, spec/06).
-/

namespace Sys2Proof.Machine

/-! ### Scale (05 R123, R138) -/

/-- The scale factor of a channel in a tag, as numerator over 768: 2^g (code + 1) (05 R123). -/
def Tag.sigma (t : Tag) (c : Nat) : Nat := 2 ^ t.gains.getD c 0 * (t.vtx + 1)

/-- The scale factor with the gain correction, which enters ratios only (05 R138, 07 R186). -/
def Tag.scale (t : Tag) (c : Nat) : Nat := t.sigma c * t.corr.getD c 0x8000

/-! ### Noise measures (06 R155) -/

/-- round(40 log10 (n / d)), clamped to 0 to 255: the largest m with (n / d)^80 at least 10^(2 m - 1). -/
def decibels (n d : Nat) : Nat :=
  ((List.range 255).filter fun m => 10 ^ (2 * m + 1) * d ^ 80 ≤ n ^ 80).length

/-- Index of the first LISTEN word of the frame. -/
def State.firstListen (s : State) : Option Nat :=
  s.scan.words.findIdx? fun w => match decodeWord w with
    | .listen _ _ => true
    | _ => false

/-- The first LISTEN word of the frame lasts 80 µs or more (07 R188, R190). -/
def State.listenLong (s : State) : Bool :=
  match s.firstListen with
  | some i => 80 * 96 ≤ s.wordCycles (s.get R.DRIVE_STAT_FIDXACT) (decodeWord (s.scan.words.getD i 0))
  | none => false

/-- The slices that calibrate in the listen slot that runs, the frame's first one (07 R189, R190). -/
def State.calSlices (s : State) : List Nat :=
  if s.firstListen = some (s.get R.SCAN_STAT_WIDX) && s.scan.phase = .word then s.cal.slot else []

/-- The first listen slot of a frame begins: what calibrates in it is settled here, the slices of FE_CAL or the one of a
background pass (07 R189, R190). A pass that has paused, or has missed a frame, begins its slice again. -/
def State.latchCal (s : State) : State :=
  let fe := s.flag R.CAL_STAT_BUSY && s.get R.CAL_STAT_OP = 1
  let bg := s.cal.bg && !s.flag R.CAL_STAT_BUSY && s.base.acq.isNone && s.mode ≠ 3 && !s.scan.test && s.listenLong
  let goes := !s.cal.bgPaused && s.cal.stepFrame + 1 = s.scan.frame
  let c := { s.cal with slotFrame := s.scan.frame, slotBg := !fe && bg }
  { s with cal :=
      if fe then { c with slot := (List.range 4).filter (bit s.cal.arg) }
      else if bg then { c with
        slot := [s.cal.bgSlice], slotStep := if goes then s.cal.bgStep else 0, bgAgain := s.cal.bgAgain && goes
        bgPaused := false }
      else { c with slot := [] } }

/-- The channels whose noise a listen window measures (06 R155, 07 R189). -/
def State.listening (s : State) : List Nat :=
  (List.range 96).filter fun c => s.chanOn c && decide (c / 24 ∉ s.calSlices)

/-- Mean of per-channel powers over the enabled channels of the slices not calibrating, as a measurement in 0.25 dB. -/
def State.measure (s : State) (powers : List Nat) : Nat :=
  let on := s.listening
  decibels (sumNat (on.map fun c => powers.getD c 0)) (max 1 on.length)

/-! ### Walsh codes and decoding (04 R98, 05 R126, R136) -/

/-- Whether a number has an odd count of one bits, looking at `k` bits. -/
def oddBits : Nat → Nat → Bool
  | 0, _ => false
  | k + 1, n => (n % 2 == 1) != oddBits k (n / 2)

/-- Chip j of code w (04 R98). -/
def walsh (w j : Nat) : Int := if oddBits 9 (w &&& j) then -1 else 1

/-- The Walsh-Hadamard transform of a list of length 2^k. -/
def fwht : Nat → List Int → List Int
  | 0, l => l
  | k + 1, l =>
    let a := l.take (2 ^ k)
    let b := l.drop (2 ^ k)
    fwht k (List.zipWith (· + ·) a b) ++ fwht k (List.zipWith (· - ·) a b)

/-- Sum of a list against a code, the code starting again after every L values. -/
def correlate (w len : Nat) (l : List Int) : Int :=
  ((l.zip (List.range l.length)).foldl (fun a p => a + walsh w (p.2 % len) * p.1) 0)

/-- The modulator's span in raw units: Cfs at every gain and drive amplitude (05 R131). -/
def modulatorSpan : Int := 2000

/-- One node value: chip results y of all repetitions and the injected codes q of range cr (05 R136, R124). -/
def decodeNode (w len reps cr sigma : Nat) (y q : List Int) : Int :=
  let acc := correlate w len y
  let p := correlate w len q
  clampInt (-32767) 32767 (roundDiv (acc * 768 + p * (1000 * 2 ^ cr * sigma * reps)) (reps * len * 768))

/-- The codes of one channel at range cr from the transform of its baseline row; `v` is scaled by `scale` (05 R126). -/
def dacCodes (scale cr : Nat) (v : List Int) : List Int × Bool :=
  let q := v.map fun x => roundDiv x (1000 * 2 ^ cr * scale)
  (q.map (clampInt (-512) 511), q.any fun x => x < -512 || 511 < x)

/-- The codes of one channel by CRANGE: the range used, the codes, and whether one of them was clamped (05 R126, R128). -/
def channelCodes (crange scale : Nat) (v : List Int) : Nat × List Int × Bool :=
  let tryAt cr := let r := dacCodes scale cr v; (cr, r.1, r.2)
  if crange = 3 then
    if !(tryAt 0).2.2 then tryAt 0 else if !(tryAt 1).2.2 then tryAt 1 else tryAt 2
  else tryAt crange

/-! ### Frame memory of the images (09 R229) -/

/-- Address of a 16-bit plane's node in the bank of channel c. -/
def node16 (plane d c : Nat) : Nat := (c / 24) * 0x40000 + plane + 48 * d + 2 * (c % 24)

/-- Address of an 8-bit plane's node in the bank of channel c. -/
def node8 (plane d c : Nat) : Nat := (c / 24) * 0x40000 + plane + 24 * d + c % 24

/-- Offset of the raw buffer that a frame counter's decoder fills (01 R20). -/
def rawPlane (frame : Nat) : Nat := if frame % 2 = 0 then 0 else 0x6000

/-- A write of frame bytes `lo` to `hi` by requester `by_` (an engine, or 32 for any other one) ends the reservations
of all other engines on the lines it touches (10 R278). -/
def State.breakLines (s : State) (by_ lo hi : Nat) : State :=
  { s with engines := s.engines.zipIdx.map fun p =>
      match p.1.core.rsv with
      | some r => if p.2 ≠ by_ && lo / 8 ≤ r.1 && r.1 ≤ hi / 8 then
          { p.1 with core := { p.1.core with rsv := none } } else p.1
      | none => p.1 }

/-- Requester `by_` writes bytes to frame memory from address `a` upward. -/
def State.frameWrite (s : State) (by_ a : Nat) (l : List Byte) : State :=
  ({ s with fmem := Memory.writeList s.fmem a l }).breakLines by_ a (a + l.length - 1)

/-- The requester that is no engine. -/
def byDevice : Nat := 32

/-- Reservations end on the lines whose bytes changed by another requester's work, and on those that it wrote with the value
that was there: which ones these are is open (10 R278; log 47). -/
def State.breakChanged (s old : State) (by_ : Nat) : State :=
  { s with
    free := s.free + 1
    engines := s.engines.zipIdx.map fun p =>
      match p.1.core.rsv with
      | some r =>
        if p.2 ≠ by_ && (Memory.readList s.fmem (8 * r.1) 8 ≠ Memory.readList old.fmem (8 * r.1) 8
            || Config.vendorWrites s.free r.1) then
          { p.1 with core := { p.1.core with rsv := none } }
        else p.1
      | none => p.1 }

/-- Work of the device itself, no engine's, writes frame memory: reservations on the lines that it writes end (10 R278). -/
def State.deviceWrites (s : State) (work : State → State) : State :=
  if s.engines.all fun g => g.core.rsv.isNone then work s else (work s).breakChanged s byDevice

/-- Reads and writes 16 bits of frame memory. -/
def State.fm16 (s : State) (a : Nat) : Nat := ofBytes (Memory.readList s.fmem a 2)
def State.setFm16 (s : State) (a v : Nat) : State := { s with fmem := Memory.writeList s.fmem a (toBytes 2 v) }

/-- Reads and writes a byte of frame memory. -/
def State.fm8 (s : State) (a : Nat) : Nat := (Memory.read s.fmem a).toNat
def State.setFm8 (s : State) (a v : Nat) : State := { s with fmem := Memory.write s.fmem a (byteOf v) }

/-- The stored baseline of a node, as a signed number (07 R166). -/
def State.baseAt (s : State) (d c : Nat) : Int := signed16 (s.fm16 (node16 0xC000 d c))

/-! ### Time within the frame -/

/-- Lets the sequencers' time go on by AFECLK cycles, and TB with it. -/
def State.elapse (s : State) (n : Nat) : State :=
  let s := { s with scan := { s.scan with clk := s.scan.clk + n } }
  s.advanceTo (s.scan.startTb + (s.scan.startFrac + s.scan.clk) / 96)

/-- Brings the sequencers' time forward to `at_` cycles after FRAME_START, unless it is there already. -/
def State.elapseTo (s : State) (at_ : Nat) : State := s.elapse (at_ - s.scan.clk)

/-! ### Words -/

/-- Word i of the frame. -/
def State.wordAt (s : State) (i : Nat) : ScanWord := decodeWord (s.scan.words.getD i 0)

/-- The word that runs. -/
def State.curWord (s : State) : ScanWord := s.wordAt (s.get R.SCAN_STAT_WIDX)

/-- Global drive index that a TXSTIM word of the frame stimulates: the next in turn in a test frame that the self-test
assigns, else the word's own STIM (06 R153, 17 R447). -/
def State.stimOf (s : State) (stim : Nat) : Nat := if s.scan.test then s.scan.stim else stim

/-- A TEST word that runs no pass in this frame: a TXSTIM word of a quick test, or one beyond the last line (17 R447). -/
def State.testSkipped (s : State) (type stim : Nat) : Bool :=
  type = 2 && (s.ntx ≤ s.stimOf stim || (s.scan.test && s.st.kind = 2))

/-- The burst at WIDX begins its first chip: with a settling interval where one is due (04 R111). -/
def State.startBurst (s : State) : State :=
  let due := s.scan.settleDue
  let s := (s.set R.DRIVE_STAT_BURST 1).setFlag R.DRIVE_STAT_SETTLING due
  { s with scan := { s.scan with
      lastVtx := s.get R.DRIVE_STAT_VTXACT
      phase := .word, sub := 0, settle := if due then s.settleChips else 0, settleDue := false
      settled := s.scan.settled || due } }

/-- The burst at WIDX begins, or waits for VTX or for its compensation sequence (04 R91, 05 R130). -/
def State.tryBurst (s : State) : State :=
  if !s.flag R.DRIVE_STAT_VTXGOOD then { s with scan := { s.scan with phase := .waitVtx } }
  else if s.scan.seqs.any fun q => q.burst = s.scan.burst then s.startBurst
  else { s with scan := { s.scan with phase := .waitComp } }

/-- Begins the first word from index i on that runs at all; looks at most at `fuel` words. -/
def State.enterWord (s : State) : Nat → Nat → State
  | 0, _ => { s with scan := { s.scan with phase := .done } }
  | fuel + 1, i =>
    match s.wordAt i with
    | .burst _ _ _ _ =>
      if s.get R.DRIVE_STAT_VTXACT = 0 then s.enterWord fuel (i + 1)
      else (s.set R.SCAN_STAT_WIDX i).tryBurst
    | .test type _ stim _ =>
      if s.testSkipped type stim then
        ({ s with scan := { s.scan with stim := s.scan.stim + 1 } }).enterWord fuel (i + 1)
      else
        let s := s.set R.SCAN_STAT_WIDX i
        { s with scan := { s.scan with phase := .word, sub := 0 } }
    | .finish => let s := s.set R.SCAN_STAT_WIDX i; { s with scan := { s.scan with phase := .done } }
    | .reserved => { s with scan := { s.scan with phase := .done } }
    | _ =>
      let s := s.set R.SCAN_STAT_WIDX i
      let s := if s.firstListen = some i then s.latchCal else s
      { s with scan := { s.scan with phase := .word, sub := 0, slot := [] } }

/-- The next word begins. -/
def State.nextWord (s : State) : State := s.enterWord 256 (s.get R.SCAN_STAT_WIDX + 1)

/-- The sequencers run: a word runs, blanking does not hold them, and drive has not stopped. -/
def State.scanRuns (s : State) : Bool := s.inRun && !s.flt.safe && s.scan.phase = .word && !s.scan.blank.frozen

/-! ### Compensation sequences (05 R126 to R130) -/

/-- The bursts of the frame: first, last, LC and base of each, in order. -/
def State.bursts (s : State) : List (Nat × Nat × Nat × Nat) :=
  s.scan.words.filterMap fun w => match decodeWord w with
    | .burst a b l c => some (a, b, l, c)
    | _ => none

/-- The tag under which a node's baseline is stored. -/
def State.baseTagAt (s : State) (d c : Nat) : Tag := aget Tag.reset (6 * (d / 16) + c / 16) s.base.tags

/-- A denominator common to all scale factors: every 2^g (code + 1) divides it (05 R123). -/
def sigmaUnit : Nat := 128 * 720720

/-- The baseline row of a channel as code inputs, in units of 1 / (768 sigmaUnit) of capacitance (05 R126). -/
def State.codeRow (s : State) (c len base : Nat) (lines : List Nat) : List Int :=
  let cells := (lines.zip (List.range lines.length)).filterMap fun p =>
    if s.lineMasked p.1 then none
    else
      let b := s.baseAt p.1 c
      let t := s.baseTagAt p.1 c
      let b := if b = -32768 then 0 else b
      some (base + p.2, roundDiv (b * ((sigmaUnit * s.scan.tag.corr.getD c 0x8000 : Nat) : Int))
        (t.sigma c * t.corr.getD c 0x8000))
  (List.range len).map fun w => aget 0 w cells

/-- The sequence of one channel for one burst: range, codes, and whether one was clamped. A disabled channel or one with
COMPEN = 0 uses no range, and CR and CRACT show 0 (05 R137; DESIGN CHOICE, log 110). -/
def State.buildChannel (s : State) (burst : Nat × Nat × Nat × Nat) (c : Nat) : Nat × List Int × Bool :=
  let len := codeLen burst.2.2.1
  if !s.chanOn c || s.inForce (R.SLICE_CH_COMPEN (c / 24) (c % 24)) = 0 then (0, List.replicate len 0, false)
  else
    let v := fwht (6 + burst.2.2.1) (s.codeRow c len burst.2.2.2 (s.covered burst.1 burst.2.1))
    -- v times 768 over sigmaUnit is the charge in raw units at the scale factor 1; a code is 1000 2^cr of them
    channelCodes (s.inForce (R.SLICE_CH_CRANGE (c / 24) (c % 24))) sigmaUnit (v.map (768 * ·))

/-- Entries of sequence memory that the sequences held take up. -/
def State.seqEntries (s : State) : Nat := sumNat (s.scan.seqs.map fun q => (q.codes.headD []).length)

/-- The generator builds a sequence: the frame's words run, a burst is left, and enough entries are free (05 R130, R141). -/
def State.generates (s : State) : Bool :=
  (s.scan.phase = .word || s.scan.phase = .waitVtx || s.scan.phase = .waitComp) && s.get R.DRIVE_STAT_VTXACT ≠ 0
    && match s.bursts[s.scan.built]? with
      | some b => s.seqEntries + codeLen b.2.2.1 ≤ 512
      | none => false

/-- The generator finishes the next sequence, if a burst is left and enough entries are free (05 R130). -/
def State.buildNext (s : State) : State :=
  match s.bursts[s.scan.built]? with
  | none => s
  | some b =>
    if !s.generates then s
    else
      let chans := (List.range 96).map (s.buildChannel b)
      let q : BurstSeq := ⟨s.scan.built, chans.map (·.1), chans.map (·.2.1)⟩
      let clamped := (List.range 96).filter fun c => (chans.getD c (0, [], false)).2.2
      { s with scan := { s.scan with
          seqs := s.scan.seqs ++ [q], built := s.scan.built + 1
          clamped := clamped.foldl (fun l c => addOnce c l) s.scan.clamped } }

/-- GENBUSY of every slice. -/
def State.setGenBusy (s : State) : State :=
  let busy := s.generates
  (List.range 4).foldl (fun s k => s.setFlag (R.SLICE_STAT_GENBUSY k) busy) s

/-! ### The hop policy (06 R154 to R160) -/

/-- The candidate list in force, entries 0 to NCL. -/
def State.candidates (s : State) : List Nat :=
  ([s.inForce R.NOISE_CAND0_E0, s.inForce R.NOISE_CAND0_E1, s.inForce R.NOISE_CAND0_E2, s.inForce R.NOISE_CAND0_E3,
    s.inForce R.NOISE_CAND1_E4, s.inForce R.NOISE_CAND1_E5, s.inForce R.NOISE_CAND1_E6,
    s.inForce R.NOISE_CAND1_E7]).take (s.inForce R.NOISE_CTL_NCL + 1)

/-- The frequency index in force. -/
def State.fcur (s : State) : Nat := s.get R.DRIVE_STAT_FIDXACT

/-- Whether a noise figure is valid. -/
def State.nfValid (s : State) (i : Nat) : Bool := bit (s.get R.NOISE_NFVALID) i

/-- Sets or clears the valid mark of a noise figure. -/
def State.setNfValid (s : State) (i : Nat) (v : Bool) : State :=
  let m := s.get R.NOISE_NFVALID
  s.set R.NOISE_NFVALID (if v then m ||| (1 <<< i) else m &&& (0xFFFFFFFF ^^^ (1 <<< i)))

/-- The best eligible candidate: valid, listed, not in force; lowest figure, then lowest index (06 R157). -/
def State.bestCandidate (s : State) : Option Nat :=
  ((List.range 32).filter fun i => s.nfValid i && i ∈ s.candidates && i ≠ s.fcur).foldl
    (fun a i => match a with
      | none => some i
      | some b => if s.get (R.NOISE_NF i) < s.get (R.NOISE_NF b) then some i else a) none

/-- FNEXT with PEND and DEFERRED. -/
def State.setNext (s : State) (f : Nat) (deferred : Bool) : State :=
  ((s.set R.NOISE_STAT_FNEXT f).setFlag R.NOISE_STAT_PEND (f ≠ s.fcur)).setFlag R.NOISE_STAT_DEFERRED deferred

/-- The frequency index changes to f: both status fields, NFCUR with its figure, and the dwell count starts again (06 R157). -/
def State.setFreq (s : State) (f : Nat) : State :=
  if f = s.fcur then s
  else (((s.set R.DRIVE_STAT_FIDXACT f).set R.NOISE_STAT_FCUR f).set R.NOISE_STAT_NFCUR (s.get (R.NOISE_NF f))).set
    R.NOISE_STAT_DWELLCNT 0

/-- Position in the candidate list, looking at `n` entries from p on, of the first entry that the slot may measure. -/
def nextEntry (l : List Nat) (skip : List Nat) : Nat → Nat → Option Nat
  | 0, _ => none
  | n + 1, p => if l.getD (p % l.length) 0 ∈ skip then nextEntry l skip n (p + 1) else some (p % l.length)

/-- The index that the present window measures, none for an idle one, and the rotating pointer after it (06 R154). -/
def State.windowIndex (s : State) : Option Nat × Nat :=
  if s.scan.sub = 0 then (some s.fcur, s.scan.rotor)
  else
    let l := s.candidates
    match nextEntry l (s.fcur :: s.scan.slot) l.length s.scan.rotor with
    | some p => (some (l.getD p 0), (p + 1) % l.length)
    | none => (none, s.scan.rotor)

/-- The end of a listen window of `t` µs (06 R154, R155). A window that measured nothing counts its index as measured in its slot, which
06 leaves open (DESIGN CHOICE, log 119). -/
def State.windowEnd (s : State) (t n : Nat) (powers : List Nat) : State :=
  let (idx, rotor) := s.windowIndex
  let m := match idx with
    | some i => if 2 * s.divider i ≤ t * 96 && !s.scan.winVoid && (s.calSlices.isEmpty || !s.listening.isEmpty) then some (i, s.measure powers) else none
    | none => none
  let slot := match idx with
    | some i => i :: s.scan.slot
    | none => s.scan.slot
  let s := s.elapse (t * 96)
  let s := { s with scan := { s.scan with
      windows := s.scan.windows ++ [m], slot := slot, rotor := rotor, winVoid := false, sub := s.scan.sub + 1 } }
  if n < s.scan.sub then
    let found := (s.scan.windows.drop (s.scan.windows.length - (n + 1))).filterMap id
    (if s.inCascade && s.panel.pos ≠ 0 then s.send (.listen (s.scan.frame % 65536) found) else s).nextWord
  else s

/-- The largest measurement of an index in the frame, from the device's own windows and from `more` (06 R156). -/
def State.measured (s : State) (more : List (Nat × Nat)) (i : Nat) : Option Nat :=
  ((s.scan.windows.filterMap id) ++ more).foldl (fun a p => if p.1 = i then some (max p.2 (a.getD 0)) else a) none

/-- The update of one noise figure at SCAN_END (06 R156). -/
def State.updateNf (more : List (Nat × Nat)) (s : State) (i : Nat) : State :=
  let age := s.scan.ages.getD i 0
  match s.measured more i with
  | some m =>
    let nf := s.get (R.NOISE_NF i)
    let step := Int.tdiv ((m : Int) - nf) (2 ^ s.inForce R.NOISE_CTL_AVG : Nat)
    let step := if step = 0 && m ≠ nf then (if nf < m then 1 else -1) else step
    let s := if s.nfValid i then s.set (R.NOISE_NF i) (nf + step).toNat else s.set (R.NOISE_NF i) m
    ({ s with scan := { s.scan with ages := upd s.scan.ages i fun _ => 0 } }).setNfValid i true
  | none =>
    if s.nfValid i then
      let s := { s with scan := { s.scan with ages := upd s.scan.ages i fun _ => age + 1 } }
      if 16 < age + 1 then s.setNfValid i false else s
    else s

/-- The decision for the next frame (06 R157, R159, R160). -/
def State.hopDecision (s : State) : State :=
  if s.inForce R.NOISE_CTL_HOPEN = 0 then s.setNext s.fcur false
  else
    match s.scan.deferred with
    | some f => s.setNext f true
    | none =>
      match s.bestCandidate with
      | some b =>
        if s.nfValid s.fcur && s.inForce R.NOISE_CTL_DWELL ≤ s.get R.NOISE_STAT_DWELLCNT
            && s.get (R.NOISE_NF b) + s.inForce R.NOISE_CTL_HYST ≤ s.get (R.NOISE_NF s.fcur)
        then s.setNext b false else s.setNext s.fcur false
      | none => s.setNext s.fcur false

/-- Noise figures and the decision at SCAN_END. -/
def State.noiseEnd (s : State) (more : List (Nat × Nat)) : State :=
  let s := (List.range 32).foldl (State.updateNf more) s
  let s := s.set R.NOISE_STAT_NFCUR (s.get (R.NOISE_NF s.fcur))
  s.hopDecision

/-! ### Emergency hops (04 R109, R110; 06 R158, R159) -/

/-- Duration of words that come at index f; `k`: the ordinal of the next TXSTIM word. A word that runs no pass takes no
time (17 R447). -/
def State.wordsCycles (s : State) (f : Nat) : Nat → List Nat → Nat
  | _, [] => 0
  | k, w :: t =>
    match decodeWord w with
    | .test type slices stim time =>
      let skipped := ({ s with scan := { s.scan with stim := k } }).testSkipped type stim
      (if skipped then 0 else s.wordCycles f (.test type slices stim time))
        + s.wordsCycles f (if type = 2 then k + 1 else k) t
    | d => s.wordCycles f d + s.wordsCycles f k t

/-- Duration of the words after the one that runs, timed at index f, with the 12 µs to SCAN_END (04 R110). -/
def State.restCycles (s : State) (f : Nat) : Nat :=
  s.wordsCycles f s.scan.stim (s.scan.words.drop (s.get R.SCAN_STAT_WIDX + 1)) + 12 * 96

/-- Decoded chips of the burst that runs: Nrep times L. -/
def State.burstChips (s : State) : Nat :=
  match s.curWord with
  | .burst _ _ lc _ => s.repsAct * codeLen lc
  | _ => 0

/-- tneed of an emergency hop to index f (04 R110). -/
def State.hopNeed (s : State) (f : Nat) : Nat :=
  (s.settleChips + s.burstChips) * s.kAct * s.divider f + s.restCycles f

/-- A request is deferred to the next frame (06 R159). -/
def State.deferHop (s : State) (f : Nat) : State :=
  let s := (s.wrap R.NOISE_CNT_DEFER).setNext f true
  { s with scan := { s.scan with deferred := some f, eDone := true } }

/-- The hop is taken: the burst's chips are discarded and it is rescanned after a settling interval (04 R110). -/
def State.takeHop (s : State) (f : Nat) : State :=
  let s := (((s.wrap R.DRIVE_STAT_EHOPS).setFreq f).setNext f false).set R.DRIVE_STAT_SETTLING 1
  { s with scan := { s.scan with
      sub := 0, settle := s.settleChips, settled := true, hopped := true, eDone := true } }

/-- The evaluation of a request at the end of a chip (04 R110). -/
def State.evalHop (s : State) (f : Nat) : State :=
  if 0 < s.scan.settle || s.scan.hopped || s.scan.period < s.scan.clk + s.hopNeed f then s.deferHop f
  else s.takeHop f

/-- R158 applied to the run that ends with a chip of measure e. In a cascade the request becomes a HOP broadcast that
switches at the end of the chip after the one that ends now (14 R376). -/
def State.evalRun (s : State) (e : Nat) : State :=
  let limit := s.get (R.NOISE_NF s.fcur) + 4 * s.inForce R.NOISE_EHOP_EMARG
  let hot := s.inForce R.NOISE_EHOP_EEN ≠ 0 && s.inForce R.NOISE_CTL_HOPEN ≠ 0 && s.nfValid s.fcur && limit < e
  let s := { s with scan := { s.scan with eRun := if hot then s.scan.eRun + 1 else 0 } }
  if s.scan.eDone || s.scan.eRun < s.inForce R.NOISE_EHOP_ECHIPS + 1 then s
  else
    match s.bestCandidate with
    | none => { (s.wrap R.NOISE_CNT_NOCAND) with scan := { s.scan with eDone := true } }
    | some f =>
      if s.inCascade then
        ({ s with lf := { s.lf with hop := some (f, 1) }, scan := { s.scan with eDone := true } }).send (.hop f s.scan.sub)
      else s.evalHop f

/-- The noise measure e of the decoded chip that ends (06 R158). In a cascade a member sends it to ROOT, and ROOT applies
R158 one chip later, when it holds the largest e of every device (14 R376). -/
def State.chipNoise (s : State) (e : Nat) : State :=
  let s := s.set R.NOISE_EMEAS_E e
  let s := { s with scan := { s.scan with ePeak := max s.scan.ePeak e } }
  if !s.inCascade then s.evalRun e
  else if s.panel.pos ≠ 0 then s.send (.noise (s.scan.sub - 1) e)
  else ({ s with link := { s.link with e := e } }).evalRun s.link.e

/-- A hop that HOP has named switches at the end of its chip (14 R376). -/
def State.hopBoundary (s : State) : State :=
  match s.lf.hop with
  | none => s
  | some (f, n) =>
    if n ≤ 1 then ({ s with lf := { s.lf with hop := none } }).evalHop f
    else { s with lf := { s.lf with hop := some (f, n - 1) } }

/-- The end of a chip of the burst that runs: a hop that was named before switches, after the chip's own measure. -/
def State.chipEnd (s : State) (e : Nat) : State :=
  let s := s.elapse (s.kAct * s.divider s.fcur)
  if 0 < s.scan.settle then
    let t := { s with scan := { s.scan with settle := s.scan.settle - 1 } }
    if s.scan.settle ≤ 1 then t.set R.DRIVE_STAT_SETTLING 0 else t
  else
    let s := { s with scan := { s.scan with sub := s.scan.sub + 1 } }
    let t := s.chipNoise e
    if s.lf.hop.isSome then t.hopBoundary else t

/-! ### The end of a burst (05 R132, R136) -/

/-- Writes one node's value into the raw buffer; a node without a value gets 0x8000 (05 R124). -/
def State.writeRaw (s : State) (d c : Nat) (v : Option Int) : State :=
  s.setFm16 (node16 (rawPlane s.scan.frame) d c) (match v with
    | some x => unsigned16 x
    | none => 0x8000)

/-- The decoder's writes to the lines of a burst end the reservations there, in the raw buffer of each slice (10 R278). -/
def State.breakRaw (s : State) (lines : List Nat) : State :=
  lines.foldl (fun s d => (List.range 4).foldl (fun s k =>
    s.breakLines byDevice (node16 (rawPlane s.scan.frame) d (24 * k)) (node16 (rawPlane s.scan.frame) d (24 * k) + 47)) s) s

/-- Decodes one channel's column for a burst. -/
def State.decodeColumn (s : State) (len base : Nat) (lines : List (Nat × Nat)) (q : BurstSeq) (res : List Int) (c : Nat) : State :=
  let y := res.map (clampInt (-modulatorSpan) modulatorSpan)
  let on := s.chanOn c
  lines.foldl (fun s p =>
    s.writeRaw p.1 c (if on && !s.lineMasked p.1
      then some (decodeNode (base + p.2) len s.repsAct (q.ranges.getD c 0) (s.scan.tag.sigma c) y (q.codes.getD c []))
      else none)) s

/-- Counts one enabled channel's overloaded chips of a burst (05 R132). -/
def State.countOverload (res : List (List Int)) (s : State) (c : Nat) : State :=
  let n := ((res.getD c []).filter fun x => x < -modulatorSpan || modulatorSpan < x).length
  let hit := s.inForce (R.SLICE_CTL_OVLIM (c / 24)) < n
  if !s.chanOn c then s
  else { s with scan := { s.scan with
      ovChips := upd s.scan.ovChips c (· + n), ovl := if hit then addOnce c s.scan.ovl else s.scan.ovl } }

/-- Whether an engine still runs a task of the frame whose buffers the frame in force takes over; the decoders' writes wait
for it (09 R247). -/
def State.bufferHeld (s : State) : Bool :=
  s.disp.tasks.any fun t => t.frame % 2 = s.scan.frame % 2 && t.frame ≠ s.scan.frame % 65536

/-- The wait of the decoders' writes is over: it has lengthened the scan phase (09 R247). Nothing tells for how long: an open
value within the frame's period decides (log 62). -/
def State.waitOver (s : State) : State :=
  if s.scan.waits then
    let r := s.takeFree
    let s := r.2.elapse (r.1 % max 1 (s.scan.period - s.scan.clk))
    { s with scan := { s.scan with waits := false } }
  else s

/-- The decoders' writes go on to wait, or take place (09 R247). -/
def State.whenFree (s : State) (t : State) : State :=
  if s.bufferHeld then { s with scan := { s.scan with waits := true } } else t

/-- The decoder writes the burst's nodes, its sequence memory becomes free, and the
next word begins (04 R107, 05 R130). -/
def State.burstEnd (s : State) (first last lc base : Nat) (res : List (List Int)) : State :=
  let lines := s.covered first last
  let s := s.waitOver.breakRaw lines
  let ranked := lines.zip (List.range lines.length)
  let q := (s.scan.seqs.find? fun q => q.burst = s.scan.burst).getD ⟨0, [], []⟩
  let s := (List.range 96).foldl (fun s c => s.decodeColumn (codeLen lc) base ranked q (res.getD c []) c) s
  let s := (List.range 96).foldl (State.countOverload res) s
  let s := (List.range 96).foldl (fun s c => s.set (R.SLICE_CH_CRACT (c / 24) (c % 24)) (q.ranges.getD c 0)) s
  let s := (s.set R.DRIVE_STAT_BURST 0).set R.DRIVE_STAT_SETTLING 0
  let s := match s.lf.hop with
    | some (f, _) => s.deferHop f
    | none => s
  let s := { s with
    lf := { s.lf with hop := none }
    scan := { s.scan with
      seqs := s.scan.seqs.filter (fun x => x.burst ≠ s.scan.burst), burst := s.scan.burst + 1 } }
  s.nextWord.setGenBusy

/-! ### Counting mode (05 R134, R135; 06 R152, R153) -/

/-- The count of a conversion: net capacitance in fF, VS and CTH codes, CMAX, and the transfers that the pass allows. -/
def countOf (cap bulks vs cth cmax room : Nat) : Nat :=
  if cap ≤ 500 * bulks then 0xFFFF
  else
    let n := ceilDiv (10000000 * 2 ^ cth) ((cap - 500 * bulks) * (vs + 2))
    if 256 * (cmax + 1) < n || room < n then 0xFFFF else min n 0xFFFE

/-- Transfers that fit in a pass of TIME × 8 µs (05 R134). -/
def passRoom (time sdiv : Nat) : Nat := time * 8 * 48 / (sdiv + 1)

/-- Electrode that converter c measures in a pass, numbered as FAULT.STAUX.LINE numbers it: TX pins from 0, receive
channels from 0x100 (06 R152). -/
def passElectrode (pass c : Nat) : Nat :=
  match pass with
  | 0 => 0x100 + c
  | 1 => 40 * (c / 24) + c % 24
  | _ => 40 * (c / 24) + 24 + c % 24

/-- Whether converter c takes part in a pass: its slice is selected and it has an electrode to measure; TX-B uses
channels 0 to 15. A channel that the self-test masks is still counted (17 R449), and the converter of a channel with EN = 0
counts its drive lines (05 R134; DESIGN CHOICE, log 110). -/
def State.converts (s : State) (slices pass c : Nat) : Bool :=
  bit slices (c / 24) &&
    match pass with
    | 0 => s.flag (R.SLICE_CH_EN (c / 24) (c % 24)) && c < s.ownRx
    | 1 => passElectrode 1 c < s.ownTx
    | _ => c % 24 < 16 && passElectrode 2 c < s.ownTx

/-- Staging entry of converter c in a pass (06 R152). -/
def stripEntry (pass c : Nat) : Nat := 64 * (c / 24) + c % 24 + 24 * pass

/-- The count of converter c in a pass. -/
def State.countOne (s : State) (time : Nat) (caps : List Nat) (c : Nat) : Nat :=
  let k := c / 24
  countOf (caps.getD c 0) (s.inForce (R.SLICE_CH_BULKS k (c % 24))) (s.inForce (R.SLICE_CTL_VS k))
    (s.inForce (R.SLICE_CTL_CTH k)) (s.inForce (R.SLICE_CTL_CMAX k)) (passRoom time (s.inForce (R.SLICE_CTL_SDIV k)))

/-- One pass: the staging strip with the counts of the converters that it uses. -/
def State.countPass (s : State) (convs : List Nat) (pass time : Nat) (caps : List Nat) (strip : List Nat) : List Nat :=
  convs.foldl (fun l c => upd l (stripEntry pass c) fun _ => s.countOne time caps c) strip

/-- AFECLK cycles that the conversion of converter c takes in a pass: its transfers up to the threshold, or to the limit of
R135 or the end of the pass (05 R134). -/
def State.conversionCycles (s : State) (time : Nat) (caps : List Nat) (c : Nat) : Nat :=
  let k := c / 24
  let net := caps.getD c 0 - 500 * s.inForce (R.SLICE_CH_BULKS k (c % 24))
  let sdiv := s.inForce (R.SLICE_CTL_SDIV k)
  let most := min (256 * (s.inForce (R.SLICE_CTL_CMAX k) + 1)) (passRoom time sdiv)
  let n := if net = 0 then most
    else min most (ceilDiv (10000000 * 2 ^ s.inForce (R.SLICE_CTL_CTH k)) (net * (s.inForce (R.SLICE_CTL_VS k) + 2)))
  n * 2 * (sdiv + 1)

/-- The conversions that the voided intervals of a pass have voided: those that ran at each of them. A conversion that has
reached its threshold is not restarted (04 R115, 05 R134). -/
def voidedConversions (durations : List Nat) : List Nat → Nat
  | [] => 0
  | t :: rest =>
    let left := durations.filter (t < ·)
    left.length + voidedConversions left rest

/-- The end of a counting pass counts the conversions that blanking has voided in it (04 R115). -/
def State.countVoids (s : State) (convs : List Nat) (time : Nat) (caps : List Nat) : State :=
  { s with scan := { s.scan with blank := { s.scan.blank with
      voids := s.scan.blank.voids + voidedConversions (convs.map (s.conversionCycles time caps)) s.scan.blank.passVoids
      passVoids := [] } } }

/-- The end of a pass of a SELF word. -/
def State.selfEnd (s : State) (axis slices time : Nat) (caps : List Nat) : State :=
  let ps := passes axis
  let pass := ps.getD s.scan.sub 0
  let convs := (List.range 96).filter (s.converts slices pass)
  let strip := s.countPass convs pass time caps s.scan.staging
  let s := (s.countVoids convs time caps).elapse (time * 8 * 96)
  let s := { s with scan := { s.scan with staging := strip, sub := s.scan.sub + 1 } }
  if ps.length ≤ s.scan.sub then s.nextWord else s

/-! ### The end of the scan phase -/

/-- The channel status word of a channel (05 R137). -/
def State.statusWord (s : State) (c : Nat) : Nat :=
  b2n (decide (c ∈ s.scan.ovl)) + 2 * b2n (decide (c ∈ s.scan.clamped))
    + 4 * s.get (R.SLICE_CH_CRACT (c / 24) (c % 24)) + 16 * s.scan.tag.gains.getD c 0
    + 128 * s.inForce (R.SLICE_CH_COMPEN (c / 24) (c % 24)) + 256 * min 255 (s.scan.ovChips.getD c 0)
    + 65536 * s.scan.tag.vtx

/-- Bits of the channels of slice k in a list of channels. -/
def sliceBits (k : Nat) (l : List Nat) : Nat :=
  (List.range 24).foldl (fun a i => if (24 * k + i) ∈ l then a ||| (1 <<< i) else a) 0

/-- Whether the frame's words hold a SELF word; a TEST word. -/
def State.hasSelf (s : State) : Bool := s.scan.words.any fun w => match decodeWord w with
  | .self _ _ _ _ => true
  | _ => false
def State.hasTest (s : State) : Bool := s.scan.words.any fun w => match decodeWord w with
  | .test _ _ _ _ => true
  | _ => false

/-- The staging strips as they are copied to the self-count buffers, which hold 0 where the frame ran no SELF word, and to
the test strips (06 R152, R153; log 106). -/
def State.copyStaging (s : State) : State :=
  { s with scan := { s.scan with
      testStaging := if s.hasTest then s.scan.staging else s.scan.testStaging
      staging := if s.hasSelf then s.scan.staging else List.replicate 256 0 } }

/-- Statistics and faults of one slice for the frame that completes its scan phase (05 R128, R132, R137, R141). OVL, CLAMP
and their counters and faults are taken here, once per frame (log 106); GAPUS is rounded down (log 93). -/
def State.sliceEnd (s : State) (k : Nat) : State :=
  let ov := (List.range 24).filter fun i => (24 * k + i) ∈ s.scan.ovl
  let cl := (List.range 24).filter fun i => (24 * k + i) ∈ s.scan.clamped
  let s := (s.set (R.SLICE_OVL_CH k) (sliceBits k s.scan.ovl)).set (R.SLICE_CLAMP_CH k) (sliceBits k s.scan.clamped)
  let s := ov.foldl (fun s _ => s.sat (R.SLICE_ERRCNT_OVLCNT k)) s
  let s := cl.foldl (fun s _ => s.sat (R.SLICE_ERRCNT_CLPCNT k)) s
  let s := (s.setFlag (R.SLICE_STAT_GAP k) (s.scan.gap ≠ 0)).set (R.SLICE_STAT_GAPUS k) (min 255 (s.scan.gap / 96))
  let s := s.set (R.SLICE_STAT_VTXTAG k) s.scan.tag.vtx
  let s := match ov with
    | i :: _ => s.raise ⟨0x10 + k, Kind.feOverload, 1, 0, 24 * k + i, false⟩
    | [] => s
  let s := match cl with
    | i :: _ => s.raise ⟨0x10 + k, Kind.compClamp, 1, 0, 24 * k + i, false⟩
    | [] => s
  let strip := (List.range 24).flatMap fun i => toBytes 4 (s.statusWord (24 * k + i))
  let base := k * 0x40000
  let self := (List.range 64).flatMap fun i => toBytes 2 (s.scan.staging.getD (64 * k + i) 0)
  let test := (List.range 64).flatMap fun i => toBytes 2 (s.scan.testStaging.getD (64 * k + i) 0)
  let odd := s.scan.frame % 2
  let s := s.frameWrite byDevice (base + 0x2A000 + 0x60 * odd) strip
  let s := s.frameWrite byDevice (base + 0x2A100 + 0x80 * odd) self
  if s.hasTest then s.frameWrite byDevice (base + 0x2A300) test else s

/-- The drive lines that a burst of the frame covered, where it ran bursts at all. -/
def State.burstLines (s : State) : List Nat :=
  if s.get R.DRIVE_STAT_VTXACT = 0 then [] else s.bursts.flatMap fun b => s.covered b.1 b.2.1

/-- The decoder writes 0x8000 into every node that no burst of the frame measured (05 R124, R125). -/
def State.blankRest (s : State) : State :=
  let lines := s.burstLines
  let rest := (List.range s.ntx).filter fun d => d ∉ lines
  rest.foldl (fun s d => (List.range 96).foldl (fun s c => s.writeRaw d c none) s) (s.breakRaw rest)

/-- BLANKX: more voids in the frame than MAXVOID (04 R115). -/
def State.blankx (s : State) : Bool := s.inForce R.DRIVE_BLANK_MAXVOID < s.scan.blank.voids

/-- Blanked time of the frame in µs, with that of an interval in progress. -/
def State.blankUs (s : State) : Nat :=
  let b := s.scan.blank
  b.us + if b.frozen then (s.scan.clk - b.start) / 96 else 0

/-- The registers that describe the last completed frame (04, 06). -/
def State.frameStats (s : State) : State :=
  let us := s.scan.clk / 96
  let s := (s.set R.SCAN_TIMING_LASTUS (min us 0xFFFF)).set R.SCAN_TIMING_PEAKUS
    (max (s.get R.SCAN_TIMING_PEAKUS) (min us 0xFFFF))
  let s := (s.set R.DRIVE_BSTAT_VOIDS (min 255 s.scan.blank.voids)).setFlag R.DRIVE_BSTAT_BLANKX s.blankx
  let s := s.set R.DRIVE_BSTAT_BLANKUS (min 0xFFFF s.blankUs)
  s.set R.NOISE_EMEAS_EPEAK (min 255 s.scan.ePeak)

/-- What a frame that completes its scan phase leaves: images and strips in frame memory, registers, counters and faults. In
a cascade ROOT alone keeps noise figures and decides (14 R368, R372). -/
def State.frameCompletes (s : State) : State :=
  let s := ((List.range 4).foldl State.sliceEnd s.blankRest.copyStaging).frameStats
  if s.inCascade && s.panel.pos ≠ 0 then s else s.noiseEnd s.link.windows

/-- SCAN_END: 12 µs after the last conversion (04 R107), and after the wait of 09 R247. An abandoned frame is
discarded: it completes nothing and makes no decision (04 R113, 06 R157, 14 R369; log 106). -/
def State.scanEnd (s : State) : State :=
  let s := (s.elapse (12 * 96)).waitOver
  let s := (if s.scan.abandoned then s else s.frameCompletes).set R.SCAN_STAT_INSCAN 0
  { s with scan := { s.scan with phase := .ended } }

/-! ### Blanking (04 R114 to R116) -/

/-- Whether a blanking input is enabled and at its asserted level. -/
def State.blanked (s : State) (i : Nat) : Bool :=
  if i = 0 then s.inForce R.DRIVE_BLANK_EN0 ≠ 0 && s.scan.blank.level0 = (s.inForce R.DRIVE_BLANK_POL0 = 0)
  else s.inForce R.DRIVE_BLANK_EN1 ≠ 0 && s.scan.blank.level1 = (s.inForce R.DRIVE_BLANK_POL1 = 0)

/-- Changes the blanking state. -/
def State.updBlank (s : State) (f : Blank → Blank) : State := { s with scan := { s.scan with blank := f s.scan.blank } }

/-- LIVE0 and LIVE1 (04 R114). -/
def State.blankLive (s : State) : State :=
  (s.setFlag R.DRIVE_BSTAT_LIVE0 (s.blanked 0)).setFlag R.DRIVE_BSTAT_LIVE1 (s.blanked 1)

/-- Records the level of a blanking input. -/
def State.blankLevel (s : State) (i : Nat) (v : Bool) : State :=
  (s.updBlank fun b => if i = 0 then { b with level0 := v } else { b with level1 := v }).blankLive

/-- At FRAME_START the enables and polarities come into force; an interval that spans FRAME_START goes on (04 R114). -/
def State.blankFrame (s : State) : State :=
  let held := s.blanked 0 || s.blanked 1
  let spans := held && s.scan.blank.frozen
  s.blankLive.updBlank fun b =>
    { b with
      frozen := held, voided := false, start := 0
      before := if spans then tbDiff s.pow.tb b.tb else 0, tb := if spans then b.tb else s.pow.tb }

/-- A frame is abandoned on every device: ROOT sends ABANDON and counts it, a member reports to ROOT (14 R369, R371). -/
def State.abandonAll (s : State) : State :=
  if s.panel.pos ≠ 0 then s.send .blanking
  else
    let s := (s.send (.abandon s.scan.frame)).sat R.LINK_ERRC_FPAB
    { s with scan := { s.scan with abandoned := true } }

/-- What blanking voids in the word that runs, and whether it is counted: a chip is repeated, and counted but for a chip of a
settling interval (04 R111), one that has not begun included (log 85); where all chips of a burst are over there is none; the
conversions of a counting pass are restarted, and its end counts them; a listen window is discarded (06 R155); a WAIT word
holds nothing. -/
def State.voidOne (s : State) : State :=
  if s.scan.blank.voided || s.scan.phase ≠ .word then s
  else
    match s.curWord with
    | .listen _ _ => { s with scan := { s.scan with winVoid := true } }
    | .burst _ _ _ _ =>
      if s.scan.settle = 0 && s.burstChips ≤ s.scan.sub then s
      else s.updBlank fun b => { b with voided := true, voids := b.voids + if s.scan.settle = 0 then 1 else 0 }
    | .wait _ => s
    | _ => s.updBlank fun b => { b with voided := true, passVoids := b.passVoids ++ [b.start - s.scan.clk] }

/-- The blanking interval passes LIM: what it holds is voided, or in a cascade the frame is abandoned (04 R115; 14 R371). -/
def State.limitPassed (s : State) : State :=
  if !s.inCascade then s.voidOne
  else if s.scan.blank.voided || s.scan.phase = .idle || s.scan.phase = .ended then s
  else (s.updBlank fun b => { b with voided := true }).abandonAll

/-- TB at a number of AFECLK cycles after FRAME_START. -/
def State.tbAt (s : State) (at_ : Nat) : Nat := s.scan.startTb + (s.scan.startFrac + at_) / 96

/-- A blanking input asserts `at_` cycles after FRAME_START (04 R114, R115). A transition finishes in a cascade, and nothing is
voided (14 R371). -/
def State.blankAssert (s : State) (i at_ : Nat) (level inTransition : Bool) : State :=
  let s := (if s.inRun && s.scan.started && !s.scan.fresh then s.advanceTo (s.tbAt at_) else s).blankLevel i level
  if (s.blanked 0 || s.blanked 1) && !s.scan.blank.frozen then
    let s := s.updBlank fun b => { b with frozen := true, voided := false, start := at_, before := 0, tb := s.pow.tb }
    if inTransition && s.flag R.DRIVE_STAT_BURST && !s.inCascade then s.voidOne else s
  else s

/-- The word that runs goes on where an interval ends, `resume` cycles after FRAME_START: a chip, window or pass goes on from
the point where it stopped, or begins there if it is voided or had not begun (04 R114, R115). -/
def State.resumeAt (s : State) (resume : Nat) : State :=
  let b := s.scan.blank
  if s.scan.phase ≠ .word then s
  else if b.voided || b.start < s.scan.clk then s.elapseTo resume
  else s.elapse (resume - b.start)

/-- A blanking input releases after an interval of `us` µs (04 R115). -/
def State.blankRelease (s : State) (i : Nat) (level : Bool) (us : Nat) : State :=
  let s := s.blankLevel i level
  if s.scan.blank.frozen && !s.blanked 0 && !s.blanked 1 then
    let s := if s.inForce R.DRIVE_BLANK_LIM < us then s.limitPassed else s
    let here := us - s.scan.blank.before
    let s := (s.resumeAt (s.scan.blank.start + 96 * here)).advanceTo (s.scan.blank.tb + us)
    s.updBlank fun b => { b with frozen := false, voided := false, us := b.us + here }
  else s

/-! ### Commands -/

/-- VTX drops out, or still does: VTX_DROPOUT is raised once for the frame (02 R45). -/
def State.dropsOut (s : State) : State :=
  let t := { s with scan := { s.scan with dropout := true, dropTold := true } }
  if s.scan.dropTold then t else t.eventFault Kind.vtxDropout 0 (t.get R.DRIVE_STAT_VTXACT)

/-- VIN, in 100 mV, does not carry the VTX code in force, and VTX was good (02 R45): it regulates only up to VIN - 4 V. -/
def State.vinDrops (s : State) (mv100 : Nat) : Bool :=
  s.inRun && !s.flt.safe && s.flag R.DRIVE_STAT_VTXGOOD && s.get R.DRIVE_STAT_VTXACT ≠ 0
    && mv100 < 10 * (2 * s.get R.DRIVE_STAT_VTXACT + 2) + 40

/-- VTX_GOOD (04 R90), `at_` cycles after FRAME_START; `dropout`: good at the dropout level (02 R45). Where VTX is good
already, VTX_GOOD tells that it drops out now, or has come back to its target. -/
def execVtxGood (at_ : Nat) (dropout : Bool) (s : State) : Host.Outcome State Fault Refusal :=
  let runs := s.inRun && !s.flt.safe && s.get R.DRIVE_STAT_VTXACT ≠ 0
  let good := s.flag R.DRIVE_STAT_VTXGOOD
  let t := s.set R.DRIVE_STAT_VTXGOOD 1
  let t := if dropout then t.dropsOut else { t with scan := { t.scan with dropout := false } }
  onlyIf (runs && (!good || dropout != s.scan.dropout)) s
    (if t.scan.phase = .waitVtx then (t.elapseTo at_).tryBurst.setGenBusy else t)

/-- VTX_FAULT (04 R92): VTX is more than 10 % low 2 ms into a ramp, without dropout. -/
def execVtxFault (s : State) : Host.Outcome State Fault Refusal :=
  onlyIf (s.inRun && s.get R.DRIVE_STAT_VTXACT ≠ 0 && !s.flag R.DRIVE_STAT_VTXGOOD) s
    (s.eventFault Kind.vtxFault 0 (s.get R.DRIVE_STAT_VTXACT))

/-- COMPENSATION_SEQUENCE_READY (05 R130), `at_` cycles after FRAME_START. -/
def execCompensationSequenceReady (at_ : Nat) (s : State) : Host.Outcome State Fault Refusal :=
  let t := s.buildNext.setGenBusy
  let t := if t.scan.phase = .waitComp && t.scan.seqs.any (fun q => q.burst = t.scan.burst) then
      let t := { t with scan := { t.scan with gap := t.scan.gap + (at_ - t.scan.clk) } }
      (t.elapseTo at_).tryBurst.setGenBusy
    else t
  onlyIf (s.inRun && !s.flt.safe && s.scan.phase ≠ .idle && s.scan.phase ≠ .ended) s t

/-- LISTEN_WINDOW_END (06 R155) with the power of every channel of the device. -/
def execListenWindowEnd (powers : List Nat) (s : State) : Host.Outcome State Fault Refusal :=
  match s.curWord with
  | .listen t n => onlyIf s.scanRuns s (s.windowEnd t n powers)
  | _ => .next s

/-- CHIP_END (04 R109) with the quadrature power of every channel. -/
def execChipEnd (powers : List Nat) (s : State) : Host.Outcome State Fault Refusal :=
  onlyIf (s.scanRuns && s.flag R.DRIVE_STAT_BURST && (0 < s.scan.settle || s.scan.sub < s.burstChips)) s
    (s.chipEnd (s.measure powers))

/-- BURST_END (04 R107) with the residual of every decoded chip of every channel, in raw units. Beside tasks of an
older frame its write waits, and comes with the next BURST_END (09 R247; log 62). -/
def execBurstEnd (residuals : List (List Int)) (s : State) : Host.Outcome State Fault Refusal :=
  match s.curWord with
  | .burst a b l c =>
    onlyIf (s.scanRuns && s.flag R.DRIVE_STAT_BURST && s.scan.settle = 0 && s.burstChips ≤ s.scan.sub) s
      (s.whenFree (s.burstEnd a b l c residuals))
  | _ => .next s

/-- SELF_PASS_END (06 R152) with the self-capacitance, in fF, of the electrode on every converter. -/
def execSelfPassEnd (caps : List Nat) (s : State) : Host.Outcome State Fault Refusal :=
  match s.curWord with
  | .self axis _ slices time => onlyIf s.scanRuns s (s.selfEnd axis slices time caps)
  | _ => .next s

/-- WAIT_END (06 R151). -/
def execWaitEnd (s : State) : Host.Outcome State Fault Refusal :=
  match s.curWord with
  | .wait us => onlyIf s.scanRuns s (s.elapse (us * 96)).nextWord
  | _ => .next s

/-- BLANK_ASSERT (04 R114). -/
def execBlankAssert (input : Fin 2) (level : Bool) (place : BlankAt) (s : State) : Host.Outcome State Fault Refusal :=
  onlyIf s.up s (s.blankAssert input place.at_ level place.inTransition)

/-- BLANK_RELEASE (04 R115). -/
def execBlankRelease (input : Fin 2) (level : Bool) (us : Nat) (s : State) : Host.Outcome State Fault Refusal :=
  onlyIf s.up s (s.blankRelease input level us)

/-- BLANKING_LIMIT (04 R115): the interval passes LIM; in a cascade ROOT abandons the frame (14 R371). -/
def execBlankingLimit (s : State) : Host.Outcome State Fault Refusal := onlyIf s.scan.blank.frozen s s.limitPassed

end Sys2Proof.Machine
end

