-- ==== Sys2Proof/Machine/SelfTest.lean ====
section
/-!
DEFINITION. The self-test: test passes, test frames, judgement of the electrodes, masking and unmasking, and the
commands of FAULT.STCMD (spec/17_faults_selftest_longrun.md R447 to R451; spec/04 R97; spec/06 R148, R153).
-/

namespace Sys2Proof.Machine

/-! ### Test passes (06 R153) -/

/-- The end of a pass of a TEST word. The stimulated line itself is not counted. -/
def State.testEnd (s : State) (type slices stim time : Nat) (caps : List Nat) : State :=
  let ps := passes type
  let pass := ps.getD s.scan.sub 0
  let time := if s.scan.test then s.get R.FAULT_STCFG_TIME else time
  let line := s.stimOf stim
  let convs := (List.range 96).filter fun c =>
    s.converts slices pass c && !(type = 2 && pass ≠ 0 && s.pinOf line = some (passElectrode pass c))
  let found := convs.map fun c => (passElectrode pass c, s.countOne time caps c)
  let strip := s.countPass convs pass time caps s.scan.staging
  let st := s.st
  let st := { st with counts := found.foldl (fun m p => aput p.1 p.2 m) st.counts }
  let at_ := 512 * st.frame
  let st := if !s.scan.test then st
    else if type = 2 then { st with stims := st.stims ++ found.map fun p => (line, at_ + p.1, p.2) }
    else { st with acc := found.foldl (fun m p => aput (at_ + p.1) p.2 m) st.acc }
  let s := (({ s with st := st }).countVoids convs time caps).elapse (time * 8 * 96)
  let s := { s with scan := { s.scan with staging := strip, sub := s.scan.sub + 1 } }
  if ps.length ≤ s.scan.sub then
    ({ s with scan := { s.scan with stim := if type = 2 then s.scan.stim + 1 else s.scan.stim } }).nextWord
  else s

/-! ### Judgement (R449) -/

/-- Sum of the baselines of channel c over the enabled drive lines in σ = 1 units, in units of 1 / sigmaUnit, and how many. -/
def State.rxMean (s : State) (c : Nat) : Int × Nat :=
  ((List.range s.ntx).filter s.lineOn).foldl (fun a d =>
    let b := s.baseAt d c
    if b = -32768 then a else (a.1 + b * ((768 * (sigmaUnit / (s.baseTagAt d c).sigma c) : Nat) : Int), a.2 + 1)) (0, 0)

/-- Whether channel c carries too little mutual signal (R449). -/
def State.rxWeak (s : State) (c : Nat) : Bool :=
  let m := s.rxMean c
  m.2 ≠ 0 && m.1 < ((s.get R.FAULT_STAUX_RXMUT * m.2 * sigmaUnit : Nat) : Int)

/-- An electrode code: bit 15 at 1 for a receive channel (R433). The state numbers channel c as 0x100 + c. -/
def electrodeCode (e : Nat) : Nat := if e < 0x100 then e else 0x8000 + (e - 0x100)

/-- The code of a stimulated line as the other electrode of a short: this device's own pin, or 0xFFFF for a line of another
device, which has no code here (R433; log 20). -/
def State.lineCode (s : State) (d : Nat) : Nat := (s.pinOf d).getD 0xFFFF

/-- The electrodes that fail in one of the test's frames, each judged from its counts in that frame: its number, whether open,
and for a short the other electrode's code or 0xFFFF (R449). -/
def State.failing (s : State) (full : Bool) : List (Nat × Bool × Nat) :=
  let add (l : List (Nat × Bool × Nat)) (f : Nat × Bool × Nat) := if l.any (fun g => g.1 = f.1) then l else l ++ [f]
  let own := (s.st.acc.filterMap fun p =>
    if s.get R.FAULT_STLIM_OPENLIM < p.2 || p.2 = 0xFFFF then some (p.1 % 512, true, 0xFFFF)
    else if p.2 < s.get R.FAULT_STLIM_SHORTLIM then some (p.1 % 512, false, 0xFFFF) else none).foldl add []
  let l := (s.st.stims.filterMap fun t =>
    let n := aget 0 t.2.1 s.st.acc
    if n ≠ 0 && s.get R.FAULT_STCFG_STIMLIM < (t.2.2 - n) + (n - t.2.2) then
      some (t.2.1 % 512, false, s.lineCode t.1) else none).foldl add own
  if full then (((List.range s.ownRx).filter s.rxWeak).map fun c => (0x100 + c, true, 0xFFFF)).foldl add l else l

/-- The largest stimulus difference of the test (FAULT.STCNT.DEV). -/
def State.stimDev (s : State) : Nat :=
  s.st.stims.foldl (fun a t =>
    let n := aget 0 t.2.1 s.st.acc
    if n = 0 then a else max a ((t.2.2 - n) + (n - t.2.2))) 0

/-- Word i of a result field: bit b is electrode base + 32 i + b. -/
def codeBits (base i : Nat) (l : List Nat) : Nat :=
  (List.range 32).foldl (fun a b => if base + 32 * i + b ∈ l then a ||| (1 <<< b) else a) 0

/-- Whether an electrode is masked. -/
def State.masked (s : State) (e : Nat) : Bool :=
  if e < 0x100 then bit (s.get (R.DRIVE_TXFLT (e / 32))) (e % 32)
  else bit (s.get (R.FAULT_RXMASK ((e - 0x100) / 32))) ((e - 0x100) % 32)

/-- Sets or clears the mask bit of an electrode. -/
def State.setMask (s : State) (e : Nat) (on : Bool) : State :=
  let f := if e < 0x100 then R.DRIVE_TXFLT (e / 32) else R.FAULT_RXMASK ((e - 0x100) / 32)
  let m := 1 <<< (e % 32)
  s.set f (if on then s.get f ||| m else s.get f &&& (0xFFFFFFFF ^^^ m))

/-- Ends the conditions that a masked electrode holds live; its passed tests are forgotten. -/
def State.maskGone (s : State) (e : Nat) : State :=
  let s := (s.ceases Kind.elecOpen e).ceases Kind.elecShort e
  let s := if e < 0x100 then s.ceases Kind.txShort e else s
  { s with st := { s.st with passed := adel e s.st.passed } }

/-- Masks a failing electrode that is not masked yet; no ELEC_OPEN where the flex is lost (R449, R450). A TXFLT bit that a
test sets is an onset of TX_SHORT on its pin as any other is (R432, R433). -/
def State.maskElectrode (lost : Bool) (s : State) (f : Nat × Bool × Nat) : State :=
  let s := { s with st := { s.st with passed := adel f.1 s.st.passed } }
  if s.masked f.1 then s
  else
    let s := s.setMask f.1 true
    let s := if f.1 < 0x100 then s.onset Kind.txShort f.1 0 f.1 else s
    if f.2.1 then (if lost then s.markLive Kind.elecOpen f.1 else s.onset Kind.elecOpen f.1 0xFFFF (electrodeCode f.1))
    else s.onset Kind.elecShort f.1 f.2.2 (electrodeCode f.1)

/-- A masked electrode that passed: unmasked after its second passed test in a row, unless R97 holds it (R451). -/
def State.passElectrodeTest (s : State) (e : Nat) : State :=
  if !s.masked e || e ∈ s.st.held then s
  else if 1 ≤ aget 0 e s.st.passed then (s.setMask e false).maskGone e
  else { s with st := { s.st with passed := aput e 1 s.st.passed } }

/-- The result of a test in FAULT.STSTAT. -/
def State.testResult (s : State) (r : Nat) : State := s.set R.FAULT_STSTAT_RESULT r

/-- Judges the electrodes and records, reports, masks and unmasks (R449 to R451). -/
def State.judge (s : State) (full : Bool) : State :=
  let fails := s.failing full
  let codes := fails.map (·.1)
  let opens := (fails.filter fun f => f.2.1).map (·.1)
  let shorts := (fails.filter fun f => !f.2.1).map (·.1)
  let s := if full then s.set R.FAULT_STCNT_DEV (min 0xFFFF s.stimDev) else s
  let s := (List.range 5).foldl (fun s i =>
    (s.set (R.FAULT_TXOPEN i) (codeBits 0 i opens)).set (R.FAULT_TXSHORT i) (codeBits 0 i shorts)) s
  let s := (List.range 3).foldl (fun s i =>
    (s.set (R.FAULT_RXOPEN i) (codeBits 0x100 i opens)).set (R.FAULT_RXSHORT i) (codeBits 0x100 i shorts)) s
  let s := (s.testResult (if fails.isEmpty then 1 else 2)).set R.FAULT_STSTAT_NFAIL (min 0x1FF fails.length)
  let lost := s.get R.FAULT_STCFG_FLEXPCT * (s.ownTx + s.ownRx) ≤ 10 * opens.length
  let passing := (s.st.acc.map (·.1 % 512)).eraseDups.filter fun e => e ∉ codes
  let s := if lost then s.onset Kind.flexLost 0 0 opens.length
    else if s.isLive Kind.flexLost then (s.ceases Kind.flexLost 0).eventFault Kind.flexReturn 0 passing.length
    else s
  if s.flag R.FAULT_STCFG_AUTO then passing.foldl State.passElectrodeTest (fails.foldl (State.maskElectrode lost) s) else s

/-! ### Test frames (R447, R448, 06 R148) -/

/-- Posts a MODE event (08 R225). -/
def State.modeEvent (s : State) (new old source table : Nat) : State := s.event 0x20 new old source table 0

/-- TXSTIM words of a list of words. -/
def stimWords (l : List Nat) : Nat :=
  (l.filter fun w => match decodeWord w with
    | .test 2 _ _ _ => true
    | _ => false).length

/-- The table that TEST mode selects. -/
def State.testTable (s : State) : Nat := s.get R.SCAN_TMAP_TTEST

/-- Forgets the counts of a test and starts its frames again. -/
def State.freshTest (s : State) (kind : Nat) : State :=
  let s := { s with st := { s.st with kind := kind, request := 0, frame := 0, acc := [], stims := [], abort := false } }
  s.setFlag R.FAULT_STSTAT_BUSY (kind ≠ 0)

/-- A full test or quick test ends. -/
def State.endTest (s : State) : State :=
  let s := if s.st.kind = 1 then
      s.modeEvent (s.get R.SCAN_CTL_MODE) 3 3 (tmapTable s.tmap (s.get R.SCAN_CTL_MODE))
    else s
  s.freshTest 0

/-- A requested quick test checks the TEST table as a TCHK check does, SCAN.TSTAT included; where it fails the test does not
run (R448). -/
def State.quickStart (s : State) : State :=
  let r := s.checkTable s.testTable s.tmap
  let s := s.recordCheck s.testTable r
  if r.1 = 0 then (s.freshTest 2).set R.FAULT_STSTAT_FRAMES 0
  else ({ s with st := { s.st with request := 0 } }).testResult 3

/-- Inserts a number in ascending order. -/
def placeNat (n : Nat) : List Nat → List Nat
  | [] => [n]
  | h :: t => if n < h then n :: h :: t else h :: placeNat n t

/-- Tracking starts with no track; the free ID queue keeps its order (06 R148, R149). An ID that a track still holds, where
no report was left to cancel it, joins the tail (log 22). -/
def State.noTracks (s : State) : State :=
  let ids := ((s.pipe.tracks.map Track.id).filter (· ≠ 0)).foldl (fun l n => placeNat n l) []
  { s with pipe := { s.pipe with freeIds := s.pipe.freeIds ++ ids, tracks := [], kept := [], pinch := none, tap := none, subs := [], lists := [] } }

/-- Which test the frame that starts belongs to, where `m` is the scan mode sampled for it (R447, R448, 06 R148). -/
def State.selectTest (s : State) (m : Nat) : State :=
  if m = 3 then
    if s.st.kind = 3 then s
    else
      let s := if s.st.kind = 1 || s.st.request = 1 then (s.testResult 5).endTest else s
      (s.freshTest 3).set R.FAULT_STSTAT_FRAMES 0
  else
    let s := if s.st.kind = 3 then (s.freshTest 0).noTracks else s
    if s.st.kind ≠ 0 then s
    else if s.st.request = 1 then
      let old := s.get R.SCAN_STAT_MODEACT
      (s.freshTest 1).modeEvent 3 (if old = 3 then m else old) 3 s.testTable
    else if s.st.request = 2 then s.quickStart
    else s

/-- The scan phase of a test frame ends (R447, R448, 06 R148). -/
def State.testFrameEnd (s : State) : State :=
  let s := s.sat R.FAULT_STSTAT_FRAMES
  if s.st.kind = 2 then
    (if s.st.abort then s.testResult 5 else s.judge false).endTest
  else
    let w := stimWords s.scan.words
    let s := { s with st := { s.st with frame := s.st.frame + 1 } }
    let whole := w = 0 || s.ntx ≤ s.st.frame * w
    if s.st.kind = 1 then
      if s.st.abort then (s.testResult 5).endTest else if whole then (s.judge true).endTest else s
    else if whole then
      let s := s.judge true
      { s with st := { s.st with frame := 0, acc := [], stims := [] } }
    else s

/-- A running full or quick test ends after its current frame: at once where that frame's scan phase is over or the test has
not begun (R448). -/
def State.abortTest (s : State) : State :=
  if s.st.request = 1 then (s.testResult 5).freshTest 0
  else if s.st.kind = 1 || s.st.kind = 2 then
    (if s.scan.phase = .ended || s.scan.phase = .idle then (s.testResult 5).endTest
     else { s with st := { s.st with abort := true } })
  else s

/-- A write of FAULT.STCMD (R448): 0 NOP, 1 FULL, 2 QUICK, 3 ABORT. -/
def State.stCommand (s : State) (op : Nat) : State :=
  if s.st.kind = 3 || (s.flag R.FAULT_STSTAT_BUSY && op ≠ 3) then s.set R.FAULT_STSTAT_REFUSED 1
  else
    match op with
    | 0 => s
    | 1 =>
      if s.get R.DEVICE_BOOT_STAGE ≠ 7 || !s.scan.started then
        (s.testResult 4).set R.FAULT_STSTAT_FRAMES 0
      else if (s.checkTable s.testTable s.tmap).1 ≠ 0 then (s.testResult 3).set R.FAULT_STSTAT_FRAMES 0
      else
        let s := { s with st := { s.st with request := 1, abort := false } }
        (s.set R.FAULT_STSTAT_BUSY 1).set R.FAULT_STSTAT_FRAMES 0
    | 2 => { s with st := { s.st with request := 2 } }
    | _ => s.abortTest

/-- Whether a quick test is due by time (R447). -/
def State.quickDue (s : State) : Bool :=
  s.inRun && s.get R.DEVICE_BOOT_STAGE = 7 && s.get R.FAULT_STCFG_QPERIOD ≠ 0 && s.st.kind = 0 && s.st.request = 0
    && 1000000 * s.get R.FAULT_STCFG_QPERIOD ≤ tbDiff s.pow.tb s.st.lastTb

/-- The periodic quick test is requested. -/
def State.quickPeriod (s : State) : State := { s with st := { s.st with request := 2, lastTb := s.pow.tb } }

/-! ### Masks that the host clears, and shorts (R451, 04 R97, R119) -/

/-- The host writes 1 to the mask bits of electrodes `base + 32 i` on: each that is set is unmasked at the next FRAME_START. -/
def State.unmaskBits (s : State) (base i bits : Nat) : State :=
  (List.range 32).foldl (fun s b =>
    let e := base + 32 * i + b
    if bit bits b && s.masked e then
      let s := (s.setMask e false).maskGone e
      { s with st := { s.st with held := s.st.held.filter (· ≠ e) } }
    else s) s

/-- A driver stays in current limit (04 R97); three times within 60 s hold its mask until the host writes it (R451). -/
def State.txShort (s : State) (p : Nat) : State :=
  let s := s.setMask p true
  let s := { s with scan := { s.scan with txOff := addOnce p s.scan.txOff } }
  let recent := (s.st.shortTbs.filter fun q => q.1 = p && tbDiff s.pow.tb q.2 < 60000000).length + 1
  let s := { s with st := { s.st with
      shortTbs := (p, s.pow.tb) :: s.st.shortTbs.filter fun q => tbDiff s.pow.tb q.2 < 60000000
      held := if 3 ≤ recent then addOnce p s.st.held else s.st.held, passed := adel p s.st.passed } }
  s.onset Kind.txShort p 0 p

/-! ### Commands -/

/-- TEST_PASS_END (06 R153) with the self-capacitance, in fF, of the electrode on every converter. -/
def execTestPassEnd (caps : List Nat) (s : State) : Host.Outcome State Fault Refusal :=
  match s.curWord with
  | .test type slices stim time => onlyIf s.scanRuns s (s.testEnd type slices stim time caps)
  | _ => .next s

/-- TX_SHORT (04 R97), while the drivers are powered and the pin is not held low already. -/
def execTxShort (pin : Fin 160) (s : State) : Host.Outcome State Fault Refusal :=
  onlyIf (s.inRun && !s.flt.safe && decide (pin.val ∉ s.scan.txOff)) s (s.txShort pin)

end Sys2Proof.Machine
end

