-- ==== Sys2Proof/Machine/Baseline.lean ====
section
/-!
DEFINITION. Baselines: the node update with borrowed drift, rescaling, the self-count baselines, acquisition with the
power-up touch check, suspect regions, and the commands of BASE.CMD (spec/07_baseline_and_calibration.md R166 to R182).
-/

namespace Sys2Proof.Machine

/-! ### Flag bits of a node (R167) -/

namespace Flag
def frozen : Nat := 0x01
def suspect : Nat := 0x02
def masked : Nat := 0x04
def noref : Nat := 0x08
def fast : Nat := 0x10
def new : Nat := 0x20
end Flag

/-- Whether a flag byte has a flag. -/
def hasFlag (b f : Nat) : Bool := b &&& f != 0

/-- Puts a flag into a flag byte or takes it out. -/
def putFlag (b f : Nat) (on : Bool) : Nat := if on then b ||| f else b &&& (0xFF ^^^ f)

/-- FRAC of a flag byte, and the byte with another FRAC. -/
def fracOf (b : Nat) : Nat := b / 64 % 4
def putFrac (b n : Nat) : Nat := b % 64 + 64 * (n % 4)

/-! ### What lies in frame memory -/

/-- Flag byte of a node. -/
def State.flagsAt (s : State) (d c : Nat) : Nat := s.fm8 (node8 0x1E000 d c)
def State.setFlags (s : State) (d c b : Nat) : State := s.setFm8 (node8 0x1E000 d c) b

/-- Baseline, filter state and stage 3 output of a node. -/
def State.setBase (s : State) (d c : Nat) (v : Int) : State := s.setFm16 (node16 0xC000 d c) (unsigned16 v)
def State.filtAt (s : State) (d c : Nat) : Int := signed16 (s.fm16 (node16 0x12000 d c))
def State.setFilt (s : State) (d c : Nat) (v : Int) : State := s.setFm16 (node16 0x12000 d c) (unsigned16 v)
def State.gAt (s : State) (d c : Nat) : Int := signed16 (s.fm16 (node16 0x18000 d c))
def State.setG (s : State) (d c : Nat) (v : Int) : State := s.setFm16 (node16 0x18000 d c) (unsigned16 v)

/-- Offset of the step plane of a frame (R169). -/
def stepPlane (frame : Nat) : Nat := if frame % 2 = 0 then 0x21000 else 0x24000

/-- A published step, and its publication. 07 R169 does not say what is stored of a step beyond a signed byte: it is clamped (DESIGN
CHOICE, log 118). -/
def State.stepAt (s : State) (frame d c : Nat) : Int :=
  let b := s.fm8 (node8 (stepPlane frame) d c)
  if b < 128 then b else (b : Int) - 256
def State.setStep (s : State) (frame d c : Nat) (v : Int) : State :=
  s.setFm8 (node8 (stepPlane frame) d c) (clampInt (-128) 127 v % 256).toNat

/-- The acquired value A of a suspect node, kept in its step-plane pair: low byte first (R179). -/
def State.acqAt (s : State) (d c : Nat) : Int :=
  signed16 (s.fm8 (node8 0x21000 d c) + 256 * s.fm8 (node8 0x24000 d c))
def State.setAcq (s : State) (d c : Nat) (v : Int) : State :=
  (s.setFm8 (node8 0x21000 d c) (unsigned16 v % 256)).setFm8 (node8 0x24000 d c) (unsigned16 v / 256)

/-- Decoded raw value of a node in a frame's raw buffer (01 R20). -/
def State.rawAt (s : State) (frame d c : Nat) : Int := signed16 (s.fm16 (node16 (rawPlane frame) d c))

/-- The value that stands for no value (05 R124). -/
def noValue : Int := -32768

/-- Node state: bit 0 on in this frame, bit 1 on in the last processed one (09 R229). -/
def State.nodeState (s : State) (d c : Nat) : Nat := s.fm8 (node8 0x27000 d c)
def State.wasOn (s : State) (d c : Nat) : Bool := bit (s.nodeState d c) 1
def State.isOn (s : State) (d c : Nat) : Bool := bit (s.nodeState d c) 0

/-- The nodes of the device: every drive line of the panel and every receive channel of its own. -/
def State.nodes (s : State) : List (Nat × Nat) :=
  (List.range s.ntx).flatMap fun d => (List.range s.ownRx).map fun c => (d, c)

/-- Applies a function at every node of a list. -/
def State.eachNode (s : State) (l : List (Nat × Nat)) (f : State → Nat → Nat → State) : State :=
  l.foldl (fun s p => f s p.1 p.2) s

/-! ### Thresholds (R168) -/

/-- A threshold in units of σ = 1 in the raw units of a channel, with a factor num / den; at least 1. -/
def scaled (t : Tag) (c v num den : Nat) : Int := max 1 (roundDiv ((v * t.sigma c * num : Nat) : Int) (768 * den))

/-- A mutual baseline threshold at a node's channel. -/
def Tag.thr (t : Tag) (c v : Nat) : Int := scaled t c v 1 1

/-! ### Borrowed drift (R171, R174) -/

/-- The nearest anchor at steps 1 to n in one direction: `at_ i` is the step published there, none where no anchor stands. -/
def nearest (at_ : Nat → Option Int) : Nat → Nat → Option Int
  | 0, _ => none
  | n + 1, i => match at_ i with
    | some v => some v
    | none => nearest at_ n (i + 1)

/-- The drift borrowed from anchors, and FRAC after it (R171). -/
def borrow (anchors : List Int) (frac : Nat) : Int × Nat :=
  if anchors.isEmpty then (0, frac)
  else
    let acc := frac + roundDiv (4 * sumInt anchors) anchors.length
    (Int.fdiv acc 4, (acc % 4).toNat)

/-- Whether a flag byte of the frame before lets its node be an anchor. -/
def anchorFlags (b : Nat) : Bool := b &&& (Flag.masked ||| Flag.frozen ||| Flag.suspect ||| Flag.fast) = 0

/-- The anchors of a node in the four directions. -/
def State.anchors (s : State) (frame d c : Nat) : List Int :=
  let r := s.inForce R.BASE_CTL_BORROWR
  let look (d' c' : Nat) : Option Int :=
    if anchorFlags (s.base.flags.getD (96 * d' + c') Flag.masked) then some (s.stepAt (frame + 1) d' c') else none
  [nearest (fun i => if c + i < s.ownRx then look d (c + i) else none) r 1,
   nearest (fun i => if i ≤ c then look d (c - i) else none) r 1,
   nearest (fun i => if d + i < s.ntx then look (d + i) c else none) r 1,
   nearest (fun i => if i ≤ d then look (d - i) c else none) r 1].filterMap id

/-- The drift that a node borrows, and its FRAC (R171). -/
def State.borrowed (s : State) (frame d c frac : Nat) : Int × Nat :=
  if s.inForce R.BASE_CTL_BORROWEN = 0 then (0, 0) else borrow (s.anchors frame d c) frac

/-! ### The update of one value (R169, R170) -/

/-- What the update needs of its surroundings: thresholds, whether the value lay in a blob, the borrowed drift with its
FRAC, and the tracking settings. -/
structure UpdateIn where
  trk : Int
  rev : Int
  blob : Bool
  drift : Int × Nat
  trken : Bool
  trksh : Nat
  unitStep : Bool

/-- The update of R169 for a value that is neither masked nor new: baseline, flags and published step after it. -/
def updateValue (u : UpdateIn) (base : Int) (flags : Nat) (raw : Int) : Int × Nat × Int :=
  let e := raw - base
  let small := max 1 (Int.tdiv u.rev 4)
  let (step, flags) :=
    if hasFlag flags Flag.suspect then (u.drift.1, putFrac flags u.drift.2)
    else if hasFlag flags Flag.fast || u.rev ≤ e then
      let step := Int.tdiv e 2
      (step, putFlag (putFlag flags Flag.fast (small ≤ ((e - step).natAbs : Int))) Flag.frozen false)
    else if u.blob || e ≤ -u.trk then (u.drift.1, putFrac (putFlag flags Flag.frozen true) u.drift.2)
    else
      let slow := Int.tdiv e (2 ^ u.trksh : Nat)
      let slow := if slow = 0 && e ≠ 0 && u.unitStep then (if 0 < e then 1 else -1) else slow
      (if u.trken then slow else 0, putFlag flags Flag.frozen false)
  let tracking := flags &&& (Flag.frozen ||| Flag.suspect ||| Flag.fast) = 0
  (clampInt (-32767) 32767 (base + step), flags, if tracking then step else 0)

/-- The update's settings for a value in a frame. -/
def State.updateIn (s : State) (frame : Nat) (trk rev : Int) (blob : Bool) (drift : Int × Nat) : UpdateIn :=
  ⟨trk, rev, blob, drift, s.inForce R.BASE_CTL_TRKEN ≠ 0, s.inForce R.BASE_CTL_TRKSH,
    frame % (s.inForce R.BASE_CTL_TRKDIV + 1) = 0⟩

/-! ### Rescaling (05 R138, R139) -/

/-- A value from one tag's units to another's. -/
def rescale (old new : Tag) (c : Nat) (v : Int) : Int :=
  if old.scale c = new.scale c then v
  else clampInt (-32767) 32767 (roundDiv (v * (new.scale c : Int)) (old.scale c))

/-- Rescales what is held for one node. -/
def State.rescaleNode (old new : Tag) (s : State) (d c : Nat) : State :=
  let b := s.baseAt d c
  let s := if b = noValue then s else s.setBase d c (rescale old new c b)
  let s := s.setFilt d c (rescale old new c (s.filtAt d c))
  if hasFlag (s.flagsAt d c) Flag.suspect then s.setAcq d c (rescale old new c (s.acqAt d c)) else s

/-- The nodes of a task's rectangle on this device. -/
def Task.nodes (t : Task) : List (Nat × Nat) :=
  (List.range t.nrow).flatMap fun i => (List.range t.ncol).map fun j => (t.row0 + i, t.col0 + j)

/-- Brings a tile's baselines, filter states and acquired values to the tag of a frame. -/
def State.retag (s : State) (t : Task) (tag : Tag) : State :=
  let k := 6 * (t.row0 / 16) + t.col0 / 16
  let old := aget Tag.reset k s.base.tags
  if old = tag then s
  else
    let s := s.eachNode t.nodes (State.rescaleNode old tag)
    { s with base := { s.base with tags := aput k tag s.base.tags } }

/-! ### Stages 1 and 2 on a tile (R169, 08 R197, R198) -/

/-- Stage 2: the filter state after signal `x`; `fresh` where the node was new or masked (08 R198). -/
def filterStep (fresh : Bool) (jump : Int) (tcoef : Nat) (f x : Int) : Int :=
  if fresh then x
  else if jump ≠ 0 && jump ≤ ((x - f).natAbs : Int) then x
  else f + roundDiv ((x - f) * tcoef) 16

/-- A node that the decoder can give a value: its line and its channel are enabled and not masked (05 R124). -/
def State.nodeLive (s : State) (d c : Nat) : Bool := s.lineOn d && !s.lineMasked d && s.chanOn c

/-- A node becomes MASKED, its baseline 0x8000, when it can have no value, and NEW when it can again; NOREF, which
tells of the reference, stays (R167, R174). -/
def State.maskNode (s : State) (d c : Nat) : State :=
  let flags := s.flagsAt d c
  if s.nodeLive d c then
    if hasFlag flags Flag.masked then s.setFlags d c (flags &&& Flag.noref ||| Flag.new) else s
  else if hasFlag flags Flag.masked then s
  else ((s.setFlags d c (flags &&& Flag.noref ||| Flag.masked)).setBase d c noValue).setFilt d c 0

/-- A node, in panel coordinates, lies in the area of one of some positions: on a drive line or in a column of it. -/
def State.areaOf (s : State) (l : List Nat) (d c : Nat) : Bool :=
  l.any fun k => k = s.ownerOf d || (s.rxBase k ≤ c && c < s.rxBase k + (s.panel.map.getD k (0, 0)).2)

/-- It lies in the area of a shadowed position, which counts as masked in stages 2 to 7 (14 R380). -/
def State.shadowed (s : State) (d c : Nat) : Bool :=
  s.areaOf ((s.link.shadow.filter fun q => q.2 ≠ 0).map Prod.fst) d c

/-- Every node that can have a value becomes NEW (14 R380). -/
def State.newNodes (s : State) : State :=
  s.eachNode s.nodes fun s d c => if s.nodeLive d c then s.setFlags d c (s.flagsAt d c &&& Flag.noref ||| Flag.new) else s

/-- Whether a node has a signal in a frame: it is not MASKED, has a baseline and was measured (R174, 08 R197). -/
def State.hasSignal (s : State) (fi : FrameInfo) (d c : Nat) : Bool :=
  !hasFlag (s.flagsAt d c) Flag.masked && s.baseAt d c != noValue && s.rawAt fi.frame d c != noValue

/-- The delta of a node in the last frame that measured it (R168). -/
def State.deltaAt (s : State) (d c : Nat) : Int := aget 0 (96 * d + c) s.base.deltas
def State.setDelta (s : State) (d c : Nat) (v : Int) : State :=
  { s with base := { s.base with deltas := aput (96 * d + c) v s.base.deltas } }

/-- Stages 1 and 2 at one node. A node that no burst of the frame measured keeps baseline and flags, and one of a shadowed area
keeps NEW until its channel carries no OVL (14 R380). -/
def State.nodeA (fi : FrameInfo) (s : State) (d c : Nat) : State :=
  let pc := c + s.rxBase s.panel.pos
  let keeps := if s.shadowed d pc && decide (c ∈ fi.ovl) then Flag.new else 0
  let s := if fi.hasMutual then s.maskNode d c else s
  let raw := s.rawAt fi.frame d c
  let flags := s.flagsAt d c
  let publish (s : State) (v : Int) : State :=
    if hasFlag flags Flag.suspect then s else s.setStep fi.frame d c v
  if !fi.hasMutual || hasFlag flags Flag.masked || raw = noValue then publish s 0
  else if hasFlag flags Flag.new then
    ((((s.setBase d c raw).setFlags d c keeps).setFilt d c 0).setDelta d c 0).setStep fi.frame d c 0
  else
    let base := s.baseAt d c
    let s := s.setDelta d c (raw - base)
    let trk := fi.tag.thr c (s.inForce R.BASE_THR_TRKTH)
    let rev := fi.tag.thr c (s.inForce R.BASE_THR_REVTH)
    let drift := s.borrowed fi.frame d c (fracOf flags)
    let r := updateValue (s.updateIn fi.frame trk rev (decide (96 * d + c ∈ s.pipe.segOn)) drift) base flags raw
    let kg := if fi.mode = 1 then fi.thrsc else 16
    let j := s.inForce R.PIPE_FILT_JUMP
    let jump := if j = 0 then 0 else scaled fi.tag c j (fi.kpt * kg) 512
    let f := filterStep (s.areaOf s.pipe.lastShadow d pc) jump (s.inForce R.PIPE_FILT_TCOEF) (s.filtAt d c) (base - raw)
    let s := ((s.setBase d c r.1).setFlags d c r.2.1).setFilt d c (clampInt (-32767) 32767 f)
    if hasFlag r.2.1 Flag.suspect then s else s.setStep fi.frame d c r.2.2

/-- Stages 1 and 2 of a tile. -/
def State.tileA (s : State) (fi : FrameInfo) (t : Task) : State :=
  (if fi.hasMutual then s.retag t fi.tag else s).eachNode t.nodes (State.nodeA fi)

/-- At DISPATCH the flags of the frame before are set aside for the anchors (R171). -/
def State.keepFlags (s : State) : State :=
  let self := (List.range 256).map fun i => s.fm8 ((i / 64) * 0x40000 + 0x2A280 + i % 64)
  { s with base := { s.base with
      flags := (List.range s.ntx).flatMap (fun d => (List.range 96).map fun c => s.flagsAt d c), selfFlags := self } }

/-! ### Self-count baselines (R174) -/

/-- Count of staging entry i of the four slices in a frame's self-count buffer. -/
def State.selfCount (s : State) (frame i : Nat) : Nat :=
  s.fm16 ((i / 64) * 0x40000 + 0x2A100 + 0x80 * (frame % 2) + 2 * (i % 64))

/-- Self-count baseline and flags of a staging entry. -/
def State.selfBase (s : State) (i : Nat) : Nat := s.fm16 ((i / 64) * 0x40000 + 0x2A200 + 2 * (i % 64))
def State.setSelfBase (s : State) (i : Nat) (v : Int) : State :=
  s.setFm16 ((i / 64) * 0x40000 + 0x2A200 + 2 * (i % 64)) (unsigned16 v)
def State.selfFlags (s : State) (i : Nat) : Nat := s.fm8 ((i / 64) * 0x40000 + 0x2A280 + i % 64)
def State.setSelfFlags (s : State) (i b : Nat) : State := s.setFm8 ((i / 64) * 0x40000 + 0x2A280 + i % 64) b

/-- A count that is a value (R174, 05 R135, 06 R152). -/
def isCount (n : Nat) : Bool := n != 0 && n != 0xFFFF

/-- Staging entry of receive channel c and of TX pin p (06 R152). -/
def rxEntry (c : Nat) : Nat := 64 * (c / 24) + c % 24
def txEntry (p : Nat) : Nat := 64 * (p / 40) + 24 + p % 40

/-- Self signal of a staging entry; 0 without a count, and while the electrode is MASKED (R174, 08 R206). -/
def State.selfSignal (s : State) (frame i : Nat) : Int :=
  let n := s.selfCount frame i
  if isCount n && !hasFlag (s.selfFlags i) Flag.masked then (s.selfBase i : Int) - n else 0

/-- An electrode whose channel or line is enabled and not masked (05 R124). -/
def State.txLive (s : State) (p : Nat) : Bool :=
  let d := s.txBase s.panel.pos + p
  s.lineOn d && !s.lineMasked d

/-- A self-count baseline becomes MASKED, and reads 0x8000, when its electrode is masked or not enabled, and NEW when it is
no longer (R174). -/
def State.maskSelf (s : State) (live : Bool) (i : Nat) : State :=
  let masked := hasFlag (s.selfFlags i) Flag.masked
  if live then (if masked then s.setSelfFlags i Flag.new else s)
  else if masked then s
  else (s.setSelfBase i noValue).setSelfFlags i Flag.masked

/-- The anchors of an electrode among those of its axis: `entry` gives their staging entries, k its own place of `n`. -/
def State.selfAnchors (s : State) (frame : Nat) (entry : Nat → Nat) (n k : Nat) : List Int :=
  let r := s.inForce R.BASE_CTL_BORROWR
  let steps := if frame % 2 = 0 then s.base.selfStep1 else s.base.selfStep0
  let look (j : Nat) : Option Int :=
    let i := entry j
    if anchorFlags (s.base.selfFlags.getD i 0) && isCount (s.selfCount (frame + 1) i) then some (steps.getD i 0) else none
  [nearest (fun i => if k + i < n then look (k + i) else none) r 1,
   nearest (fun i => if i ≤ k then look (k - i) else none) r 1].filterMap id

/-- Publishes a self-count step. -/
def State.setSelfStep (s : State) (frame i : Nat) (v : Int) : State :=
  if frame % 2 = 0 then { s with base := { s.base with selfStep0 := upd s.base.selfStep0 i fun _ => v } }
  else { s with base := { s.base with selfStep1 := upd s.base.selfStep1 i fun _ => v } }

/-- The update of one electrode: place k of the n electrodes of its axis; `live`: it is enabled and not masked. -/
def State.selfUpdate (frame : Nat) (entry : Nat → Nat) (n : Nat) (live : Bool) (s : State) (k : Nat) : State :=
  let i := entry k
  let s := s.maskSelf live i
  let raw := s.selfCount frame i
  if !live || !isCount raw then s.setSelfStep frame i 0
  else if hasFlag (s.selfFlags i) Flag.new then ((s.setSelfBase i raw).setSelfFlags i 0).setSelfStep frame i 0
  else
    let flags := s.selfFlags i
    let drift := if s.inForce R.BASE_CTL_BORROWEN = 0 then (0, 0)
      else borrow (s.selfAnchors frame entry n k) (fracOf flags)
    let r := updateValue (s.updateIn frame (s.inForce R.BASE_STHR_TRKTH) (s.inForce R.BASE_STHR_REVTH) false drift)
      (s.selfBase i) flags raw
    ((s.setSelfBase i r.1).setSelfFlags i r.2.1).setSelfStep frame i r.2.2

/-- The self-count baselines of slice k, kept by its first HOUSE task (09 R235). -/
def State.selfHouse (s : State) (frame k : Nat) : State :=
  let rx := (List.range s.ownRx).filter fun c => c / 24 = k
  let tx := (List.range s.ownTx).filter fun p => p / 40 = k
  tx.foldl (fun t p => State.selfUpdate frame txEntry s.ownTx (s.txLive p) t p)
    (rx.foldl (fun t c => State.selfUpdate frame rxEntry s.ownRx (s.chanOn c) t c) s)

/-! ### Regions (R178) -/

/-- Two nodes are 8-neighbours. -/
def near (a b : Nat × Nat) : Bool :=
  decide (a ≠ b) && a.1 ≤ b.1 + 1 && b.1 ≤ a.1 + 1 && a.2 ≤ b.2 + 1 && b.2 ≤ a.2 + 1

/-- The 8-connected sets of a list of nodes. -/
def regions : List (Nat × Nat) → List (List (Nat × Nat))
  | [] => []
  | n :: t =>
    let rs := regions t
    (n :: (rs.filter fun r => r.any (near n)).flatten) :: rs.filter fun r => !r.any (near n)

/-- The largest and the smallest of a list. -/
def maxOf (l : List Nat) : Nat := l.foldl max 0
def minOf (l : List Nat) : Nat := l.foldl min (maxOf l)

/-- A region is suspect: large enough, and not a stripe (R178). -/
def suspectRegion (susmin : Nat) (r : List (Nat × Nat)) : Bool :=
  susmin ≤ r.length && minOf (r.map (·.1)) < maxOf (r.map (·.1)) && minOf (r.map (·.2)) < maxOf (r.map (·.2))

/-! ### The reference (R183) -/

/-- Reference value of a node, none where the residual is -128 or there is no record. -/
def RefRec.value (r : RefRec) (d c : Nat) : Option Int :=
  match (r.res.getD d []).getD c (-128) with
  | -128 => none
  | x => some (r.rowbias.getD d 0 + r.colbias.getD c 0 + 2 * x)

/-- The reference record in use: none where the boot found no valid one (DEVICE.BOOT.NOREF). 07 R182 does not say when a record that is
captured after such a boot comes into use: from the next boot on (DESIGN CHOICE, log 118). -/
def State.reference (s : State) : Option RefRec := if s.flag R.DEVICE_BOOT_NOREF then none else s.nvs.ref

/-- Seed baseline of a node for frame a0 (R176). -/
def State.seed (s : State) (tag : Tag) (d c : Nat) : Int :=
  match s.reference with
  | none => 0
  | some r =>
    clampInt (-32767) 32767 (roundDiv ((r.value d c).getD (r.rowbias.getD d 0 + r.colbias.getD c 0) * (tag.sigma c : Int)) 768)

/-! ### Acquisition (R175 to R182) -/

/-- An acquisition starts: the next frame is a0. -/
def State.startAcq (s : State) : State :=
  let s := (s.set R.BASE_STAT_ACQ 1).set R.BASE_STAT_BOOTFR 0
  let s := s.set R.BASE_STAT_ACQOVL 0
  { s with
    base := { s.base with acq := some 0, frames := [], newest := none, edges := [], unions := [], lifts := [] }
    link := { s.link with susOpen := s.inCascade && s.panel.pos = 0, susFrom := [], susNodes := [] } }

/-- All tiles carry a tag. -/
def State.tagAll (s : State) (t : Tag) : State :=
  { s with base := { s.base with tags :=
      (List.range ((s.ntx + 15) / 16)).flatMap fun i => (List.range 6).map fun j => (6 * i + j, t) } }

/-- At FRAME_START of a0 the seed becomes the stored baseline (R176). -/
def State.seedAll (s : State) : State :=
  if s.base.acq = some 0 then
    (s.eachNode s.nodes fun s d c => s.setBase d c (s.seed s.scan.tag d c)).tagAll s.scan.tag
  else s

/-- The decoded image and the self counts of the frame that ended. -/
def State.acqImage (s : State) : AcqFrame :=
  ⟨s.scan.tag, (List.range s.ntx).flatMap (fun d => (List.range 96).map fun c => s.rawAt s.scan.frame d c),
    (List.range 256).map (s.selfCount s.scan.frame)⟩

/-- The mean of a node over acquisition frames, in the tag of the last one, as a rounded number; no value where no
frame has one. -/
def acqMean (fs : List AcqFrame) (last : Tag) (d c : Nat) : Int :=
  let vals := fs.filterMap fun f =>
    let v := f.image.getD (96 * d + c) noValue
    if v = noValue then none else some (v, f.tag.scale c)
  if vals.isEmpty then noValue
  else
    let den := vals.foldl (fun a p => a * p.2) vals.length
    let num := sumInt (vals.map fun p => p.1 * ((den / (vals.length * p.2) * last.scale c : Nat) : Int))
    clampInt (-32767) 32767 (roundDiv num den)

/-- The mean of the counts of a staging entry; 0 where no frame has one. -/
def acqSelf (fs : List AcqFrame) (i : Nat) : Nat :=
  let l := (fs.map fun f => f.self.getD i 0).filter isCount
  if l.isEmpty then 0 else (roundDiv (sumNat l : Nat) l.length).toNat

/-- Lower middle value of a list (R177). -/
def median (l : List Int) : Int :=
  let sorted := l.foldl (fun a x => (a.filter (· ≤ x)) ++ x :: a.filter (x < ·)) []
  sorted.getD ((l.length - 1) / 2) 0

/-- The power-up check (R177): m0 in units of 1 / sigmaUnit, and the candidate nodes. -/
def State.powerUpCheck (s : State) (r : RefRec) (tag : Tag) (acq : Nat → Nat → Int) : Int × List (Nat × Nat) :=
  let ref (d c : Nat) : Int := roundDiv (((r.value d c).getD 0) * (tag.sigma c : Int)) 768
  let nodes := s.nodes.filter fun p => (r.value p.1 p.2).isSome && acq p.1 p.2 ≠ noValue
  let m0 := median (nodes.map fun p =>
    (ref p.1 p.2 - acq p.1 p.2) * ((768 * (sigmaUnit / tag.sigma p.2) : Nat) : Int))
  let m0c (c : Nat) : Int := roundDiv (m0 * (tag.sigma c : Int)) (768 * sigmaUnit)
  (m0, nodes.filter fun p => tag.thr p.2 (s.inForce R.BASE_THR_SUSTH) < ref p.1 p.2 - acq p.1 p.2 - m0c p.2)

/-- A region of this device reaches its first or last receive channel in a cascade, where ROOT judges it (R181). -/
def State.edgeRegion (s : State) (r : List (Nat × Nat)) : Bool :=
  s.inCascade && r.any fun p => p.2 = 0 || p.2 + 1 = s.ownRx

/-- The nodes of the regions that the device finds suspect by itself (R178, R181). -/
def State.localSuspects (s : State) (cand : List (Nat × Nat)) : List (Nat × Nat) :=
  ((regions cand).filter fun r => !s.edgeRegion r && suspectRegion (s.inForce R.BASE_CTL_SUSMIN) r).flatten

/-- Baseline of a suspect node (R179). -/
def suspectBase (r : RefRec) (m0 : Int) (tag : Tag) (d c : Nat) : Int :=
  let m0c := roundDiv (m0 * (tag.sigma c : Int)) (768 * sigmaUnit)
  clampInt (-32767) 32767 (roundDiv ((r.value d c).getD 0 * (tag.sigma c : Int)) 768 - m0c)

/-- A node becomes SUSPECT with its baseline and its acquired value (R179). -/
def State.makeSuspect (s : State) (d c : Nat) (base a : Int) : State :=
  let flags := s.flagsAt d c &&& Flag.noref ||| Flag.suspect
  (((s.setBase d c base).setFlags d c flags).setAcq d c a).setFilt d c (clampInt (-32767) 32767 (base - a))

/-! ### Regions at the boundaries of a cascade (R181) -/

/-- The other positions that ROOT can reach. -/
def State.reachable (s : State) : List Nat :=
  (List.range s.panel.ndev).filter fun k => k ≠ s.panel.pos && decide (k ∉ s.panel.lost) && decide (k ∉ s.link.lost)

/-- ROOT's verdict: the waiting nodes of the suspect unions become SUSPECT, in the units that their tiles have by now. -/
def State.takeVerdict (s : State) (unions : List (List (Nat × Nat))) : State :=
  let base := s.rxBase s.panel.pos
  let hit := s.base.edges.filter fun e => unions.any fun u => u.contains (e.1, e.2.1)
  let s := s.deviceWrites fun s => hit.foldl (fun s e =>
    let c := e.2.1 - base
    let v := rescale s.base.edgeTag (s.baseTagAt e.1 c) c
    if hasFlag (s.flagsAt e.1 c) Flag.masked then s else s.makeSuspect e.1 c (v e.2.2.1) (v e.2.2.2)) s
  { s with base := { s.base with edges := [], unions := s.base.unions ++ unions } }

/-- ROOT joins the regions that touch across the boundaries, and judges each union (R178, R181). -/
def State.judgeEdges (s : State) : State :=
  let unions := (regions s.link.susNodes).filter (suspectRegion (s.inForce R.BASE_CTL_SUSMIN))
  let s := { s with link := { s.link with susOpen := false, susFrom := [], susNodes := [] } }
  (s.send (.verdict unions)).takeVerdict unions

/-- A device's list of boundary nodes is at ROOT, which judges once every reachable device's is there. A list that comes
when no acquisition of the cascade is open is judged by itself (log 108). -/
def State.addSuspects (s : State) (p : Nat) (nodes : List (Nat × Nat)) : State :=
  let s := { s with link := { s.link with
      susFrom := addOnce p s.link.susFrom, susNodes := s.link.susNodes ++ nodes } }
  if !s.link.susOpen || (s.panel.pos :: s.reachable).all fun k => decide (k ∈ s.link.susFrom) then s.judgeEdges else s

/-- The candidate nodes at the boundaries wait for ROOT's verdict; a member tells ROOT of them (R181). -/
def State.tellEdges (s : State) (edges : List (Nat × Nat × Int × Int)) (tag : Tag) : State :=
  if !s.inCascade then s
  else
    let s := { s with base := { s.base with edges := edges, edgeTag := tag } }
    let nodes := edges.map fun e => (e.1, e.2.1)
    if s.panel.pos = 0 then s.addSuspects 0 nodes else s.send (.suspects nodes)

/-- The acquisition ends with frame a7 (R176 to R179, R181, R182). -/
def State.finishAcq (s : State) (last : AcqFrame) : State :=
  let fs := if s.base.frames.isEmpty then [last] else s.base.frames
  let acq (d c : Nat) : Int := acqMean fs last.tag d c
  let s := if s.base.frames.isEmpty then (s.set R.BASE_STAT_ACQOVL 1).eventFault Kind.baseAcqOvl 0 0 else s
  let check := match s.reference with
    | some r => if s.inForce R.BASE_CTL_PUCHK = 0 then none else some (r, s.powerUpCheck r last.tag acq)
    | none => none
  let cand := match check with
    | some p => p.2.2
    | none => []
  let sus := s.localSuspects cand
  let s := s.eachNode s.nodes fun s d c =>
    let a := acq d c
    let noref := match s.reference with
      | some r => if (r.value d c).isNone then Flag.noref else 0
      | none => 0
    let s := ((s.setFilt d c 0).setStep 0 d c 0).setStep 1 d c 0
    if a = noValue then
      (s.setBase d c noValue).setFlags d c ((if s.nodeLive d c then Flag.new else Flag.masked) ||| noref)
    else
      let s := (s.setBase d c a).setFlags d c noref
      match check with
      | some (r, m0, _) => if (d, c) ∈ sus then s.makeSuspect d c (suspectBase r m0 last.tag d c) a else s
      | none => s
  let s := (List.range 256).foldl (fun s i =>
    let n := acqSelf fs i
    (s.setSelfBase i n).setSelfFlags i (if n = 0 then Flag.new else 0)) s
  let s := s.tagAll last.tag
  let s := (s.set R.BASE_STAT_ACQ 0).setFlag R.BASE_STAT_NOREF s.reference.isNone
  let s := match check with
    | some (_, m0, _) => s.set R.BASE_STAT_M0 (unsigned16 (roundDiv m0 sigmaUnit))
    | none => s
  let s := { s with base := { s.base with acq := none, frames := [], newest := none, susTb := [] } }
  let edges := match check with
    | some (r, m0, _) => ((regions cand).filter s.edgeRegion).flatten.map fun p =>
        (p.1, p.2 + s.rxBase s.panel.pos, suspectBase r m0 last.tag p.1 p.2, acq p.1 p.2)
    | none => []
  s.tellEdges edges last.tag

/-- One acquisition frame has been decoded: its image becomes the seed of the next one (R176). -/
def State.acqFrame (s : State) (i : Nat) : State :=
  let f := s.acqImage
  let boot := !s.scan.ovl.isEmpty
  let s := if boot then s.set R.BASE_STAT_BOOTFR (s.get R.BASE_STAT_BOOTFR + 1) else s
  let s := { s with base := { s.base with
      frames := if boot then [] else s.base.frames ++ [f], newest := some f, acqFrame := s.scan.frame } }
  if i = 7 then s.finishAcq f
  else
    let s := (s.eachNode s.nodes fun s d c => s.setBase d c (s.rawAt s.scan.frame d c)).tagAll f.tag
    { s with base := { s.base with acq := some (i + 1) } }

/-! ### Suspect regions frame by frame (R179, R180) -/

/-- The suspect nodes. -/
def State.suspects (s : State) : List (Nat × Nat) :=
  s.nodes.filter fun p => hasFlag (s.flagsAt p.1 p.2) Flag.suspect

/-- Releases the nodes of a lifted region: SUSPECT goes, FAST comes. -/
def State.release (s : State) (r : List (Nat × Nat)) : State :=
  s.eachNode r fun s d c =>
    (s.setFlags d c (putFlag (putFlag (s.flagsAt d c) Flag.suspect false) Flag.fast true)).setAcq d c 0

/-- The nodes of a region take their acquired values as baselines and are suspect no more (R180, BASE.CMD). -/
def State.takeAcquired (s : State) (r : List (Nat × Nat)) : State :=
  s.eachNode r fun s d c =>
    let a := s.acqAt d c
    ((s.setBase d c a).setFlags d c (putFlag (s.flagsAt d c) Flag.suspect false)).setAcq d c 0

/-- A region lifts: some node of it has risen by the reverse threshold over A or over its baseline (R179). -/
def State.lifted (s : State) (fi : FrameInfo) (r : List (Nat × Nat)) : Bool :=
  r.any fun p =>
    let raw := s.rawAt fi.frame p.1 p.2
    let rev := fi.tag.thr p.2 (s.inForce R.BASE_THR_REVTH)
    decide (raw ≠ noValue) && (decide (rev ≤ raw - s.acqAt p.1 p.2) || decide (rev ≤ s.deltaAt p.1 p.2))

/-- A lift on another device has released this region, or part of it (R181). -/
def State.liftedAway (s : State) (r : List (Nat × Nat)) : Bool := r.any fun p => decide (96 * p.1 + p.2 ∈ s.base.lifts)

/-- The nodes of a region in panel coordinates. -/
def State.onPanel (s : State) (r : List (Nat × Nat)) : List (Nat × Nat) :=
  r.map fun p => (p.1, p.2 + s.rxBase s.panel.pos)

/-- A lift here releases the parts of its union on the other devices, which are told of it (R181). -/
def State.tellLift (s : State) (r : List (Nat × Nat)) : State :=
  let nodes := s.onPanel r
  if s.base.unions.any fun u => u.any fun p => decide (p ∈ nodes) then s.send (.lift nodes) else s

/-- A lift on another device: the own suspect nodes of its unions lift in the next frame (R181). -/
def State.takeLift (s : State) (nodes : List (Nat × Nat)) : State :=
  let us := s.base.unions.filter fun u => u.any fun p => decide (p ∈ nodes)
  let mine := s.suspects.filter fun p => us.any fun u => u.contains (p.1, p.2 + s.rxBase s.panel.pos)
  { s with base := { s.base with lifts := s.base.lifts ++ mine.map fun p => 96 * p.1 + p.2 } }

/-- Judges one suspect region: lift, expiry, or neither (R179, R180). -/
def State.judgeRegion (fi : FrameInfo) (s : State) (r : List (Nat × Nat)) : State :=
  let quiet := s.inForce R.BASE_STALE_SUSTMO ≠ 0 && r.all fun p =>
    1000000 * s.inForce R.BASE_STALE_SUSTMO ≤ tbDiff fi.tb (aget fi.tb (96 * p.1 + p.2) s.base.susTb)
  if s.lifted fi r then (s.release r).tellLift r
  else if s.liftedAway r then s.release r
  else if quiet then
    ((s.takeAcquired r).event 0x31 0 r.length 0 0 0).eventFault Kind.refStale 0 r.length
  else s

/-- The suspect nodes after phase A of a frame (R179, R180). -/
def State.judgeSuspects (s : State) (fi : FrameInfo) : State :=
  if !fi.hasMutual then s
  else
    let s := s.suspects.foldl (fun s p =>
      let raw := s.rawAt fi.frame p.1 p.2
      let moved := raw = noValue
        || fi.tag.thr p.2 (s.inForce R.BASE_THR_TRKTH) ≤ ((raw - s.acqAt p.1 p.2).natAbs : Int)
      let k := 96 * p.1 + p.2
      let since := if moved then adel k s.base.susTb
        else if s.base.susTb.any (fun q => q.1 = k) then s.base.susTb else aput k fi.tb s.base.susTb
      { s with base := { s.base with susTb := since } }) s
    let s := (regions s.suspects).foldl (State.judgeRegion fi) s
    { s with base := { s.base with lifts := [] } }

/-- BASE.CNT of the frame whose phase A has completed. -/
def State.countNodes (s : State) : State :=
  let n f := (s.nodes.filter fun p => hasFlag (s.flagsAt p.1 p.2) f).length
  (s.set R.BASE_CNT_SUSN (n Flag.suspect)).set R.BASE_CNT_FRZN (n Flag.frozen)

/-! ### BASE.CMD -/

/-- A BASE command as it takes effect at FRAME_START: 1 REACQUIRE, 2 REBASE_ALL, 3 CLEAR_SUSPECT. -/
def State.baseCommand (s : State) (op : Nat) : State :=
  match op with
  | 1 => { s.startAcq with pipe := { s.startAcq.pipe with cancelAll := true } }
  | 2 => s.eachNode s.nodes fun s d c =>
      let b := s.flagsAt d c
      if hasFlag b Flag.masked then s else s.setFlags d c (putFlag b Flag.fast true)
  | 3 => s.takeAcquired s.suspects
  | _ => s

/-- The BASE commands that wait take effect. -/
def State.baseCommands (s : State) : State :=
  let l := s.base.cmds
  l.foldl State.baseCommand { s with base := { s.base with cmds := [] } }

/-- A write of BASE.CMD (07): REACQUIRE before DONE is rejected with PSTAT.WRERR. -/
def State.baseWrite (s : State) (op : Nat) : State :=
  if op = 1 && s.get R.DEVICE_BOOT_STAGE ≠ 7 then s.wrerr 0x18 0x30
  else if op = 0 then s
  else { s with base := { s.base with cmds := s.base.cmds ++ [op] } }

end Sys2Proof.Machine
end

