-- ==== Sys2Proof/Machine/Crypto.lean ====
section
/-!
DEFINITION. The checks of an Ibolo image: CRC-32, SHA-256 and ECDSA over P-256
(spec/03_startup_and_nonvolatile_store.md R76, R77).
-/

namespace Sys2Proof.Machine

/-! ### CRC-32 (03 R76) -/

/-- One byte into the reflected CRC-32 of IEEE 802.3. -/
def crc32Step (crc : Nat) (b : Byte) : Nat :=
  (List.range 8).foldl (fun c _ => if c % 2 = 1 then (c / 2) ^^^ 0xEDB88320 else c / 2) (crc ^^^ b.toNat)

/-- CRC-32: polynomial 0x04C11DB7 reflected, initial value and final XOR 0xFFFFFFFF. -/
def crc32 (l : List Byte) : Nat := l.foldl crc32Step 0xFFFFFFFF ^^^ 0xFFFFFFFF

/-! ### SHA-256 -/

/-- The `n` words of 32 bits that a number spells, the most significant one first. -/
def wordsOf : Nat → Nat → List (BitVec 32)
  | 0, _ => []
  | n + 1, v => BitVec.ofNat 32 (v >>> (32 * n)) :: wordsOf n v

/-- The round constants, eight to a row. -/
def shaRows : List Nat :=
  [0x428a2f9871374491b5c0fbcfe9b5dba53956c25b59f111f1923f82a4ab1c5ed5,
   0xd807aa9812835b01243185be550c7dc372be5d7480deb1fe9bdc06a7c19bf174,
   0xe49b69c1efbe47860fc19dc6240ca1cc2de92c6f4a7484aa5cb0a9dc76f988da,
   0x983e5152a831c66db00327c8bf597fc7c6e00bf3d5a7914706ca635114292967,
   0x27b70a852e1b21384d2c6dfc53380d13650a7354766a0abb81c2c92e92722c85,
   0xa2bfe8a1a81a664bc24b8b70c76c51a3d192e819d6990624f40e3585106aa070,
   0x19a4c1161e376c082748774c34b0bcb5391c0cb34ed8aa4a5b9cca4f682e6ff3,
   0x748f82ee78a5636f84c878148cc7020890befffaa4506cebbef9a3f7c67178f2]

/-- The working registers: A to D, and E to H. A round pushes one word into each half. -/
structure ShaRegs where
  upper : List (BitVec 32)
  lower : List (BitVec 32)

/-- The registers before the first block. -/
def shaStart : ShaRegs :=
  ⟨wordsOf 4 0x6a09e667bb67ae853c6ef372a54ff53a, wordsOf 4 0x510e527f9b05688c1f83d9ab5be0cd19⟩

/-- The exclusive or of a word turned right by each of some distances. -/
def turned (x : BitVec 32) (l : List Nat) : BitVec 32 := l.foldl (fun a n => a ^^^ x.rotateRight n) 0

/-- One message word or register of a list. -/
def pick (l : List (BitVec 32)) (i : Nat) : BitVec 32 := l.getD i 0

/-- The message padded to whole blocks of 64 bytes. -/
def shaPad (l : List Byte) : List Byte :=
  let z := (119 - l.length % 64) % 64
  l ++ 0x80#8 :: List.replicate z 0#8 ++ (toBytes 8 (8 * l.length)).reverse

/-- The word that follows sixteen message words, the oldest of which stands first. -/
def shaNext (w : List (BitVec 32)) : BitVec 32 :=
  let new := pick w 14
  let old := pick w 1
  pick w 0 + pick w 9 + (turned new [17, 19] ^^^ new >>> 10) + (turned old [7, 18] ^^^ old >>> 3)

/-- A round under its constant and its message word. -/
def shaRound (r : ShaRegs) (k w : BitVec 32) : ShaRegs :=
  let a := pick r.upper 0
  let e := pick r.lower 0
  let chosen := pick r.lower 2 ^^^ (e &&& (pick r.lower 1 ^^^ pick r.lower 2))
  let most := (a &&& (pick r.upper 1 ||| pick r.upper 2)) ||| (pick r.upper 1 &&& pick r.upper 2)
  let sum := turned e [6, 11, 25] + chosen + pick r.lower 3 + w + k
  ⟨(turned a [2, 13, 22] + most + sum) :: r.upper.take 3, (pick r.upper 3 + sum) :: r.lower.take 3⟩

/-- The rounds under a list of constants; sixteen message words stand ready at each. -/
def shaRounds : List (BitVec 32) → List (BitVec 32) → ShaRegs → ShaRegs
  | [], _, r => r
  | k :: t, w, r => shaRounds t (w.drop 1 ++ [shaNext w]) (shaRound r k (pick w 0))

/-- One block of 64 bytes, as a number with its first byte most significant, into the registers. -/
def shaBlock (r : ShaRegs) (block : Nat) : ShaRegs :=
  let q := shaRounds (shaRows.flatMap (wordsOf 8)) (wordsOf 16 block) r
  ⟨r.upper.zipWith (· + ·) q.upper, r.lower.zipWith (· + ·) q.lower⟩

/-- The number that bytes spell, the first one most significant. -/
def bigNum (l : List Byte) : Nat := l.foldl (fun a b => 256 * a + b.toNat) 0

/-- The first `n` blocks of a padded message. -/
def shaBlocks : Nat → List Byte → ShaRegs → ShaRegs
  | 0, _, r => r
  | n + 1, l, r => shaBlocks n (l.drop 64) (shaBlock r (bigNum (l.take 64)))

/-- SHA-256 as a number, its first byte most significant. -/
def sha256 (l : List Byte) : Nat :=
  let m := shaPad l
  let r := shaBlocks (m.length / 64) m shaStart
  (r.upper ++ r.lower).foldl (fun a x => (a <<< 32) + x.toNat) 0

/-! ### ECDSA over P-256 -/

/-- The field prime, the curve's b, the base point and its order. -/
def p256p : Nat := 0xFFFFFFFF00000001000000000000000000000000FFFFFFFFFFFFFFFFFFFFFFFF
def p256b : Nat := 0x5AC635D8AA3A93E7B3EBBD55769886BC651D06B0CC53B0F63BCE3C3E27D2604B
def p256gx : Nat := 0x6B17D1F2E12C4247F8BCE6E563A440F277037D812DEB33A0F4A13945D898C296
def p256gy : Nat := 0x4FE342E2FE1A7F9B8EE7EB4A7C0F9E162BCE33576B315ECECBB6406837BF51F5
def p256n : Nat := 0xFFFFFFFF00000000FFFFFFFFFFFFFFFFBCE6FAADA7179E84F3B9CAC2FC632551

/-- `a` to the power `e` modulo `m`, for an exponent of at most `k` bits. -/
def powMod (m : Nat) : Nat → Nat → Nat → Nat
  | 0, _, _ => 1 % m
  | k + 1, a, e =>
    let r := powMod m k (a * a % m) (e / 2)
    if e % 2 = 1 then a * r % m else r

/-- The inverse modulo a prime. -/
def invMod (m a : Nat) : Nat := powMod m 256 (a % m) (m - 2)

/-- The sum of two points; none is the point at infinity. -/
def p256add : Option (Nat × Nat) → Option (Nat × Nat) → Option (Nat × Nat)
  | none, q => q
  | p, none => p
  | some (x1, y1), some (x2, y2) =>
    let p := p256p
    if x1 = x2 && (y1 + y2) % p = 0 then none
    else
      let l := if x1 = x2 then (3 * x1 * x1 + p - 3) % p * invMod p (2 * y1) % p
        else (y2 + p - y1) % p * invMod p ((x2 + p - x1) % p) % p
      let x3 := (l * l + 2 * p - x1 - x2) % p
      some (x3, (l * ((x1 + p - x3) % p) + p - y1) % p)

/-- A multiple of a point, for a factor of at most `k` bits. -/
def p256mul : Nat → Nat → Option (Nat × Nat) → Option (Nat × Nat)
  | 0, _, _ => none
  | k + 1, n, q =>
    let r := p256mul k (n / 2) (p256add q q)
    if n % 2 = 1 then p256add q r else r

/-- Whether a point lies on the curve. -/
def p256on (x y : Nat) : Bool :=
  x < p256p && y < p256p && y * y % p256p = (x * x * x + (p256p - 3) * x + p256b) % p256p

/-- Whether (r, s) is a signature of the digest under the key (x, y). -/
def ecdsaVerify (x y digest r s : Nat) : Bool :=
  p256on x y && 0 < r && r < p256n && 0 < s && s < p256n &&
    let w := invMod p256n s
    let q := p256add (p256mul 256 (digest * w % p256n) (some (p256gx, p256gy)))
      (p256mul 256 (r * w % p256n) (some (x, y)))
    match q with
    | none => false
    | some (qx, _) => qx % p256n = r

end Sys2Proof.Machine
end

