-- ==== Sys2Proof/Machine/Nvs.lean ====
section
/-!
DEFINITION. The non-volatile store: lines, image verification, the NVS commands, the configuration region with its
relocation, and the persistent log (spec/03_startup_and_nonvolatile_store.md R73 to R88, spec/17 R440, R441).
-/

namespace Sys2Proof.Machine

/-! ### Lines and regions (03 R73) -/

/-- Store address of bank b. -/
def bankBase (b : Nat) : Nat := b * 0x20000

/-- Line number of a bank's state line. -/
def stateLine (b : Nat) : Nat := b * 4096 + 4095

/-- Whether a line lies in the configuration region, the factory calibration or the log. -/
def lineReserved (l : Nat) : Bool := (8192 ≤ l && l < 14332) || 14336 ≤ l

/-- The owner-key line of a line number, 0 to 3. -/
def keyLine (l : Nat) : Option Nat := if 14332 ≤ l && l < 14336 then some (l - 14332) else none

/-- The 32 bytes of a line outside the configuration region. -/
def State.lineBytes (s : State) (l : Nat) : List Byte := Memory.readList s.nvs.cells (32 * l) 32

/-- Programs a line; it holds no check-bit error afterwards. -/
def State.writeLine (s : State) (l : Nat) (data : List Byte) : State :=
  { s with nvs := { s.nvs with
      cells := Memory.writeList s.nvs.cells (32 * l) (data.take 32)
      torn := s.nvs.torn.filter (· ≠ l)
      spoilt := s.nvs.spoilt.filter (· ≠ l)
      soft := s.nvs.soft.filter (· ≠ l) } }

/-- Bits flip in some lines: a line with one wrong bit in a word is corrected at each read until it is programmed again,
one with two is uncorrectable (R73; log 100). -/
def State.flip (s : State) (e : BitErrors) : State :=
  { s with nvs := { s.nvs with
      soft := e.one.foldl (fun l n => addOnce n l) s.nvs.soft
      torn := e.two.foldl (fun l n => addOnce n l) s.nvs.torn } }

/-- The device reads a line: a corrected error counts in NVS.STAT.CORR, and an uncorrectable one raises NVS_ECC (03 R74). -/
def State.readCheck (s : State) (l : Nat) : State :=
  if l ∈ s.nvs.torn then s.eventFault Kind.nvsEcc l 0
  else if l ∈ s.nvs.soft then s.sat R.NVS_STAT_CORR else s

/-- The device reads some lines, one after the other. -/
def State.readLines (s : State) (l : List Nat) : State := l.foldl State.readCheck s

/-- The device reads all lines from `lo` to below `hi`; only those with an error leave a trace. -/
def State.readRegion (s : State) (lo hi : Nat) : State :=
  s.readLines ((List.range (hi - lo)).map (· + lo) |>.filter fun l => decide (l ∈ s.nvs.torn) || decide (l ∈ s.nvs.soft))

/-! ### Bank state lines (03 R78) -/

/-- CONFIRMED of a bank. -/
def State.bankConfirmed (s : State) (b : Nat) : Bool := bit (Memory.read s.nvs.cells (32 * stateLine b)).toNat 0

/-- REJECTED of a bank. -/
def State.bankRejected (s : State) (b : Nat) : Bool := bit (Memory.read s.nvs.cells (32 * stateLine b)).toNat 1

/-- TRIES of a bank. -/
def State.bankTries (s : State) (b : Nat) : Nat := (Memory.read s.nvs.cells (32 * stateLine b + 1)).toNat % 4

/-- Writes a bank's state line. -/
def State.setBankState (s : State) (b : Nat) (confirmed rejected : Bool) (tries : Nat) : State :=
  s.writeLine (stateLine b)
    (byteOf (b2n confirmed + 2 * b2n rejected) :: byteOf tries :: List.replicate 30 0)

/-! ### Image verification (03 R75 to R77) -/

/-- A 32-bit header field of a bank's image. -/
def State.img32 (s : State) (b off : Nat) : Nat := ofBytes (Memory.readList s.nvs.cells (bankBase b + off) 4)

/-- A 16-bit header field of a bank's image. -/
def State.img16 (s : State) (b off : Nat) : Nat := ofBytes (Memory.readList s.nvs.cells (bankBase b + off) 2)

/-- Whether two sections, each an offset and a length, overlap; an empty one overlaps nothing. -/
def sectionsOverlap (a b : Nat × Nat) : Bool := a.2 ≠ 0 && b.2 ≠ 0 && a.1 < b.1 + b.2 && b.1 < a.1 + a.2

/-- The header and section checks of R75; an uncorrectable line of the header fails them (R74). -/
def State.imageFormatOk (s : State) (b : Nat) : Bool :=
  let len := s.img32 b 0x08
  let iram := (s.img32 b 0x18, s.img32 b 0x1C)
  let defs := (s.img32 b 0x20, s.img32 b 0x24)
  let ext := (s.img32 b 0x28, s.img32 b 0x2C)
  !(s.nvs.torn.any fun l => l / 2 = 2048 * b) && s.img32 b 0 = 0x4F4C4249 && s.img16 b 4 = 1 && s.img16 b 6 / 4 = 0
    && 64 ≤ len && len ≤ 131040 && len % 32 = 0 && s.img16 b 0x16 = 0
    && iram.2 ≤ 65536 && iram.1 + iram.2 ≤ len && defs.1 + defs.2 ≤ len && ext.1 + ext.2 ≤ len
    && !sectionsOverlap iram defs && !sectionsOverlap iram ext && !sectionsOverlap defs ext
    && s.img32 b 0x30 = 0 && s.img32 b 0x34 = 0 && s.img32 b 0x38 = 0

/-- SIGNED and KEYIDX of an image. -/
def State.imageSigned (s : State) (b : Nat) : Bool := bit (s.img16 b 6) 0
def State.imageKey (s : State) (b : Nat) : Nat := s.img16 b 6 / 2 % 2

/-- The first `n` bytes of an image with its CRC field taken as 0. -/
def State.imageNoCrc (s : State) (b n : Nat) : List Byte :=
  let l := Memory.readList s.nvs.cells (bankBase b) n
  l.take 0x3C ++ List.replicate (min 4 (n - 0x3C)) 0 ++ l.drop 0x40

/-- The CRC-32 check of R76. A line of the image that is uncorrectable, or was interrupted, fails it (R74; log 61). -/
def State.imageCrcOk (s : State) (b : Nat) : Bool :=
  let len := s.img32 b 0x08
  !((s.nvs.torn ++ s.nvs.spoilt).any fun l => decide (4096 * b ≤ l ∧ l < 4096 * b + len / 32)) && crc32 (s.imageNoCrc b (if s.imageSigned b then len - 64 else len)) = s.img32 b 0x3C

/-- Both lines of owner key k are programmed (03 R77). -/
def State.keyReady (s : State) (k : Nat) : Bool := (2 * k) ∈ s.nvs.keyLines && (2 * k + 1) ∈ s.nvs.keyLines

/-- A signature is required (03 R77). -/
def State.keyReq (s : State) : Bool := s.keyReady 0 || s.keyReady 1

/-- The signature check of R77. A key with an uncorrectable line verifies nothing (R74; log 100). -/
def State.imageSigOk (s : State) (b : Nat) : Bool :=
  let len := s.img32 b 0x08
  let k := s.imageKey b
  let num a := ofBytes (Memory.readList s.nvs.cells a 32)
  let e := bankBase b + len - 64
  s.imageSigned b && s.keyReady k && decide (14332 + 2 * k ∉ s.nvs.torn) && decide (14333 + 2 * k ∉ s.nvs.torn) &&
    ecdsaVerify (num (0x6FF80 + 64 * k)) (num (0x6FFA0 + 64 * k))
      (sha256 (Memory.readList s.nvs.cells (bankBase b) (len - 64))) (num e) (num (e + 32))

/-- The lines of a bank's image that its verification reads: the header, and the whole image where the header passes. -/
def State.imageLines (s : State) (b : Nat) : List Nat :=
  (List.range (if s.imageFormatOk b then s.img32 b 0x08 / 32 else 2)).map (· + 4096 * b)

/-- The first uncorrectable line that a verification of a bank meets. -/
def State.tornIn (s : State) (b : Nat) : Option Nat := (s.imageLines b).find? fun l => decide (l ∈ s.nvs.torn)

/-- The result of the checks of R75 to R77 on a bank: 0 OK, 5 FORMAT, 6 CRC, 7 SIG, 8 ECC. -/
def State.verifyImage (s : State) (b : Nat) : Nat :=
  if (s.tornIn b).isSome then 8
  else if !s.imageFormatOk b then 5
  else if !s.imageCrcOk b then 6
  else if s.keyReq && !s.imageSigOk b then 7
  else 0

/-- What the reading of a bank's image leaves: corrected errors count, and it ends at the first uncorrectable line, which
raises NVS_ECC (R74). -/
def State.imageRead (s : State) (b : Nat) : State :=
  let n := match s.tornIn b with
    | some l => l - 4096 * b + 1
    | none => (s.imageLines b).length
  s.readRegion (4096 * b) (4096 * b + n)

/-- What a verification's reading leaves: the image, and the lines of the key, where the signature is checked (R74, R77). -/
def State.verifyRead (s : State) (b : Nat) : State :=
  let t := s.imageRead b
  let k := s.imageKey b
  if (s.tornIn b).isNone && s.imageFormatOk b && s.imageCrcOk b && s.keyReq && s.imageSigned b && s.keyReady k
  then t.readLines [14332 + 2 * k, 14333 + 2 * k] else t

/-- Updates SEQA or SEQB from a bank's header. -/
def State.updateSeq (s : State) (b : Nat) : State :=
  s.set (if b = 0 then R.NVS_SEQA else R.NVS_SEQB) (if s.imageFormatOk b then s.img32 b 0x0C else 0)

/-- Marks whether a bank is valid. -/
def State.setValid (s : State) (b : Nat) (v : Bool) : State :=
  if b = 0 then { s with nvs := { s.nvs with validA := v } } else { s with nvs := { s.nvs with validB := v } }

/-! ### The configuration region (03 R83 to R87) -/

/-- Bytes of a reference record's body: row biases, column biases, residuals (03 R85). -/
def RefRec.body (r : RefRec) : List Byte :=
  (r.rowbias.flatMap fun x => toBytes 2 (unsigned16 x)) ++ (r.colbias.flatMap fun x => toBytes 2 (unsigned16 x))
    ++ (r.res.flatMap fun row => row.map fun x => byteOf (x % 256).toNat)

/-- First line of slot k of the configuration region. -/
def slotLine (k : Nat) : Nat := 8192 + 256 * k

/-- The header line of a slot (R83). -/
def headerLine (type seq idx count : Nat) : List Byte := (List.range 32).map (Config.headerByte type seq idx count)

/-- The seal line over a slot's header and body: it carries their CRC-32 (R83). -/
def sealLine (l : List Byte) : List Byte := (List.range 32).map (Config.sealByte (crc32 l))

/-- Line `i` of a slot with a header line and a body of 254 lines. -/
def recordLine (header body : List Byte) (i : Nat) : List Byte :=
  if i = 0 then header
  else if i < 255 then (body.drop (32 * (i - 1))).take 32
  else sealLine (header ++ body)

/-- Line `i` of a configuration record's slot. -/
def CfgRec.line (r : CfgRec) (i : Nat) : List Byte :=
  recordLine (headerLine 0 r.seq 0 1) ((List.range 8128).map (Config.configByte r.fmt r.vals)) i

/-- Line `i` of slot `idx` of a reference record of `count` slots. -/
def RefRec.line (r : RefRec) (idx count i : Nat) : List Byte :=
  let b := (r.body.drop (8128 * idx)).take 8128
  recordLine (headerLine 1 r.seq idx count) (b ++ (List.range (8128 - b.length)).map (Config.spareByte r.seq)) i

/-- The line that a record being written programs next, and what it will hold. -/
def RefWrite.line (w : RefWrite) : Nat × List Byte :=
  let i := 256 * w.slots.length - w.left
  (slotLine (w.slots.getD (i / 256) 0) + i % 256, w.content.line (i / 256) w.slots.length (i % 256))

/-- A slot is sealed and its CRC-32 is correct (R83). -/
def State.slotSound (s : State) (k : Nat) : Bool :=
  !((s.nvs.torn ++ s.nvs.spoilt).any fun l => l / 256 = slotLine k / 256)
    && s.lineBytes (slotLine k + 255) = sealLine (Memory.readList s.nvs.cells (32 * slotLine k) 8160)

/-- Slots that a reference record of a panel takes: header and seal lines, biases and residuals (03 R85). -/
def refSlots (ntx nrx : Nat) : Nat := ceilDiv (2 * ntx + 2 * nrx + ntx * nrx) 8128

/-- The sequence number of a slot's record; 0 for a slot that holds none. -/
def Slot.seq : Slot → Nat
  | .config r => r.seq
  | .reference q _ _ => q
  | _ => 0

/-- Index of the last slot of the newest record; the search for free slots starts after it. Where the region holds no
record R84 gives no start: the model starts at slot 0 (DESIGN CHOICE, log 104). -/
def State.newestSlot (s : State) : Nat :=
  let top := (s.nvs.slots.map Slot.seq).foldl max 0
  if top = 0 then 15
  else ((List.range 16).filter fun k => (s.nvs.slots.getD k .free).seq = top).foldl
    (fun a k => match s.nvs.slots.getD k .free with
      | .reference _ i n => if i + 1 = n then k else a
      | _ => k) 15

/-- The free slots in the order in which a new record takes them (03 R84). -/
def State.freeSlots (s : State) : List Nat :=
  ((List.range 16).map fun i => (s.newestSlot + 1 + i) % 16).filter fun k => s.nvs.slots.getD k .free = .free

/-- Sets one slot. -/
def State.setSlot (s : State) (k : Nat) (v : Slot) : State :=
  { s with nvs := { s.nvs with slots := upd s.nvs.slots k fun _ => v } }

/-- Claims slots for a record being written. -/
def State.claim (s : State) : List Nat → State
  | [] => s
  | k :: t => (s.setSlot k .claimed).claim t

/-- Frees every slot for which a condition holds. -/
def State.freeWhere (s : State) (p : Slot → Bool) : State :=
  { s with nvs := { s.nvs with slots := s.nvs.slots.map fun v => if p v then .free else v } }

/-- A slot of a configuration record; a slot of a reference record; a claimed slot. -/
def Slot.isConfig : Slot → Bool
  | .config _ => true
  | _ => false
def Slot.isReference : Slot → Bool
  | .reference _ _ _ => true
  | _ => false
def Slot.isClaimed : Slot → Bool
  | .claimed => true
  | _ => false

/-- NVS.CFGSEQ follows a record that becomes live: the newest sequence number of either type. -/
def State.newSeq (s : State) (q : Nat) : State := s.set R.NVS_CFGSEQ (max (s.get R.NVS_CFGSEQ) q)

/-- The sequence number of a new record: one more than that of any record, those being written included (R83, R84). -/
def State.nextSeq (s : State) : Nat :=
  let w (o : Option RefWrite) : Nat := match o with
    | some r => r.content.seq
    | none => 0
  max (s.get R.NVS_CFGSEQ) (max (w s.nvs.cap) (max (w s.nvs.reloc) (match s.nvs.job with
    | some ⟨.saveConfig _ r, _⟩ => r.seq
    | _ => 0))) + 1

/-- The slots of a sealed record, and its sequence number. -/
def Sealed.slots : Sealed → List Nat
  | .config k _ => [k]
  | .reference l _ => l
def Sealed.seq : Sealed → Nat
  | .config _ r => r.seq
  | .reference _ r => r.seq
def Sealed.isConfig : Sealed → Bool
  | .config _ _ => true
  | .reference _ _ => false

/-- The header line of slot `i` of a sealed record. -/
def Sealed.header (q : Sealed) (i : Nat) : List Byte :=
  headerLine (if q.isConfig then 0 else 1) q.seq i q.slots.length

/-- A record is valid: all of its slots still hold it, sealed and with a correct CRC-32 (R83). -/
def State.sealedSound (s : State) (q : Sealed) : Bool :=
  (q.slots.zip (List.range q.slots.length)).all fun p => s.slotSound p.1 && s.lineBytes (slotLine p.1) = q.header p.2

/-- A record's last seal is programmed: what its slots held before is gone. -/
def State.sealRecord (s : State) (q : Sealed) : State :=
  { s with nvs := { s.nvs with records := q :: s.nvs.records.filter fun r => !(r.slots.any fun k => decide (k ∈ q.slots)) } }

/-- The newest valid record of a type (R83). -/
def State.newestSealed (s : State) (config : Bool) : Option Sealed :=
  (s.nvs.records.filter fun q => q.isConfig = config && s.sealedSound q).foldl
    (fun a q => match a with
      | none => some q
      | some p => if p.seq < q.seq then some q else a) none

/-- Makes a written reference record live in its slots; the record it replaces becomes free (03 R84). -/
def State.liveReference (s : State) (slots : List Nat) (r : RefRec) : State :=
  let s := (s.freeWhere Slot.isReference).sealRecord (.reference slots r)
  let n := slots.length
  let s := (slots.zip (List.range n)).foldl (fun s p => s.setSlot p.1 (.reference r.seq p.2 n)) s
  let s := { s with nvs := { s.nvs with ref := some r } }
  ((s.set R.NVS_CFG_REFFIRST (slots.headD 0)).set R.NVS_CFG_REFLEN n).newSeq r.seq

/-- Makes a written configuration record live. After every 65,536th save a relocation of the reference is owed (R86). -/
def State.liveConfig (s : State) (k : Nat) (r : CfgRec) : State :=
  let s := ((s.freeWhere Slot.isConfig).setSlot k (.config r)).sealRecord (.config k r)
  let n := s.nvs.saves + 1
  let s := { s with nvs := { s.nvs with
    saves := n, relocOwed := s.nvs.relocOwed || (n % 65536 = 0 && s.nvs.ref.isSome) } }
  (s.set R.NVS_CFG_CFGSLOT k).newSeq r.seq

/-- The newest valid configuration record. -/
def State.configRecord (s : State) : Option CfgRec :=
  s.nvs.slots.foldl (fun a v => match v with
    | .config r => (match a with
      | some b => if b.seq < r.seq then some r else a
      | none => some r)
    | _ => a) none

/-- Frees the slots that a record being written has claimed. -/
def State.freeSlotsOf (s : State) (w : RefWrite) : State := w.slots.foldl (fun s k => s.setSlot k .free) s

/-- A reference capture is commanded: a relocation that runs is abandoned and its slots are free (03 R86). It is not begun
again before the next 65,536th save, for the capture's record moves the reference (DESIGN CHOICE, log 104). -/
def State.abandonReloc (s : State) : State :=
  match s.nvs.reloc with
  | none => s
  | some r =>
    let s := s.freeSlotsOf r
    ({ s with nvs := { s.nvs with reloc := none, relocOwed := false } }).set R.NVS_CFG_RELOC 0

/-- A command ends with a result. -/
def State.nvsResult (s : State) (r : Nat) : State := (s.set R.NVS_STAT_BUSY 0).set R.NVS_STAT_RESULT r

/-- The bank of a line, 0 A and 1 B. -/
def lineBank (l : Nat) : Option Nat := if l < 8192 then some (l / 4096) else none

/-- Places 32 bytes in NVS.RBUF. -/
def State.setRbuf (s : State) (l : List Byte) : State :=
  (List.range 8).foldl (fun s i => s.set (R.NVS_RBUF i) (ofBytes ((l.drop (4 * i)).take 4))) s

/-! ### Line programs (03 R73, R87) -/

/-- A line program starts. -/
def State.startLine (s : State) (o : LineOwner) (l : Nat × List Byte) : State :=
  { s with nvs := { s.nvs with prog := some ⟨o, l.1, l.2⟩ } }

/-- The bytes of a bank's state line (R78). -/
def stateBytes (confirmed rejected : Bool) (tries : Nat) : List Byte :=
  byteOf (b2n confirmed + 2 * b2n rejected) :: byteOf tries :: List.replicate 30 0

/-- The line that a command programs next; none for a command that reads. -/
def State.jobLine (s : State) (j : Job) : Option (Nat × List Byte) :=
  match j.kind with
  | .programLine l d => some (l, d)
  | .stateLine b c => some (stateLine b, stateBytes c (s.bankRejected b) (s.bankTries b))
  | .saveConfig k r => some (slotLine k + (256 - j.left), r.line (256 - j.left))
  | .readLine _ => none
  | .verifyBank _ => none

/-- READ_LINE: the line into RBUF, RESULT OK, or ECC where the line has an uncorrectable error. -/
def State.nvsRead (s : State) (l : Nat) : State :=
  let s := s.readCheck l
  if l ∈ s.nvs.torn then s.nvsResult 8 else (s.setRbuf (s.lineBytes l)).nvsResult 0

/-- VERIFY_BANK. Of an ADDR outside both banks R81 gives no result: the model ends with RANGE (DESIGN CHOICE, log 104). -/
def State.nvsVerify (s : State) (l : Nat) : State :=
  match lineBank l with
  | none => s.nvsResult 2
  | some b =>
    let r := s.verifyImage b
    (((s.verifyRead b).updateSeq b).setValid b (r = 0)).nvsResult r

/-- A command that only reads runs, where no line is being programmed. -/
def State.serveRead (s : State) : State :=
  if s.nvs.prog.isSome then s
  else
    match s.nvs.job with
    | some ⟨.readLine l, _⟩ => ({ s with nvs := { s.nvs with job := none } }).nvsRead l
    | some ⟨.verifyBank l, _⟩ => ({ s with nvs := { s.nvs with job := none } }).nvsVerify l
    | _ => s

/-- The next line program starts, unless one runs or a lockout forbids it (02 R53): a command's line first, then a
capture's (the order of foreground requests is a DESIGN CHOICE, log 104), and a background line only where no foreground
request is pending and no power-state entry is being voted (R87). -/
def State.startNext (s : State) : State :=
  if s.nvs.prog.isSome || s.sup.lockout then s
  else
    match s.nvs.job.bind s.jobLine, s.nvs.cap, s.nvs.reloc with
    | some l, _, _ => s.startLine .command l
    | none, some w, _ => s.startLine .capture w.line
    | none, none, some w =>
      if s.flt.plWait.isEmpty && s.pow.voting.isNone then (s.startLine .background w.line).set R.NVS_STAT_BG 1 else s
    | none, none, none => s

/-- The store controller goes on after a change: a command that reads, then the next line. -/
def State.storeGoes (s : State) : State := s.serveRead.startNext

/-- A command starts; it waits for a line program that runs (R87). -/
def State.startJob (s : State) (k : JobKind) (lines : Nat) : State :=
  (({ s with nvs := { s.nvs with job := some ⟨k, lines⟩ } }).set R.NVS_STAT_BUSY 1).storeGoes

/-- What a command leaves once its last line is programmed. -/
def State.jobDone (s : State) : JobKind → State
  | .programLine l _ =>
    let s := if l % 4096 = 0 && l < 8192 then s.setBankState (l / 4096) false false 0 else s
    match keyLine l with
    | some k =>
      let s := { s with nvs := { s.nvs with keyLines := addOnce k s.nvs.keyLines } }
      s.setFlag R.NVS_STAT_KEYREQ s.keyReq
    | none => s
  | .stateLine _ _ => s.set R.DEVICE_BOOT_TRIAL 0
  | .saveConfig k r => s.liveConfig k r
  | _ => s

/-- A command whose line program fails leaves the slot that it claimed. -/
def State.jobFails (s : State) : JobKind → State
  | .saveConfig k _ => s.setSlot k .free
  | _ => s

/-- A line of the running command is complete. -/
def State.commandLine (s : State) (result : Nat) : State :=
  match s.nvs.job with
  | none => s
  | some j =>
    let t := { s with nvs := { s.nvs with job := none } }
    if result ≠ 0 then (t.jobFails j.kind).nvsResult result
    else if j.left ≤ 1 then (t.jobDone j.kind).nvsResult 0
    else { s with nvs := { s.nvs with job := some { j with left := j.left - 1 } } }

/-- A line of a capture's record is complete; a failed one discards the record. -/
def State.captureLine (s : State) (result : Nat) : State :=
  match s.nvs.cap with
  | none => s
  | some w =>
    let t := { s with nvs := { s.nvs with cap := none } }
    if result ≠ 0 then t.freeSlotsOf w
    else if w.left ≤ 1 then t.liveReference w.slots w.content
    else { s with nvs := { s.nvs with cap := some { w with left := w.left - 1 } } }

/-- A background line is complete; a failed one ends the relocation, which stays owed. -/
def State.relocLine (s : State) (result : Nat) : State :=
  let s := s.set R.NVS_STAT_BG 0
  match s.nvs.reloc with
  | none => s
  | some w =>
    let t := ({ s with nvs := { s.nvs with reloc := none } }).set R.NVS_CFG_RELOC 0
    if result ≠ 0 then t.freeSlotsOf w
    else if w.left ≤ 1 then
      ({ t with nvs := { t.nvs with relocOwed := false } }).liveReference w.slots w.content
    else { s with nvs := { s.nvs with reloc := some { w with left := w.left - 1 } } }

/-- 32 bytes that the spec leaves open, from the counter `c` on (log 61). -/
def openLine (c : Nat) : List Byte := (List.range 8).flatMap fun i => toBytes 4 (Config.freeValue (c + i)).toNat

/-- A line whose program is interrupted, or fails, holds open data. It has an uncorrectable check-bit error, or in an image
or a record it may fail the CRC-32 instead; an open value decides (R74; log 61). -/
def Store.spoil (n : Store) (c l : Nat) : Store :=
  let n := { n with cells := Memory.writeList n.cells (32 * l) (openLine c) }
  if l < 12288 && l ≠ 4095 && l ≠ 8191 && (Config.freeValue (c + 8)).getLsbD 0
  then { n with spoilt := addOnce l n.spoilt, torn := n.torn.filter (· ≠ l) }
  else { n with torn := addOnce l n.torn }

/-- The line program under way ends with a result, 0 for OK (R87): its line holds its data, or is spoilt. -/
def State.endLine (s : State) (result : Nat) : State :=
  match s.nvs.prog with
  | none => s
  | some p =>
    let s := { s with nvs := { s.nvs with prog := none } }
    let s := if result = 0 then s.writeLine p.line p.data
      else { s with nvs := s.nvs.spoil s.free p.line, free := s.free + 9 }
    match p.owner with
    | .background => s.relocLine result
    | .command => s.commandLine result
    | .capture => s.captureLine result

/-- The line program under way ends, and what waits goes on (R87). -/
def State.lineDone (s : State) (result : Nat) : State := if s.nvs.prog.isSome then (s.endLine result).storeGoes else s

/-! ### The commands of NVS.CMD (03 R81, R82) -/

/-- The result with which PROGRAM_LINE and INVALIDATE_BANK end instead of writing (03 R82); 0 for none. Where two apply R82 gives
no order: the model takes POWER, then RANGE, then the others (DESIGN CHOICE, log 104). -/
def State.programRefusal (s : State) (l : Nat) : Nat :=
  if s.sup.lockout then 9
  else if l = stateLine 0 || l = stateLine 1 || lineReserved l then 2
  else
    match keyLine l with
    | some k => if k ∈ s.nvs.keyLines then 3 else 0
    | none =>
      if lineBank l = some (s.get R.DEVICE_BOOT_BANK) && 4 ≤ s.get R.DEVICE_STRAPS_BOOTSEL then 4 else 0

/-- The 32 bytes of NVS.WBUF. -/
def State.wbuf (s : State) : List Byte := (List.range 8).flatMap fun i => toBytes 4 (s.get (R.NVS_WBUF i))

/-- PROGRAM_LINE. -/
def State.nvsProgram (s : State) (l : Nat) : State :=
  match s.programRefusal l with
  | 0 =>
    let s := match lineBank l with
      | some b => s.setValid b false
      | none => s
    s.startJob (.programLine l s.wbuf) 1
  | r => s.nvsResult r

/-- CONFIRM: the booted bank's CONFIRMED; no effect outside trial. -/
def State.nvsConfirm (s : State) : State :=
  if s.flag R.DEVICE_BOOT_TRIAL then s.startJob (.stateLine (s.get R.DEVICE_BOOT_BANK) true) 1 else s.nvsResult 0

/-- The fields that a configuration record holds: every RW field of the block registers, but for those of
DEVICE, NVS and TEST, the input registers of the outputs (15 R390) and the remote-access data (log 3). -/
def configFields : List Fld :=
  ((pwrFields ++ clockFields ++ faultFields ++ hostportFields ++ twowireFields ++ irqFields ++ driveFields
      ++ scanFields ++ noiseFields ++ baseFields ++ calFields ++ pipeFields ++ queueFields ++ aoutFields
      ++ nightcapFields ++ govFields ++ workringFields ++ linkFields
      ++ (List.range 4).flatMap sliceFields ++ (List.range 4).flatMap tableFields
      ++ (List.range 16).flatMap controlFields ++ (List.range 8).flatMap gestureFields).filter fun f => f.acc = .rw).filter
    fun f => !(f.page = 0x20 && 0x40 ≤ f.off) && !(f.page = 0x08 && f.off = 0x44)

/-- A configuration record names a calibration coefficient (item, index) by this key plus 256 * item + index. -/
def coefKey : Nat := 0x40000000

/-- The coefficients accepted so far: those in use, and those that wait for the next FRAME_START (07 R186). -/
def State.coefsAccepted (s : State) : List (Nat × Nat) := s.coefs.next.foldl (fun l p => aput p.1 p.2 l) s.coefs.used

/-- The values of the current configuration that differ from reset, and the output coefficients (07 R194). -/
def State.configNow (s : State) : List (Nat × Nat) :=
  (configFields.filterMap fun f => if s.get f = f.reset then none else some (f.key, s.get f))
    ++ s.coefsAccepted.filterMap fun p =>
      if p.1 / 256 = 0x0B || p.1 / 256 = 0x0C then some (coefKey + p.1, p.2) else none

/-- The CFGFMT of the booted image. -/
def State.cfgFmt (s : State) : Nat := s.img16 (s.get R.DEVICE_BOOT_BANK) 0x14

/-- SAVE_CONFIG: one free slot, 256 lines (03 R82 to R84). -/
def State.nvsSave (s : State) : State :=
  if s.get R.DEVICE_BOOT_STAGE ≠ 7 then s.nvsResult 10
  else
    match s.freeSlots with
    | [] => s.nvsResult 10
    | k :: _ => (s.setSlot k .claimed).startJob (.saveConfig k ⟨s.nextSeq, s.cfgFmt, s.configNow⟩) 256

/-- INVALIDATE_BANK: line 0 of the bank with zeros. With ADDR on an owner-key line not yet programmed R81 and R82 give no result:
the model ends with RANGE (DESIGN CHOICE, log 104). -/
def State.nvsInvalidate (s : State) (l : Nat) : State :=
  match s.programRefusal l, lineBank l with
  | 0, some b => (s.setValid b false).startJob (.programLine (4096 * b) (List.replicate 32 0)) 1
  | 0, none => s.nvsResult 2
  | r, _ => s.nvsResult r

/-- A write of NVS.CMD (03 R81). -/
def State.nvsCommand (s : State) (op key : Nat) : State :=
  let l := s.get R.NVS_ADDR
  if 6 < op then s.wrerr 0x03 0x20
  else if s.flag R.NVS_STAT_BUSY then s.set R.NVS_STAT_REFUSED 1
  else if (op = 2 || op = 5 || op = 6) && key ≠ 0xB05A then s.nvsResult 1
  else
    match op with
    | 0 => s
    | 1 => s.startJob (.readLine l) 0
    | 2 => s.nvsProgram l
    | 3 => s.startJob (.verifyBank l) 0
    | 4 => s.nvsConfirm
    | 5 => s.nvsSave
    | _ => s.nvsInvalidate l

/-! ### Reference capture and relocation -/

/-- Starts the store's part of a reference capture (03 R86, 07 R184); none where no slots are free. -/
def State.startCapture (s : State) (ntx nrx : Nat) (r : RefRec) : Option State :=
  let n := refSlots ntx nrx
  let slots := s.freeSlots.take n
  if slots.length < n then none
  else
    let w : RefWrite := ⟨slots, { r with seq := s.nextSeq }, 256 * n⟩
    let t := s.claim slots
    some ({ t with nvs := { t.nvs with cap := some w } }).storeGoes

/-- Whether a relocation is due: it is owed since the last 65,536th save, there is a reference to move, and no capture has
been commanded that moves it (03 R86). -/
def State.relocDue (s : State) : Bool :=
  s.inRun && s.nvs.relocOwed && s.nvs.ref.isSome && s.nvs.reloc.isNone && s.cal.capture.isNone && !s.sup.lockout
    && s.get R.NVS_CFG_REFLEN ≤ s.freeSlots.length

/-- Starts a relocation as background work (03 R86): a copy of the live record under a new sequence number. -/
def State.startReloc (s : State) : State :=
  match s.nvs.ref with
  | none => s
  | some r =>
    let slots := s.freeSlots.take (s.get R.NVS_CFG_REFLEN)
    let w : RefWrite := ⟨slots, { r with seq := s.nextSeq }, 256 * slots.length⟩
    let t := s.claim slots
    (({ t with nvs := { t.nvs with reloc := some w } }).set R.NVS_CFG_RELOC 1).storeGoes

/-! ### The persistent log (17 R440, R441) -/

/-- Refills the budget: one record for every second since the last refill, 16 at most. -/
def State.plRefill (s : State) : State :=
  let n := tbDiff s.pow.tb s.flt.plRefillTb / 1000000
  { s with flt := { s.flt with
      plTokens := min 16 (s.flt.plTokens + n), plRefillTb := (s.flt.plRefillTb + n * 1000000) % tbMod } }

/-- The 32 bytes of a persistent log record. -/
def persistentRecord (r : LogRec) (num boot cause : Nat) : List Byte :=
  let body := r.bytes ++ toBytes 4 num ++ toBytes 4 boot ++ toBytes 4 cause
  body ++ toBytes 4 (crc32 body)

/-- Writes the oldest waiting record, or counts it where no budget is left; `result` is the store's result of the
line program, 0 for OK. -/
def State.writePersistent (s : State) (result : Nat) : State :=
  match s.flt.plWait with
  | [] => s
  | r :: t =>
    let s := ({ s with flt := { s.flt with plWait := t } }).plRefill
    if s.flt.plTokens = 0 then s.sat R.FAULT_SEQ_PLDROP
    else
      let l := 14336 + s.flt.plRecord % 2048
      let s := if result = 0
        then s.writeLine l (persistentRecord r s.flt.plRecord s.flt.plBoot s.flt.plCause)
        else ({ s with nvs := s.nvs.spoil s.free l, free := s.free + 9 }).eventFault Kind.plogFail l result
      { s with flt := { s.flt with plTokens := s.flt.plTokens - 1, plRecord := (s.flt.plRecord + 1) % 2 ^ 32 } }

/-- Whether line `l` of the log region holds a valid record. -/
def State.plValid (s : State) (l : Nat) : Bool :=
  let b := s.lineBytes l
  decide (l ∉ s.nvs.torn) && crc32 (b.take 28) = ofBytes (b.drop 28)
    && ofBytes ((b.drop 16).take 4) % 2048 + 14336 = l

/-- The lines of the log region that hold something. -/
def State.plLines (s : State) : List Nat :=
  s.nvs.cells.foldl (fun a c => if 0x70000 ≤ c.1 && a.head? ≠ some (c.1 / 32) then c.1 / 32 :: a else a) []

/-- At boot step 8 the record number and the boot number continue from the newest valid record (17 R441). -/
def State.plStart (s : State) : State :=
  let s := s.readRegion 14336 16384
  let best := s.plLines.foldl (fun a l =>
    if s.plValid l then
      let b := s.lineBytes l
      let n := ofBytes ((b.drop 16).take 4)
      match a with
      | some (m, _) => if m ≤ n then some (n, ofBytes ((b.drop 20).take 4)) else a
      | none => some (n, ofBytes ((b.drop 20).take 4))
    else a) none
  let cause := s.get R.DEVICE_RSTCAUSE_POR + 2 * s.get R.DEVICE_RSTCAUSE_PIN + 4 * s.get R.DEVICE_RSTCAUSE_SOFT
    + 8 * s.get R.DEVICE_RSTCAUSE_LINK
  match best with
  | some (n, b) => { s with flt := { s.flt with plRecord := (n + 1) % 2 ^ 32, plBoot := (b + 1) % 2 ^ 32, plCause := cause } }
  | none => { s with flt := { s.flt with plRecord := 0, plBoot := 0, plCause := cause } }

/-! ### Commands -/

/-- RELOCATION (03 R86). -/
def execRelocation (s : State) : Host.Outcome State Fault Refusal := onlyIf s.relocDue s s.startReloc

/-- PERSISTENT_LOG_WRITE (17 R441): PD2 is on and no vote has stopped it, boot step 8 has run (the loader state finds the newest
record as step 8 does: log 100), no lockout has begun and no line is being programmed;
background work that waited goes on afterwards (03 R87). -/
def execPersistentLogWrite (result : BitVec 4) (s : State) : Host.Outcome State Fault Refusal :=
  onlyIf (s.inRun && decide (2 ∉ s.pow.stopped) && 4 ≤ s.get R.DEVICE_BOOT_STAGE && !s.sup.lockout && s.nvs.prog.isNone) s
    (s.writePersistent result.toNat).storeGoes

end Sys2Proof.Machine
end

