-- ==== Sys2Proof/Machine/Segment.lean ====
section
/-!
DEFINITION. Stages 3 to 5 of the touch pipeline: spatial filter, thresholds with hysteresis, segmentation into blobs
and sub-blobs, and their moment sums (spec/08_touch_pipeline_and_reports.md R199 to R204; cuffs of spec/14 R373).
-/

namespace Sys2Proof.Machine

/-! ### Scales (08 R200) -/

/-- kpt times kg of a frame, over 512. -/
def FrameInfo.u (fi : FrameInfo) : Nat := fi.kpt * (if fi.mode = 1 then fi.thrsc else 16)

/-- A threshold multiplied by u of a node's channel. -/
def FrameInfo.thrU (fi : FrameInfo) (c v : Nat) : Int := scaled fi.tag c v fi.u 512

/-- TOFF times u', the smaller of the frame's u and that of the last processed frame (08 R201). -/
def State.toffU (s : State) (fi : FrameInfo) (c : Nat) : Int :=
  let v := s.inForce R.PIPE_THR_TOFF
  max 1 (roundDiv ((v * min (fi.tag.sigma c * fi.u) (s.pipe.lastTag.sigma c * s.pipe.lastU) : Nat) : Int) (768 * 512))

/-! ### The device's nodes with their cuffs, in panel coordinates -/

/-- Local receive channel of a panel column; the two cuff columns on each side stand at 1000 + k below and 2000 + k
above, nearest first. -/
def State.localCol (s : State) (c : Nat) : Option Nat :=
  let b := s.rxBase s.panel.pos
  if b ≤ c && c < b + s.ownRx then some (c - b)
  else if c < b && b ≤ c + 2 && s.link.cuffLo then some (1000 + (b - 1 - c))
  else if b + s.ownRx ≤ c && c < b + s.ownRx + 2 && s.link.cuffHi then some (2000 + (c - b - s.ownRx))
  else none

/-- Address of a cuff value: part 0 signal, 1 filter; `l` a cuff column of `localCol` (14 R373). -/
def cuffAddr (part d l : Nat) : Nat :=
  (if l < 2000 then 0 else 0xC0000) + 0x2B000 + 0x800 * part + 4 * d + 2 * (l % 1000)

/-- Scale factor of a cuff column in the frame, from its status word: VTX code in bits 19:16, gain code in 6:4. -/
def State.cuffSigma (s : State) (l : Nat) : Nat :=
  let w := ofBytes (Memory.readList s.fmem ((if l < 2000 then 0 else 0xC0000) + 0x2A0C0 + 4 * (l % 1000)) 4)
  2 ^ (w / 16 % 8) * (w / 65536 % 16 + 1)

/-- Whether a cuff column's status word carries OVL. -/
def State.cuffOvl (s : State) (l : Nat) : Bool :=
  bit (ofBytes (Memory.readList s.fmem ((if l < 2000 then 0 else 0xC0000) + 0x2A0C0 + 4 * (l % 1000)) 4)) 0

/-- The four cuff columns whose parts are there, in panel columns. -/
def State.cuffColumns (s : State) : List Nat :=
  let base := s.rxBase s.panel.pos
  ([base - 2, base - 1, base + s.ownRx, base + s.ownRx + 1].filter fun c =>
    match s.localCol c with
    | some l => 1000 ≤ l
    | none => false).eraseDups

/-- A cuff column's filter state, brought from the scale factor of the frame before to the one in the frame (14 R373). -/
def State.cuffFilter (s : State) (c l : Nat) (f : Int) : Int :=
  let now := s.cuffSigma l
  let was := aget now c s.link.cuffPrev
  if was = now then f else clampInt (-32767) 32767 (roundDiv (f * (now : Int)) was)

/-- A threshold times u of a cuff column (08 R200). -/
def State.cuffThr (s : State) (fi : FrameInfo) (l v : Nat) : Int :=
  max 1 (roundDiv ((v * s.cuffSigma l * fi.u : Nat) : Int) (768 * 512))

/-- Filter state of a panel node after stage 2; none where it is masked or off the device and its cuffs. -/
def State.filtOf (s : State) (fi : FrameInfo) (d c : Nat) : Option Int :=
  if s.ntx ≤ d || s.shadowed d c then none
  else
    match s.localCol c with
    | none => none
    | some l =>
      if l < 1000 then
        if s.hasSignal fi d l then some (s.filtAt d l) else none
      else
        let x := s.fm16 (cuffAddr 0 d l)
        if x = 0x8000 then none
        else
          let j := s.inForce R.PIPE_FILT_JUMP
          let jump := if j = 0 then 0 else s.cuffThr fi l j
          let f := s.fm16 (cuffAddr 1 d l)
          some (filterStep (f = 0x8000 || s.areaOf s.pipe.lastShadow d c) jump (s.inForce R.PIPE_FILT_TCOEF) (s.cuffFilter c l (signed16 f)) (signed16 x))

/-- The 8 neighbours of a node, as far as they have coordinates. -/
def neighbours (d c : Nat) : List (Nat × Nat) :=
  [(d + 1, c), (d, c + 1), (d + 1, c + 1)]
    ++ (if 0 < d then [(d - 1, c), (d - 1, c + 1)] else [])
    ++ (if 0 < c then [(d, c - 1), (d + 1, c - 1)] else [])
    ++ (if 0 < d ∧ 0 < c then [(d - 1, c - 1)] else [])

/-- Stage 3 at a panel node: g, 0 where it has no value (08 R197, R199). -/
def State.stage3 (s : State) (fi : FrameInfo) (d c : Nat) : Int :=
  match s.filtOf fi d c with
  | none => 0
  | some f0 =>
    if s.inForce R.PIPE_FILT_SPK = 0 then f0
    else
      let all := neighbours d c
      let f (p : Nat × Nat) : Int := (s.filtOf fi p.1 p.2).getD f0
      let edge := sumInt ((all.filter fun p => p.1 = d || p.2 = c).map f)
      let corner := sumInt ((all.filter fun p => p.1 ≠ d && p.2 ≠ c).map f)
      -- a neighbour beyond drive or receive index 0 is off the panel and counts as f0
      let edgeN := (all.filter fun p => p.1 = d || p.2 = c).length
      let cornN := (all.filter fun p => p.1 ≠ d && p.2 ≠ c).length
      roundDiv (4 * f0 + 2 * (edge + (4 - edgeN : Nat) * f0) + (corner + (4 - cornN : Nat) * f0)) 16

/-! ### Stage 4 (08 R201) -/

/-- Whether a node with stage 3 output g is on. -/
def nodeOn (masked ovl was : Bool) (ton toff g : Int) : Bool := !masked && !ovl && (ton ≤ g || (was && toff ≤ g))

/-- Stages 3 and 4 at one node of the device. -/
def State.nodeB (fi : FrameInfo) (s : State) (d c : Nat) : State :=
  let pc := c + s.rxBase s.panel.pos
  let g := s.stage3 fi d pc
  let masked := !s.hasSignal fi d c || s.shadowed d pc
  let on := nodeOn masked (c ∈ fi.ovl) (s.wasOn d c) (fi.thrU c (s.inForce R.PIPE_THR_TON)) (s.toffU fi c) g
  (s.setG d c g).setFm8 (node8 0x27000 d c) (s.nodeState d c / 2 * 2 + b2n on)

/-- Stages 3 and 4 of a tile. -/
def State.tileB (s : State) (fi : FrameInfo) (t : Task) : State :=
  if fi.hasMutual then s.eachNode t.nodes (State.nodeB fi) else s

/-- Stage 4 on the cuff columns with their own on state (08 R201, 14 R373). -/
def State.cuffOn (s : State) (fi : FrameInfo) (d c : Nat) : Bool :=
  match s.localCol c with
  | none => false
  | some l =>
    let toff := s.inForce R.PIPE_THR_TOFF
    let last := aget (s.cuffSigma l) c s.link.cuffLast * s.pipe.lastU
    let low := max 1 (roundDiv ((toff * min (s.cuffSigma l * fi.u) last : Nat) : Int) (768 * 512))
    nodeOn (s.filtOf fi d c).isNone (s.cuffOvl l) (decide ((d, c) ∈ s.link.cuffOn)) (s.cuffThr fi l (s.inForce R.PIPE_THR_TON))
      low (s.stage3 fi d c)

/-- The cuff nodes that are on. -/
def State.cuffNodes (s : State) (fi : FrameInfo) : List (Nat × Nat) :=
  (List.range s.ntx).flatMap fun d => (s.cuffColumns.map fun c => (d, c)).filter fun p => s.cuffOn fi p.1 p.2

/-- The segmentation of the frame is complete: its on nodes are the blobs that the next updates of the baselines see (07 R169). -/
def State.segmented (s : State) (fi : FrameInfo) : State :=
  if !fi.hasMutual then s
  else { s with
    pipe := { s.pipe with segOn := (s.nodes.filter fun p => s.isOn p.1 p.2).map fun p => 96 * p.1 + p.2 }
    link := { s.link with cuffSeg := s.cuffNodes fi } }

/-- The frame has been processed: its on nodes and its scales are those of the last processed frame (08 R201).
Of a frame without a mutual burst R201 does not say whether it counts: its scales do, and the on nodes stay those of the frame before
it (DESIGN CHOICE, log 118). -/
def State.processed (s : State) (fi : FrameInfo) : State :=
  let s := if fi.hasMutual then s.eachNode s.nodes fun s d c =>
      let b := s.nodeState d c
      s.setFm8 (node8 0x27000 d c) (b / 4 * 4 + 3 * (b % 2)) else s
  { s with
    pipe := { s.pipe with
      lastU := fi.u, lastTag := fi.tag, lastShadow := (fi.masks.shadow.filter fun q => q.2 ≠ 0).map Prod.fst }
    link := { s.link with cuffOn := if fi.hasMutual then s.link.cuffSeg else s.link.cuffOn, cuffLast := s.link.cuffNow }
    disp := { s.disp with reported := true } }

/-! ### Segmentation (08 R202) -/

/-- An on node in panel coordinates with its g. -/
structure OnNode where
  d : Nat
  c : Nat
  g : Int
  deriving DecidableEq, Repr

/-- Whether a node of value `g` at (d, c) ranks above one of value `g'` at (d', c'). -/
def above (g : Int) (d c : Nat) (g' : Int) (d' c' : Nat) : Bool :=
  g' < g || (g = g' && (d < d' || (d = d' && c < c')))

/-- A node ranks above another. -/
def OnNode.above (a b : OnNode) : Bool := Machine.above a.g a.d a.c b.g b.d b.c

/-- Two on nodes are 8-neighbours. -/
def OnNode.near (a b : OnNode) : Bool := Machine.near (a.d, a.c) (b.d, b.c)

/-- The highest-ranked node of a list. -/
def topNode (l : List OnNode) : Option OnNode :=
  l.foldl (fun a n => match a with
    | none => some n
    | some m => if n.above m then some n else some m) none

/-- The 8-connected sets of on nodes. -/
def blobs : List OnNode → List (List OnNode)
  | [] => []
  | n :: t =>
    let bs := blobs t
    (n :: (bs.filter fun b => b.any n.near).flatten) :: bs.filter fun b => !b.any n.near

/-- The peak reached from a node within its blob (step 3). -/
def peakOf (blob : List OnNode) : Nat → OnNode → OnNode
  | 0, n => n
  | k + 1, n =>
    match topNode (blob.filter fun m => m.near n && m.above n) with
    | some m => peakOf blob k m
    | none => n

/-- A region: its peak, its nodes, and whether its peak is a seed. -/
structure Region where
  peak : OnNode
  nodes : List OnNode
  seed : Bool
  deriving DecidableEq, Repr

/-- The regions of a blob (step 3). -/
def regionsOf (isSeed : OnNode → Bool) (blob : List OnNode) : List Region :=
  let tagged := blob.map fun n => (peakOf blob blob.length n, n)
  let peaks := tagged.foldl (fun l p => if p.1 ∈ l then l else l ++ [p.1]) []
  peaks.map fun p => ⟨p, (tagged.filter fun t => t.1 = p).map (·.2), isSeed p⟩

/-- The saddle of two regions: the highest g on their common border, none where they are not adjacent (step 4). -/
def saddle (a b : Region) : Option Int :=
  ((a.nodes.filter fun n => b.nodes.any n.near) ++ (b.nodes.filter fun n => a.nodes.any n.near)).foldl
    (fun m n => some (match m with
      | none => n.g
      | some x => max x n.g)) none

/-- The region that a dependent region is joined to: highest saddle, then higher-ranked peak. -/
def bestNeighbour (r : Region) (l : List Region) : Option (Int × Region) :=
  (l.filter (· ≠ r)).foldl (fun a q =>
    match saddle r q with
    | none => a
    | some x => match a with
      | none => some (x, q)
      | some (y, p) => if y < x || (x = y && q.peak.above p.peak) then some (x, q) else a) none

/-- Joins two regions; a sub-blob keeps its seed, and else the higher-ranked peak stays. -/
def joinRegions (a b : Region) : Region :=
  let keep := if a.seed && !b.seed then a else if b.seed && !a.seed then b else if a.peak.above b.peak then a else b
  ⟨keep.peak, a.nodes ++ b.nodes, keep.seed⟩

/-- Replaces two regions by their union. -/
def mergeIn (l : List Region) (a b : Region) : List Region :=
  joinRegions a b :: l.filter fun r => r ≠ a && r ≠ b

/-- Joins dependent regions, lowest-ranked peak first (step 4). -/
def joinDependent : Nat → List Region → List Region
  | 0, l => l
  | k + 1, l =>
    let cands := l.filterMap fun r => if r.seed then none else (bestNeighbour r l).map fun q => (r, q.2)
    match cands.foldl (fun a p => match a with
        | none => some p
        | some q => if q.1.peak.above p.1.peak then some p else a) none with
    | some (r, q) => joinDependent k (mergeIn l r q)
    | none => l

/-- A pair of adjacent sub-blobs that qualifies: saddle, lower seed, higher seed (step 5). -/
def qualifying (split : Nat) (l : List Region) : List (Int × Region × Region) :=
  (l.filter (·.seed)).flatMap fun lo => (l.filter (·.seed)).filterMap fun hi =>
    if hi.peak.above lo.peak then
      match saddle lo hi with
      | some x => if (split : Int) * lo.peak.g ≤ 16 * x then some (x, lo, hi) else none
      | none => none
    else none

/-- Joins qualifying pairs, highest saddle first (step 5). -/
def joinSeeds (split : Nat) : Nat → List Region → List Region
  | 0, l => l
  | k + 1, l =>
    match (qualifying split l).foldl (fun a p => match a with
        | none => some p
        | some q =>
          if q.1 < p.1 || (q.1 = p.1 && (p.2.1.peak.above q.2.1.peak
              || (p.2.1.peak = q.2.1.peak && p.2.2.peak.above q.2.2.peak))) then some p else a) none with
    | some (_, lo, hi) => joinSeeds split k (mergeIn l lo hi)
    | none => l

/-- The sub-blobs of a blob with their seeds, or the whole blob as a palm (steps 1 to 5); `own` counts a node. -/
def segment (palma split : Nat) (own isSeed : OnNode → Bool) (blob : List OnNode) : List (Region × Bool) :=
  if palma ≤ (blob.filter own).length then
    match topNode blob with
    | some t => [(⟨t, blob, true⟩, true)]
    | none => []
  else
    let rs := joinDependent blob.length (regionsOf isSeed blob)
    ((joinSeeds split blob.length rs).filter (·.seed)).map fun r => (r, false)

/-! ### Moment sums (08 R203) -/

/-- What the sums need of a node that is counted: w = g - TOFF·u, and the factor of g / σ in units of 1 / sigmaUnit. -/
def State.unit (fi : FrameInfo) (c : Nat) : Int := ((768 * (sigmaUnit / fi.tag.sigma c) : Nat) : Int)

/-- Whether a neighbour of a panel node is masked or carries OVL, or the node lies on the panel's border (08 R203). -/
def State.onEdge (s : State) (fi : FrameInfo) (d c : Nat) : Bool :=
  d = 0 || d + 1 = s.ntx || c = 0 || c + 1 = s.nrx ||
    (neighbours d c).any fun p =>
      p.1 < s.ntx && p.2 < s.nrx &&
        ((s.filtOf fi p.1 p.2).isNone ||
          match s.localCol p.2 with
          | some l => if l < 1000 then decide (l ∈ fi.ovl) else s.cuffOvl l
          | none => true)

/-- The sub-blob of a region: sums over the device's own nodes. -/
def State.subBlob (s : State) (fi : FrameInfo) (blob : List OnNode) (r : Region) (palm : Bool) : SubBlob :=
  let base := s.rxBase s.panel.pos
  let own := r.nodes.filter fun n => base ≤ n.c && n.c < base + s.ownRx
  let w (n : OnNode) : Int := max 0 (n.g - fi.thrU (n.c - base) (s.inForce R.PIPE_THR_TOFF))
  let top := (topNode blob).getD r.peak
  { seedD := r.peak.d
    seedC := r.peak.c
    palm := palm
    n := own.length
    sw := sumInt (own.map w)
    swc := sumInt (own.map fun n => w n * n.c)
    swd := sumInt (own.map fun n => w n * n.d)
    sg := sumInt (own.map fun n => n.g * State.unit fi (n.c - base))
    gmax := (own.map fun n => n.g * State.unit fi (n.c - base)).foldl max 0
    edge := own.any fun n => s.onEdge fi n.d n.c
    sself := (own.map fun n => s.selfSignal fi.frame (rxEntry (n.c - base))).foldl max
      (match own with
        | n :: _ => s.selfSignal fi.frame (rxEntry (n.c - base))
        | [] => 0)
    suspect := own.any fun n => hasFlag (s.flagsAt n.d (n.c - base)) Flag.suspect
    fast := base ≤ r.peak.c && r.peak.c < base + s.ownRx && hasFlag (s.flagsAt r.peak.d (r.peak.c - base)) Flag.fast
    nodes := own.map fun n => (n.d, n.c)
    blob := (top.d, top.c)
    parts := [(s.panel.pos, top.d, top.c)]
    whole := (blob.filter fun n => base ≤ n.c && n.c < base + s.ownRx).map fun n => (n.d, n.c)
    blobN := (blob.filter fun n => base ≤ n.c && n.c < base + s.ownRx).length
    reach := (blob.filter fun n => s.inCascade && (n.c < base + 2 || base + s.ownRx ≤ n.c + 2)).map fun n => (n.d, n.c) }

/-- The on nodes of the device and, where their parts arrived, of its cuff columns (08 R204). -/
def State.onNodes (s : State) (fi : FrameInfo) : List OnNode :=
  let base := s.rxBase s.panel.pos
  let own := (s.nodes.filter fun p => s.isOn p.1 p.2).map fun p => (⟨p.1, p.2 + base, s.gAt p.1 p.2⟩ : OnNode)
  own ++ (s.cuffNodes fi).map fun p => ⟨p.1, p.2, s.stage3 fi p.1 p.2⟩

/-- Stage 3 output of a panel node as the device holds it; 0 off the panel and where it has no value. -/
def State.gOf (s : State) (fi : FrameInfo) (d c : Nat) : Int :=
  match s.localCol c with
  | some l => if s.ntx ≤ d then 0 else if l < 1000 then s.gAt d l else s.stage3 fi d c
  | none => 0

/-- A node is a seed: at least TPEAK·u, and above all 8 of its neighbours (step 2). -/
def State.isSeed (s : State) (fi : FrameInfo) (n : OnNode) : Bool :=
  let sg := match s.localCol n.c with
    | some l => if l < 1000 then fi.tag.sigma l else s.cuffSigma l
    | none => 0
  max 1 (roundDiv ((s.inForce R.PIPE_THR_TPEAK * sg * fi.u : Nat) : Int) (768 * 512)) ≤ n.g &&
    (neighbours n.d n.c).all fun p => s.ntx ≤ p.1 || s.nrx ≤ p.2 || above n.g n.d n.c (s.gOf fi p.1 p.2) p.1 p.2

/-- The sub-blobs of the device's own columns (08 R202, R203): those too small are discarded, but for parts of a blob
that reaches a cuff, which ROOT judges after joining (08 R204, log 21). -/
def State.extractAll (s : State) (fi : FrameInfo) : List SubBlob :=
  let base := s.rxBase s.panel.pos
  let own (n : OnNode) : Bool := base ≤ n.c && n.c < base + s.ownRx
  let l := (blobs (s.onNodes fi)).flatMap fun b =>
    (segment (s.inForce R.PIPE_CLS_PALMA) (s.inForce R.PIPE_SEG_SPLIT) own (s.isSeed fi) b).map fun r =>
      (s.subBlob fi b r.1 r.2, b.all own)
  (l.filter fun p => 0 < p.1.n && (!p.2 || p.1.palm || s.inForce R.PIPE_SEG_MINAREA ≤ p.1.n)).map (·.1)

/-- Stage 5 of one slice: the sub-blobs of the device whose first own node lies in the slice's columns. -/
def State.extract (s : State) (fi : FrameInfo) (k : Nat) : State :=
  if !fi.hasMutual then s
  else
    let base := s.rxBase s.panel.pos
    let mine := (s.extractAll fi).filter fun b =>
      match b.nodes with
      | n :: _ => (n.2 - base) / 24 = k
      | [] => false
    { s with pipe := { s.pipe with subs := s.pipe.subs ++ mine } }

end Sys2Proof.Machine
end

