-- ==== Sys2Proof/Machine/Tracking.lean ====
section
/-!
DEFINITION. Stages 6 to 8 of the touch pipeline: joining the members' sub-blobs, classification, location, the hover
blob, and tracking (spec/08_touch_pipeline_and_reports.md R204 to R212; spec/14 R374).
-/

namespace Sys2Proof.Machine

/-- The masks in force, and other ones in their place. -/
def State.masks (s : State) : Masks := ⟨s.scan.txOff, s.scan.rxOff, s.panel.lost, s.panel.flt, s.link.shadow⟩
def State.withMasks (s : State) (m : Masks) : State :=
  { s with
    scan := { s.scan with txOff := m.txOff, rxOff := m.rxOff }
    panel := { s.panel with lost := m.lost, flt := m.flt }
    link := { s.link with shadow := m.shadow } }

/-- Runs a part of a frame's processing with the F-class values and the masks that the frame's FRAME_START took (00 R10,
04 R119). -/
def State.within (fi : FrameInfo) (f : State → State) (s : State) : State :=
  let t := f ({ s with force := fi.force }.withMasks fi.masks)
  { t with force := s.force }.withMasks s.masks

/-! ### Joining (08 R204, 14 R374) -/

/-- Adds the sums of a sub-blob with the same seed. -/
def SubBlob.add (a b : SubBlob) : SubBlob :=
  { a with palm := a.palm || b.palm, n := a.n + b.n, sw := a.sw + b.sw, swc := a.swc + b.swc, swd := a.swd + b.swd,
           sg := a.sg + b.sg, gmax := max a.gmax b.gmax, edge := a.edge || b.edge, sself := max a.sself b.sself,
           suspect := a.suspect || b.suspect, fast := a.fast || b.fast, nodes := a.nodes ++ b.nodes,
           parts := (a.parts ++ b.parts).eraseDups, whole := (a.whole ++ b.whole).eraseDups,
           reach := (a.reach ++ b.reach).eraseDups }

/-- Two sub-blobs carry the same seed. -/
def SubBlob.same (a b : SubBlob) : Bool := a.seedD = b.seedD && a.seedC = b.seedC

/-- Two sub-blobs lie in one blob, or in blobs that are connected across a boundary: both hold a node beside it. Sub-blobs
with equal seeds are parts of one. -/
def SubBlob.linked (a b : SubBlob) : Bool :=
  a.same b || a.parts.any (fun p => decide (p ∈ b.parts)) || a.reach.any fun p => decide (p ∈ b.reach)

/-- A sub-blob joins those collected so far. -/
def joinSub (l : List SubBlob) (b : SubBlob) : List SubBlob :=
  if l.any b.same then l.map fun a => if a.same b then a.add b else a else l ++ [b]

/-- The sub-blobs grouped by the union of blobs that they lie in. -/
def byBlob : List SubBlob → List (List SubBlob)
  | [] => []
  | b :: t =>
    let gs := byBlob t
    (b :: (gs.filter fun g => g.any b.linked).flatten) :: gs.filter fun g => !g.any b.linked

/-- The sub-blob of a group with the largest peak, the first in drive-then-receive order on a tie. -/
def topSub (a b : SubBlob) : SubBlob :=
  if a.gmax < b.gmax || (a.gmax = b.gmax && (b.seedD < a.seedD || (b.seedD = a.seedD && b.seedC < a.seedC))) then b else a

/-- Nodes of the union of a group: those of every blob in it, once. -/
def unionNodes (g : List SubBlob) : Nat := sumNat (((g.map fun b => (b.parts, b.blobN)).eraseDups).map (·.2))

/-- A union with at least PALMA nodes is one sub-blob of class PALM; in any other one, the parts with equal seeds are added (08
R204). Each of its sub-blobs knows every part and node of the union, which are those of its blob (07 R173). -/
def joinUnion (palma : Nat) (g : List SubBlob) : List SubBlob :=
  match g with
  | [] => []
  | a :: t =>
    if palma ≤ unionNodes g then
      let top := t.foldl topSub a
      [{ (t.foldl SubBlob.add a) with seedD := top.seedD, seedC := top.seedC, palm := true }]
    else
      let parts := (g.flatMap SubBlob.parts).eraseDups
      let whole := (g.flatMap SubBlob.whole).eraseDups
      (g.foldl joinSub []).map fun b => { b with parts := parts, whole := whole }

/-- The sub-blobs of the panel: the device's own, joined in a cascade with those of the members' lists. -/
def State.joined (s : State) : List SubBlob :=
  if !s.inCascade then s.pipe.subs
  else
    ((byBlob (s.pipe.subs ++ s.pipe.lists.flatMap (·.2))).flatMap (joinUnion (s.inForce R.PIPE_CLS_PALMA))).filter fun b =>
      b.palm || s.inForce R.PIPE_SEG_MINAREA ≤ b.n

/-! ### Classification and location (08 R205, R210) -/

/-- P: the peak in σ = 1 units. -/
def SubBlob.p (b : SubBlob) : Int := roundDiv b.gmax sigmaUnit

/-- V: the signal volume in σ = 1 units. -/
def SubBlob.v (b : SubBlob) : Int := roundDiv b.sg sigmaUnit

/-- The class of a sub-blob; the first matching rule decides (08 R205). -/
def State.classify (s : State) (fi : FrameInfo) (b : SubBlob) : Nat :=
  if b.palm then 4
  else if s.inForce R.PIPE_WATER_WEN ≠ 0 && fi.rxPass && b.sself < s.inForce R.PIPE_WATER_WSELF then 6
  else if max 1 (roundDiv ((s.inForce R.PIPE_CLS_FINGPK * fi.kpt : Nat) : Int) 32) ≤ b.p then 1
  else if b.n ≤ s.inForce R.PIPE_CLS_STYA then 3
  else if fi.mode = 1 then 2
  else 0

/-- What tracking and reports use of a sub-blob or of the hover blob. -/
structure Spot where
  x : Int
  y : Int
  cls : Nat
  area : Nat
  /-- Peak as reported, and P for the order of R212. -/
  peak : Int
  v : Int
  seedD : Nat
  seedC : Nat
  edge : Bool
  suspect : Bool
  fast : Bool
  nodes : List (Nat × Nat)
  parts : List (Nat × Nat × Nat)
  deriving DecidableEq, Repr

/-- Clamps coordinates to the panel (00 R15). -/
def State.clampX (s : State) (x : Int) : Int := clampInt 0 (64 * ((s.nrx : Int) - 1)) x
def State.clampY (s : State) (y : Int) : Int := clampInt 0 (64 * ((s.ntx : Int) - 1)) y

/-- A located and classified sub-blob (08 R210). -/
def State.spot (s : State) (fi : FrameInfo) (b : SubBlob) : Spot :=
  { x := s.clampX (if b.sw = 0 then 64 * (b.seedC : Int) else roundDiv (64 * b.swc) b.sw.toNat)
    y := s.clampY (if b.sw = 0 then 64 * (b.seedD : Int) else roundDiv (64 * b.swd) b.sw.toNat)
    cls := s.classify fi b
    area := b.n
    peak := b.p
    v := b.v
    seedD := b.seedD
    seedC := b.seedC
    edge := b.edge
    suspect := b.suspect
    fast := b.fast
    nodes := b.whole
    parts := b.parts }

/-! ### The hover blob (08 R207) -/

/-- 64 times the signal-weighted mean index of the peak of a list and the two on each side of it, and the peak. Where those
signals add up to 0 the mean is not stated: a free value takes its place (log 50). -/
def State.hoverAxis (s : State) (l : List Int) : Int × Int × State :=
  let (k, m) := maxIdx l
  let near := (l.zip (List.range l.length)).filter fun p => k ≤ p.2 + 2 && p.2 ≤ k + 2
  let sum := sumInt (near.map (·.1))
  let num := 64 * sumInt (near.map fun p => p.1 * p.2)
  if sum = 0 then (let (v, s) := s.takeFree; (v, m, s))
  else (roundDiv (if sum < 0 then -num else num) sum.natAbs, m, s)

/-- The hover blob of a frame without a sub-blob. -/
def State.hoverSpot (s : State) (fi : FrameInfo) : Option Spot × State :=
  let rx := (List.range s.ownRx).map fun c => s.selfSignal fi.frame (rxEntry c)
  let tx := (List.range s.ownTx).map fun p => s.selfSignal fi.frame (txEntry p)
  let px := (maxIdx rx).2
  let py := (maxIdx tx).2
  let th := s.inForce R.PIPE_HOVER_HOVTH
  if fi.mode = 2 && th ≤ px && th ≤ py && 0 < s.ownRx && 0 < s.ownTx then
    let (x, _, s) := s.hoverAxis rx
    let (y, _, s) := s.hoverAxis tx
    let x := s.clampX x
    let y := s.clampY y
    (some ⟨x, y, 5, 0, max px py, 0, (y / 64).toNat, (x / 64).toNat, false, false, false, [], []⟩, s)
  else (none, s)

/-- The spots of a frame. -/
def State.spots (s : State) (fi : FrameInfo) : List Spot × State :=
  match s.joined with
  | [] => (let (h, s) := s.hoverSpot fi; (h.toList, s))
  | l => (l.map (s.spot fi), s)

/-! ### Tracking (08 R208, R211, R212) -/

/-- Squared distance of a spot from a track's predicted position. -/
def Track.dist2 (t : Track) (p : Spot) : Nat :=
  let dx := p.x - (2 * t.x - t.px)
  let dy := p.y - (2 * t.y - t.py)
  (dx * dx + dy * dy).toNat

/-- A candidate pair: squared distance, track number, seed, and the spot's place in the list. -/
structure Pair where
  d2 : Nat
  track : Nat
  seed : Nat
  spot : Nat
  deriving DecidableEq, Repr

/-- Order of R211 step 2. -/
def Pair.before (a b : Pair) : Bool :=
  a.d2 < b.d2 || (a.d2 = b.d2 && (a.track < b.track || (a.track = b.track && a.seed ≤ b.seed)))

/-- Inserts a pair among ordered ones. -/
def Pair.place (p : Pair) : List Pair → List Pair
  | [] => [p]
  | h :: t => if p.before h then p :: h :: t else h :: Pair.place p t

/-- The accepted pairs (R211). -/
def matchPairs (gate : Nat) (ts : List Track) (ps : List Spot) : List Pair :=
  let all := (ts.zip (List.range ts.length)).flatMap fun t =>
    (ps.zip (List.range ps.length)).filterMap fun p =>
      let d := t.1.dist2 p.1
      if d ≤ 4096 * gate * gate then some (⟨d, t.2, 1000 * p.1.seedD + p.1.seedC, p.2⟩ : Pair) else none
  (all.foldl (fun l p => p.place l) []).foldl (fun acc p =>
    if acc.any fun q => q.track = p.track || q.spot = p.spot then acc else acc ++ [p]) []

/-- The held class after a frame with class `c` (R208). -/
def Track.holdClass (t : Track) (hold c : Nat) : Track :=
  if c = t.cls then { t with newRun := 0 }
  else if c = 4 || t.cls = 5 then { t with cls := c, newRun := 0 }
  else
    let run := if t.newCls = c && t.newRun ≠ 0 then t.newRun + 1 else 1
    if hold ≤ run then { t with cls := c, newRun := 0 } else { t with newCls := c, newRun := run }

/-- What a spot gives a track. -/
def Track.take (t : Track) (p : Spot) : Track :=
  { t with x := p.x, y := p.y, coast := 0, area := min 0xFFFF p.area, peak := min 0xFFFF p.peak.toNat, volume := p.v,
           suspect := p.suspect, edge := p.edge, nodes := p.nodes, parts := p.parts }

/-- A matched track. -/
def Track.matched (t : Track) (hold : Nat) (p : Spot) : Track :=
  ({ t with px := t.x, py := t.y }.take p).holdClass hold p.cls

/-- An unmatched track coasts or ends (R212). -/
def Track.missed (t : Track) (liftfr : Nat) : Track :=
  { t with coast := t.coast + 1, ends := liftfr ≤ t.coast + 1 }

/-- A track that a spot starts. -/
def Spot.start (p : Spot) : Track :=
  ({ x := p.x, y := p.y, px := p.x, py := p.y, cls := p.cls, newCls := 0, newRun := 0, coast := 0, id := 0
     barred := false, v0 := p.v, area := 0, peak := 0, volume := 0, suspect := false, edge := false, downX := 0
     downY := 0, downTb := 0, age := 0, far := false, drag := false, recX := 0, recY := 0, nodes := [], parts := [], phase := 0
     ends := false } : Track).take p

/-- Inserts a spot in the order of R212: descending P, then seeds. -/
def Spot.place (p : Spot) : List Spot → List Spot
  | [] => [p]
  | h :: t =>
    if h.peak < p.peak || (h.peak = p.peak && (p.seedD < h.seedD || (p.seedD = h.seedD && p.seedC < h.seedC)))
    then p :: h :: t else h :: Spot.place p t

/-- Starts tracks from unmatched spots while fewer than 64 exist: the tracks, and how many spots were left over. -/
def startTracks (ts : List Track) : List Spot → List Track × Nat
  | [] => (ts, 0)
  | p :: l =>
    if ts.length < 64 then startTracks (ts ++ [p.start]) l
    else ((startTracks ts l).1, (startTracks ts l).2 + 1)

/-- Whether tracking neither matches nor coasts in the frame (R212, 05 R125). -/
def FrameInfo.frozen (fi : FrameInfo) : Bool := !fi.hasMutual && fi.mode ≠ 2

/-- Counts sub-blobs left over. -/
def State.dropped (s : State) : Nat → State
  | 0 => s
  | n + 1 => (s.sat R.PIPE_CNT_DROPPED).dropped n

/-- Stages 6 to 8. -/
def State.track (s : State) (fi : FrameInfo) : State :=
  let s := { s with pipe := { s.pipe with full := false } }
  if fi.frozen then s
  else
    let (ps, s) := s.spots fi
    let ts := s.pipe.tracks
    let pairs := matchPairs (s.inForce R.PIPE_TRACK_GATE) ts ps
    let moved := (ts.zip (List.range ts.length)).map fun t =>
      match pairs.find? fun p => p.track = t.2 with
      | some p => (match ps[p.spot]? with
        | some q => t.1.matched (s.inForce R.PIPE_CTL_CLSHOLD) q
        | none => t.1)
      | none => t.1.missed (s.inForce R.PIPE_CTL_LIFTFR)
    let free := (ps.zip (List.range ps.length)).filterMap fun p =>
      if pairs.any (fun q => q.spot = p.2) || p.1.cls = 6 || p.1.fast then none else some p.1
    let (all, left) := startTracks moved (free.foldl (fun l p => p.place l) [])
    let water := ps.any fun p => p.cls = 6
    let s := s.dropped left
    let fi' := { fi with flags := if water then fi.flags ||| 0x10 else fi.flags }
    { s with pipe := { s.pipe with tracks := all, full := left ≠ 0 }, disp := { s.disp with cur := some fi' } }

end Sys2Proof.Machine
end

