-- ==== Sys2Proof/Machine/ScanControl.lean ====
section
/-!
DEFINITION. Starting and stopping of scanning, and the writes of SCAN.CTL, SCAN.TMAP and SCAN.TCHK
(spec/06_scan_sequencer_and_noise.md R145 to R149).
-/

namespace Sys2Proof.Machine

/-! ### Selecting a table (R145, R146) -/

/-- The table that the fields written last would make the table of the next frame. -/
def State.selected (s : State) : Nat := tmapTable s.tmap (s.get R.SCAN_CTL_MODE)

/-- A check that a write causes: recorded, and reported where it fails (R146). The built-in table leaves force at the next
FRAME_START after one that passes (R147). -/
def State.checkSelect (s : State) (t tmap : Nat) : State × Bool :=
  let r := s.checkTable t tmap
  let s := s.recordCheck t r
  if r.1 = 0 then ({ s with scan := { s.scan with builtin := false } }, true) else (s.eventFault Kind.scanTableBad t r.2, false)

/-- A change of scan mode to TEST aborts a running calibration of FE_CAL, LF_TRIM or AOUT_CAL at the end of its step (07 R188). -/
def State.abortCal (s : State) : State :=
  if s.flag R.CAL_STAT_BUSY && s.get R.CAL_STAT_OP ≠ 4 then { s with cal := { s.cal with abort := true } } else s

/-- The mode takes a new value. -/
def State.takeMode (s : State) (m src : Nat) : State :=
  let s := (s.set R.SCAN_CTL_MODE m).abortTest
  let s := { s with scan := { s.scan with modeSrc := src } }
  if m = 3 then s.abortCal else s

/-- A write of SCAN.CTL.MODE by source `src` (R146). A ring member's own MODE and TMAP have no effect (R147). -/
def State.writeMode (s : State) (m src : Nat) : State :=
  if m = s.get R.SCAN_CTL_MODE then s
  else if s.follows then s.set R.SCAN_CTL_MODE m
  else if tmapTable s.tmap m = s.selected then s.takeMode m src
  else
    let r := s.checkSelect (tmapTable s.tmap m) s.tmap
    if r.2 then r.1.takeMode m src else r.1

/-- The fields of SCAN.TMAP by mode. -/
def tmapField (m : Nat) : Fld :=
  match m with
  | 0 => R.SCAN_TMAP_TNORM
  | 1 => R.SCAN_TMAP_TGLOVE
  | 2 => R.SCAN_TMAP_THOVER
  | _ => R.SCAN_TMAP_TTEST

/-- A write of SCAN.TMAP with value `v`: where the newly selected table fails, the field of the mode keeps its value (R146). -/
def State.writeTmap (s : State) (v : Nat) : State :=
  let m := s.get R.SCAN_CTL_MODE
  let put (s : State) (i : Nat) : State := s.set (tmapField i) (bits v (2 * i + 1) (2 * i))
  if s.follows || tmapTable v m = s.selected then (List.range 4).foldl put s
  else
    let r := s.checkSelect (tmapTable v m) v
    ((List.range 4).filter fun i => r.2 || i ≠ m).foldl put r.1

/-- SCAN.TCHK.GO: checks a table without selecting it (R146). -/
def State.tableCheck (s : State) (t : Nat) : State := s.recordCheck t (s.checkTable t s.tmap)

/-! ### Starting (R147, R149) -/

/-- The table of the mode in force is checked, and the built-in one runs where it fails (R147). A member's own table has no
effect. -/
def State.startTable (s : State) : State :=
  let t := s.selected
  let r := s.checkTable t s.tmap
  let bad := decide (r.1 ≠ 0)
  if s.inCascade && s.panel.pos ≠ 0 then s
  else
    let s := (s.recordCheck t r).setFlag R.SCAN_TSTAT_BUILTIN bad
    let s := { s with scan := { s.scan with builtin := bad } }
    if bad then s.eventFault Kind.scanTableBad t r.2 else s

/-- Scanning starts (R147, R149), but in no lockout shutdown, whose drive has stopped (02 R53). -/
def State.startScan (s : State) : State :=
  if s.sup.lockout then s else
  let s := s.startTable.noTracks
  { s with scan := { s.scan with started := true, fresh := true, stopping := false, phase := .idle } }

/-! ### Stopping (R149) -/

/-- Scanning is held: by SCAN.CTL.HOLD, and on a member by ROOT's, which FPARAM brings (R149). -/
def State.held (s : State) : Bool := if s.follows then s.lf.held else s.flag R.SCAN_CTL_HOLD

/-- A full test ends with STATE where scanning has stopped (17 R448). -/
def State.stopTest (s : State) : State :=
  if s.held && (s.st.kind = 1 || s.st.request = 1) then (s.testResult 4).endTest else s

/-- Scanning stands still: the running bits read 0. -/
def State.scanStopped (s : State) : State :=
  let s := ((s.stopTest.set R.SCAN_STAT_SCANNING 0).set R.SCAN_STAT_INSCAN 0).noTracks.govIdle
  let s := ({ s with
    scan := { s.scan with started := false, stopping := false, phase := .idle }
    cal := { s.cal with
      slot := [], capture := s.cal.capture.map fun (c : Capture) => if c.writing then c else { c with fail := 1 } } }).setGenBusy
  if s.held then s else s.startScan

/-- The stop completes once the frame in force has ended and nothing of it is still processed. -/
def State.tryStop (s : State) : State :=
  if s.scan.stopping && (s.scan.phase = .ended || s.scan.phase = .idle) && s.disp.cur.isNone && s.disp.ready.isEmpty
  then s.scanStopped else s

/-- A write of SCAN.CTL.HOLD (R149). In a cascade member it has no effect. -/
def State.writeHold (s : State) (on : Bool) : State :=
  let s := s.setFlag R.SCAN_CTL_HOLD on
  if s.inCascade && s.panel.pos ≠ 0 then s
  else if on then
    (if s.scan.started then ({ s with scan := { s.scan with stopping := true } }).tryStop else s)
  else if s.scan.started || s.get R.DEVICE_BOOT_STAGE < 6 || s.get R.DEVICE_BOOT_STAGE = 8 || !s.inRun then s
  else s.startScan

/-- The next frame is a host-selected test frame: by the mode written, or in a cascade by FPARAM, once it is sent. -/
def State.testNext (s : State) : Bool :=
  match s.inCascade, s.lf.fp with
  | true, some p => p.test = 3
  | _, _ => s.get R.SCAN_CTL_MODE = 3

/-- Reported tracks end with CANCEL in the report of frame `n` because scanning stops after it, or because the frames
that follow are host-selected test frames (R148, R149). -/
def State.lastReport (s : State) (n : Nat) : Bool :=
  (s.scan.stopping && n = s.scan.frame) || (n = s.scan.frame && s.testNext)
    || (n + 1 = s.scan.frame && s.scan.test && s.st.kind = 3)

end Sys2Proof.Machine
end

