-- ==== Sys2Proof/Machine/Cal.lean ====
section
/-!
DEFINITION. The calibration controller: the commands of CAL.CMD, the background passes, and reference capture
(spec/07_baseline_and_calibration.md R183 to R194).
-/

namespace Sys2Proof.Machine

/-! ### Coefficients (R186, R187) -/

/-- The key of a coefficient. -/
def coefId (item index : Nat) : Nat := 256 * item + index

/-- How many indices an item has; 0 for a reserved item (R186). -/
def itemSize (item : Nat) : Nat :=
  if item ≤ 4 then 96
  else if item = 5 || item = 7 || item = 8 then 4
  else if item = 6 then 1
  else if item = 9 || item = 0x0A then 2
  else if item = 0x0B || item = 0x0C then 8
  else 0

/-- Whether a coefficient is a signed number (R186). -/
def coefSigned (k : Nat) : Bool :=
  k / 256 = 1 || k / 256 = 6 || k / 256 = 7 || k / 256 = 0x0B || k = 0x0901 || k = 0x0A01

/-- A coefficient before calibration data is loaded: no offset, nominal gain (log 30). -/
def coefNominal (k : Nat) : Nat := if coefSigned k then 0 else 0x8000

/-- The coefficient in use. -/
def State.coef (s : State) (k : Nat) : Nat := aget (coefNominal k) k s.coefs.used

/-- Every coefficient, in ascending order of item and index. -/
def allCoefs : List Nat :=
  (List.range 13).flatMap fun i => (List.range (itemSize i)).map fun j => coefId i j

/-- The factory calibration region (03 R73). -/
def State.factoryRegion (s : State) : List (Nat × Byte) :=
  s.nvs.cells.filter fun c => 0x60000 ≤ c.1 && c.1 < 0x6FF80

/-- The factory value of a coefficient; the built-in default where FCALDEF is set (03 R67; log 4). -/
def State.factory (s : State) (k : Nat) : Nat :=
  if s.flag R.DEVICE_BOOT_FCALDEF then Config.defaultCoef (k / 256) (k % 256) % 65536
  else Config.factoryCoef s.factoryRegion (k / 256) (k % 256) % 65536

/-- Whether a value lies in its coefficient's plausibility window (R187; log 4). -/
def coefOk (k v : Nat) : Bool :=
  let w := Config.coefWindow (k / 256) (k % 256)
  if coefSigned k then signed16 w.1 ≤ signed16 v && signed16 v ≤ signed16 w.2 else w.1 ≤ v && v ≤ w.2

/-- The first result that lies outside its window. -/
def firstBad (l : List (Nat × Nat)) : Option Nat := (l.find? fun p => !coefOk p.1 p.2).map Prod.fst

/-- Results are accepted: they apply from the next FRAME_START on (R186). -/
def State.acceptCoefs (s : State) (l : List (Nat × Nat)) : State :=
  { s with coefs := { s.coefs with next := l.foldl (fun m p => aput p.1 p.2 m) s.coefs.next } }

/-- The coefficients that wait apply (R186). -/
def State.applyCoefs (s : State) : State := { s with coefs := ⟨s.coefsAccepted, []⟩ }

/-! ### Results (R193) -/

/-- The end of a calibration command or background pass. -/
def State.calDone (s : State) (op reason item index : Nat) : State :=
  let s := ((s.set R.CAL_RESULT_REASON reason).set R.CAL_RESULT_OP op).set R.CAL_RESULT_ITEM item
  let s := ((s.set R.CAL_RESULT_INDEX index).wrap R.CAL_RESULT_SEQ).irq irqCal
  s.event 0x30 op reason item index 0

/-- The end of the foreground command. -/
def State.calEnds (s : State) (reason item index : Nat) : State :=
  let op := s.get R.CAL_STAT_OP
  let s := s.set R.CAL_STAT_BUSY 0
  let s := { s with cal := { s.cal with
      arg := 0, vals := [], again := false, abort := false, capture := none, outPhase := 0
      slot := if s.cal.slotBg then s.cal.slot else [] } }
  s.calDone op reason item index

/-! ### The commands of CAL.CMD (R188) -/

/-- The TXFLT bit of a pin. -/
def State.txFault (s : State) (p : Nat) : Bool := bit (s.get (R.DRIVE_TXFLT (p / 32))) (p % 32)

/-- Keeps a capture's progress. -/
def State.withCapture (s : State) (c : Capture) : State := { s with cal := { s.cal with capture := some c } }

/-- The lowest order of R185 at which the running frame fails; 0 for none. A tile whose stored baselines have another tag than the
scanned frame fails like a change of the tag: what a capture saves has the tag that is scanned (05 R140; log 118). -/
def State.captureCheck (s : State) (c : Capture) : Nat :=
  let has (m : Nat) : Bool := s.nodes.any fun p => s.flagsAt p.1 p.2 &&& m != 0
  if s.get R.DEVICE_BOOT_STAGE ≠ 7 || !s.scan.started then 1
  else if has (Flag.masked ||| Flag.new) || (List.range 160).any s.txFault
      || (List.range s.ownRx).any (fun c => !s.flag (R.SLICE_CH_EN (c / 24) (c % 24))) || s.isLive Kind.flexLost then 2
  else if has (Flag.frozen ||| Flag.suspect ||| Flag.fast) || s.pipe.tracks.any (fun t => t.id ≠ 0) then 3
  else if !s.scan.ovl.isEmpty then 4
  else if s.scan.tag ≠ c.tag || s.nodes.any (fun p => s.baseTagAt p.1 p.2 ≠ s.scan.tag) then 5
  else 0

/-- The reason code of an order of R185. -/
def captureReason (order : Nat) : Nat :=
  match order with
  | 1 => 0xD
  | 2 => 4
  | 3 => 3
  | 4 => 5
  | 5 => 6
  | 6 => 7
  | 7 => 8
  | 8 => 0xC
  | 9 => 0xE
  | _ => 0

/-- The baselines of the configured nodes, in the units of the frame in force. -/
def State.baseImage (s : State) : List Int := s.nodes.map fun p =>
  let b := s.baseAt p.1 p.2
  if b = noValue then b else rescale (s.baseTagAt p.1 p.2) s.scan.tag p.2 b

/-- The reference record that the baselines give, each under the tag that its tile has (R184); residual -128 where a node has no
reference. -/
def State.buildReference (s : State) : RefRec :=
  let cols := s.ownRx
  let b1 := (List.range s.ntx).map fun d => (List.range cols).map fun c =>
    let b := s.baseAt d c
    if b = noValue || hasFlag (s.flagsAt d c) Flag.masked then none
    else some (roundDiv (b * 768) ((s.baseTagAt d c).sigma c))
  let rows := b1.map fun r => median (r.filterMap id)
  let colsB := (List.range cols).map fun c =>
    median ((b1.zip rows).filterMap fun p => (p.1.getD c none).map (· - p.2))
  let res := (b1.zip rows).map fun p => (p.1.zip colsB).map fun q =>
    match q.1 with
    | none => -128
    | some v =>
      let r := v - p.2 - q.2
      if 65535 < v || 254 < r.natAbs then -128 else roundDiv r 2
  ⟨0, rows, colsB, res⟩

/-- The lower of two orders of R185, where 0 is none. -/
def worst (a b : Nat) : Nat := if a = 0 then b else if b = 0 then a else min a b

/-- ROOT of a cascade, which captures on every device (R184). -/
def State.leads (s : State) : Bool := s.inCascade && s.panel.pos = 0

/-- The store's part of this device's capture has ended: 0 for OK. In a cascade ROOT ends the command when every device has told
its end (R184, R193; log 108). -/
def State.captureWrote (s : State) (result : Nat) : State :=
  let code (r : Nat) : Nat := if r = 0 then 0 else 0xC
  match s.cal.capture with
  | none => s
  | some c =>
    if c.led then (s.calEnds (code result) 0 0).send (.captureDone result)
    else if s.leads then
      let c := { c with wrote := aput 0 result c.wrote }
      if (0 :: s.reachable).all fun p => c.wrote.any fun q => q.1 = p
      then s.calEnds (code (sumNat (c.wrote.map (·.2)))) 0 0 else s.withCapture c
    else s.calEnds (code result) 0 0

/-- The capture is decided with an order of R185: 0 lets this device write its record (R184). -/
def State.captureDecided (s : State) (order : Nat) : State :=
  match s.cal.capture with
  | none => s
  | some c =>
    if order ≠ 0 then s.calEnds (captureReason order) 0 0
    else
      let s := s.withCapture { c with left := 0, writing := true }
      match s.startCapture s.ntx s.ownRx (c.content.getD ⟨0, [], [], []⟩) with
      | none => s.captureWrote 1
      | some t => t

/-- ROOT orders the writes once every device it reaches has found nothing, and ends the command where one has (R184). -/
def State.tryVerdict (s : State) : State :=
  match s.cal.capture with
  | none => s
  | some c =>
    let order := c.found.foldl (fun a p => worst a p.2) 0
    let all := (0 :: s.reachable).all fun p => c.found.any fun q => q.1 = p
    if c.writing || c.led || !(all || order = 1) then s
    else (s.send (.captureVerdict order)).captureDecided order

/-- This device's finding in a capture (R184, R185). -/
def State.captureFound (s : State) (c : Capture) (order : Nat) : State :=
  let s := s.withCapture { c with left := 0, found := aput s.panel.pos order c.found }
  if c.led then s.send (.captureResult order) else if s.leads then s.tryVerdict else s.captureDecided order

/-- The sixteenth frame of a capture: the rest of R185. -/
def State.finishCapture (s : State) (c : Capture) : State :=
  let moved := (s.nodes.zip (s.baseImage.zip c.base)).any fun p =>
    decide (s.scan.tag.thr p.1.2 (s.inForce R.BASE_THR_TRKTH) < ((p.2.1 - p.2.2).natAbs : Int))
  let r := s.buildReference
  let bad := (r.res.flatten.filter fun x => x = -128).length
  let order := if c.fail ≠ 0 then c.fail else if moved then 6 else if s.nodes.length < 100 * bad then 7 else 0
  s.captureFound { c with content := some r } order

/-- One frame of a capture; after the sixteenth, ROOT looks again at what the other devices have told. The tag of the first frame
is the one that must last (R185). -/
def State.captureFrame (s : State) (c : Capture) : State :=
  if c.left = 0 then (if c.writing then s.captureWrote (aget 0 0 c.wrote) else s.tryVerdict)
  else
    let c := if c.left = 16 then { c with tag := s.scan.tag, base := s.baseImage } else c
    let fail := worst c.fail (s.captureCheck c)
    let c := { c with fail := fail, frame := s.scan.frame, left := c.left - 1 }
    if fail = 1 then s.captureFound c 1
    else if c.left = 0 then s.finishCapture c
    else (s.set R.CAL_STAT_PROG (16 - c.left)).withCapture c

/-- Whether a capture may take its next step: a frame has passed, or scanning has stopped; ROOT may also look again. -/
def State.captureMay (s : State) (c : Capture) : Bool :=
  if c.left = 0 then s.leads && (!c.writing || c.wrote.any fun q => q.1 = 0)
  else s.scan.frame ≠ c.frame || !s.scan.started

/-- Starts a foreground command. A background pass pauses, and begins its slice again afterwards (R190). -/
def State.calStart (s : State) (op arg : Nat) : State :=
  let s := ((s.set R.CAL_STAT_BUSY 1).set R.CAL_STAT_OP op).set R.CAL_STAT_PROG 0
  { s with cal := { s.cal with
      arg := arg, vals := [], again := false, abort := false, capture := none, outPhase := 0, bgPaused := true } }

/-- A capture begins: a relocation that runs is abandoned (03 R86). `led`: ROOT has ordered it. -/
def State.captureBegins (s : State) (led : Bool) : State :=
  ((s.calStart 4 0).abandonReloc).withCapture ⟨16, s.scan.frame, [], s.scan.tag, 0, false, [], [], led, none⟩

/-- A command whose condition does not hold ends at once with STATE. -/
def State.calState (s : State) (op : Nat) : State :=
  ((s.set R.CAL_STAT_OP op).set R.CAL_STAT_PROG 0).calDone op 0xD 0 0

/-- The first output of the mask that is still to be calibrated. -/
def State.calOutput (s : State) : Option Nat := (List.range 8).find? (bit s.cal.arg)

/-- The next output of AOUT_CAL follows, which VREFA is checked for first; after the last one the command ends. -/
def State.calNextOutput (s : State) : State :=
  if s.calOutput.isSome then { s with cal := { s.cal with outPhase := 0 } } else s.calEnds 0 0 0

/-- The output that AOUT_CAL holds at a test code, if any, returns. -/
def State.outputReturns (s : State) : State :=
  match s.calOutput with
  | some n => if s.get R.CAL_STAT_OP = 3 && s.cal.outPhase ≠ 0 then s.outCalEnds n else s
  | none => s

/-- A step of a foreground command is completing: of FE_CAL in its listen slot, of LF_TRIM, or of AOUT_CAL at a test code
(R188, 16 R406). -/
def State.calStepRuns (s : State) : Bool :=
  s.flag R.CAL_STAT_BUSY && match s.get R.CAL_STAT_OP with
    | 1 => !s.calSlices.isEmpty && !s.cal.slotBg
    | 2 => true
    | 3 => s.cal.outPhase ≠ 0
    | _ => false

/-- PD3 stops with no step completing: a capture that writes nothing yet ends with STATE, for scanning has stopped (R185), and
another command with ABORT (R188). -/
def State.calStops (s : State) : State :=
  if !s.flag R.CAL_STAT_BUSY then s
  else
    match s.cal.capture with
    | some c => if c.writing then s else s.captureFound { c with fail := 1 } 1
    | none => s.calEnds 0xE 0 0

/-- ABORT: the running foreground command ends; a capture whose store write has begun goes on (R188; log 31). In a cascade the
other devices of a capture are told (log 108). -/
def State.calAbort (s : State) : State :=
  if !s.flag R.CAL_STAT_BUSY then s
  else
    match s.cal.capture with
    | some c =>
      if c.writing then s
      else if c.led then (s.calEnds 0xE 0 0).send (.captureResult 9)
      else (if s.leads then s.send (.captureVerdict 9) else s).calEnds 0xE 0 0
    | none => s.outputReturns.calEnds 0xE 0 0

/-- Whether a capture may begin on this device (R185 order 1). -/
def State.mayCapture (s : State) : Bool := s.get R.DEVICE_BOOT_STAGE = 7 && s.scan.started

/-- A write of CAL.CMD (R188). `root`: it reaches a cascade member through ROOT. -/
def State.calCommand (s : State) (root : Bool) (op arg : Nat) : State :=
  if 5 < op || (op = 1 && (arg = 0 || 15 < arg)) || (op = 3 && arg = 0) then s.wrerr 0x19 0x20
  else if op = 5 then s.calAbort
  else if s.flag R.CAL_STAT_BUSY then s.set R.CAL_STAT_REFUSED 1
  else
    match op with
    | 1 => if s.scan.started && s.listenLong then s.calStart 1 arg else s.calState 1
    | 2 => if s.inRun && (!s.flag R.CLOCK_TBSTAT_LFXOK || s.flag R.CLOCK_LFCTL) then s.calStart 2 0 else s.calState 2
    | 3 => if s.pd5 && s.get R.DEVICE_BOOT_STAGE = 7 then (s.calStart 3 arg) else s.calState 3
    | 4 =>
      if !s.mayCapture || (s.inCascade && s.panel.pos ≠ 0 && !root) then s.calState 4
      else (if s.leads then s.send .captureCheck else s).captureBegins false
    | _ => s

/-! ### A capture across a cascade (R184; log 108) -/

/-- ROOT orders this member to check the conditions of R185. -/
def State.captureOrdered (s : State) : State :=
  if s.flag R.CAL_STAT_BUSY || !s.mayCapture then s.send (.captureResult 1) else s.captureBegins true

/-- A member's finding has come to ROOT. -/
def State.captureAnswer (s : State) (p order : Nat) : State :=
  match s.cal.capture with
  | some c => (s.withCapture { c with found := aput p order c.found }).tryVerdict
  | none => s

/-- ROOT's verdict has come to this member. -/
def State.captureVerdict (s : State) (order : Nat) : State :=
  match s.cal.capture with
  | some c => if c.led && !c.writing then s.captureDecided order else s
  | none => s

/-- A member has told ROOT how its lines were written. -/
def State.captureTold (s : State) (p result : Nat) : State :=
  match s.cal.capture with
  | some c =>
    let t := s.withCapture { c with wrote := aput p result c.wrote }
    if c.wrote.any fun q => q.1 = 0 then t.captureWrote (aget 0 0 c.wrote) else t
  | none => s

/-! ### Front-end calibration (R189, R190) -/

/-- The items that a step measures. -/
def stepItems (step : Nat) : List Nat :=
  match step with
  | 1 => [0, 1]
  | 2 => [2]
  | 3 => [3, 4]
  | _ => [5]

/-- The coefficients of a step, item by item, then slice by slice. -/
def stepCoefs (slices : List Nat) (step : Nat) : List Nat :=
  (stepItems step).flatMap fun i => slices.flatMap fun k =>
    if i = 5 then [coefId 5 k] else (List.range 24).map fun j => coefId i (24 * k + j)

/-- Adds a step's results to those of the steps before. -/
def addResults (keys vals : List Nat) (l : List (Nat × Nat)) : List (Nat × Nat) :=
  (keys.zip (vals ++ List.replicate (keys.length - vals.length) 0)).foldl (fun m p => aput p.1 (p.2 % 65536) m) l

/-- The listen slot of a step has ended: of FE_CAL, or of a background pass. -/
def State.slotOver (s : State) (bg : Bool) : Bool := !s.cal.slot.isEmpty && s.cal.slotBg = bg && s.calSlices.isEmpty

/-- The step of the slot is told. -/
def State.slotTold (s : State) : State :=
  { s with cal := { s.cal with slot := [], stepFrame := s.cal.slotFrame } }

/-- One listen-slot step of FE_CAL. `disagree`: the first quantity whose two measurements differ by more than 0.5 %. -/
def State.feStep (s : State) (disagree : Option (Byte × Byte)) (vals : List Nat) : State :=
  let slices := s.cal.slot
  let step := s.get R.CAL_STAT_PROG + 1
  let s := s.slotTold
  if s.cal.abort then s.calEnds 0xE 0 0
  else
    match disagree with
    | some (i, n) =>
      if s.cal.again then s.calEnds 2 i.toNat n.toNat
      else { s with cal := { s.cal with again := true } }
    | none =>
      let l := addResults (stepCoefs slices step) vals s.cal.vals
      let s := { s with cal := { s.cal with vals := l, again := false } }
      let s := s.set R.CAL_STAT_PROG step
      if step < 4 then s
      else
        match firstBad l with
        | some k => s.calEnds 1 (k / 256) (k % 256)
        | none => (s.acceptCoefs l).calEnds 0 0 0

/-- FE_CAL may take a step: its listen slot has ended, or it is aborted between two slots (R188, R189). -/
def State.feMay (s : State) : Bool := s.slotOver false || (s.cal.abort && s.calSlices.isEmpty)

/-- A background pass is due (R190). -/
def State.bgDue (s : State) : Bool :=
  let p := s.get R.CAL_SCHED_PERIOD
  let d := s.get R.CAL_SCHED_TDELTA
  (p ≠ 0 && 1000000 * p ≤ tbDiff s.pow.tb s.cal.bgTb)
    || (d ≠ 0 && (List.range 4).any fun i =>
      match s.cal.bgTemps[i]? with
      | some t => 16 * d < (signed16 (s.get (R.GOV_TS i)) - t).natAbs
      | none => false)

/-- A background pass starts, or is blocked by a short LISTEN word. -/
def State.bgStart (s : State) : State :=
  let s := s.setFlag R.CAL_STAT_BGBLOCK (!s.listenLong)
  if !s.listenLong then s
  else
    { s with cal := { s.cal with
        bg := true, bgSlice := 0, bgStep := 0, bgVals := [], bgAgain := false, bgPaused := true, bgTb := s.pow.tb
        bgTemps := (List.range 4).map fun i => signed16 (s.get (R.GOV_TS i)) } }

/-- A background pass ends. -/
def State.bgEnds (s : State) (reason item index : Nat) : State :=
  let s := { s with cal := { s.cal with bg := false, bgStep := 0, bgSlice := 0, bgVals := [], bgAgain := false } }
  let s := s.calDone 1 reason item index
  if reason = 0 then s else s.eventFault Kind.calReject 0 reason

/-- One step of a background pass. It completes though a foreground command has begun meanwhile; the slice then begins again
(R190). The results of the four slices are checked, and taken or rejected, together at the end of the pass, which R190 leaves open
(DESIGN CHOICE, log 118). -/
def State.bgStepOne (s : State) (disagree : Option (Byte × Byte)) (vals : List Nat) : State :=
  let step := s.cal.slotStep + 1
  let s := s.slotTold
  match disagree with
  | some (i, n) =>
    if s.cal.bgAgain then s.bgEnds 2 i.toNat n.toNat
    else { s with cal := { s.cal with bgStep := step - 1, bgAgain := true } }
  | none =>
    let l := addResults (stepCoefs [s.cal.bgSlice] step) vals s.cal.bgVals
    let c := { s.cal with bgVals := l, bgAgain := false, bgStep := step }
    if step < 4 then { s with cal := c }
    else if s.cal.bgSlice < 3 then { s with cal := { c with bgSlice := s.cal.bgSlice + 1, bgStep := 0 } }
    else
      match firstBad l with
      | some k => s.bgEnds 1 (k / 256) (k % 256)
      | none => (s.acceptCoefs l).bgEnds 0 0 0

/-- A background pass does not start beside foreground commands, acquisitions and test frames (R190). -/
def State.bgMay (s : State) : Bool :=
  !s.cal.bg && !s.flag R.CAL_STAT_BUSY && s.base.acq.isNone && !s.scan.test && s.mode ≠ 3 && s.bgDue

/-- CAL.STAT.BG: the listen slot that runs belongs to a background step. -/
def State.bgRuns (s : State) : Bool := !s.calSlices.isEmpty && s.cal.slotBg

/-! ### LF and output calibration (R191, R192) -/

/-- The end of LF_TRIM with the code found. -/
def State.lfEnds (s : State) (code : BitVec 8) : State :=
  let k := coefId 6 0
  let v := unsigned16 code.toInt
  if s.cal.abort then s.calEnds 0xE 0 0
  else if 8 < (code.toInt - signed16 (s.factory k)).natAbs || !coefOk k v then s.calEnds 1 6 0
  else (s.acceptCoefs [(k, v)]).calEnds 0 0 0

/-- Output n holds the test code of a phase; each one is held for 500 µs (R192). -/
def State.outCode (s : State) (n phase : Nat) : State :=
  let s := (if phase = 1 then s.outCal n else s.set (R.AOUT_OUT n) 0xF000).updStage n fun o => { o with holdTb := s.pow.tb }
  { s with cal := { s.cal with outPhase := phase } }

/-- The 500 µs of a test code have passed. -/
def State.outHeld (s : State) (n : Nat) : State := s.advanceTo ((s.aout.stages.getD n ⟨false, 0, 0, false⟩).holdTb + 500)

/-- AOUT_CAL ends on output n with a reason. -/
def State.outFails (s : State) (n reason item : Nat) : State := s.outputReturns.calEnds reason item n

/-- The load of output n at 0xF000 is measured: its coefficients are accepted, and the next output follows (R187, R192). -/
def State.outAccepts (s : State) (n offset gain : Nat) : State :=
  match firstBad [(coefId 0x0B n, offset), (coefId 0x0C n, gain)] with
  | some k => s.outFails n 1 (k / 256)
  | none =>
    let s := s.outputReturns.acceptCoefs [(coefId 0x0B n, offset), (coefId 0x0C n, gain)]
    let s := { s with cal := { s.cal with arg := s.cal.arg - 2 ^ n } }
    (s.set R.CAL_STAT_PROG (s.get R.CAL_STAT_PROG + 1)).calNextOutput

/-- Output n is not, or no longer, to be driven at a test code: it is OFF by a short, which ends the command with SHORT, or by a
loss of AVO or PD5, or parked, which ends it with STATE (15 R396 to R400; log 55). -/
def State.outGone (s : State) (n : Nat) : State :=
  if bit (s.get R.AOUT_FLT_SHORT) n then s.calEnds 9 0x0B n else s.calEnds 0xD 0 0

/-- The next step of AOUT_CAL on output n, which it takes from LIVE or APRON; it waits for the end of a span hold (15 R388, R393): VREFA is checked before the first code; then the two codes in turn, each with its
current limit, and the load at the second (R192). -/
def State.outStep (s : State) (n : Nat) (vrefOk short loaded : Bool) (offset gain : Nat) : State :=
  if s.cal.outPhase = 0 then
    if s.cal.abort then s.calEnds 0xE 0 0
    else if s.outState n = 3 then s
    else if s.outState n = 0 then s.outGone n
    else if !vrefOk then s.calEnds 0xB 0x0B n
    else s.outCode n 1
  else if s.outState n ≠ 4 then s.outGone n
  else
    let s := s.outHeld n
    if s.cal.abort then s.outFails n 0xE 0
    else if short then s.outFails n 9 0x0B
    else if s.cal.outPhase = 1 then s.outCode n 2
    else if !loaded then s.outFails n 0xA 0x0B
    else s.outAccepts n offset gain

/-- A foreground command of number `op` runs; it waits for a background step in progress (R190). -/
def State.calRuns (s : State) (op : Nat) : Bool := s.up && s.flag R.CAL_STAT_BUSY && s.get R.CAL_STAT_OP = op && !s.bgRuns

/-- A line program has ended: the last line of a capture, or a failed one, ends its store write, with STORE where a program has
failed (R185, R193). -/
def State.captureWritten (s : State) (result : Nat) : State :=
  match s.cal.capture with
  | some c => if c.writing && s.nvs.cap.isNone && !c.wrote.any (fun q => q.1 = s.panel.pos) then s.captureWrote result else s
  | none => s

/-! ### Commands -/

/-- The store's result of the line program under way, 0 for OK: an open value, since the spec does not say when a program fails
(07 R185; log 61). -/
def State.programResult (s : State) : Nat :=
  match s.nvs.prog with
  | some p => (Config.lineResult s.free p.line).toNat
  | none => 0

/-- LINE_PROGRAM_DONE (03 R87); the last line of a capture, or a failed one, ends CAPTURE_REF. -/
def execLineProgramDone (s : State) : Host.Outcome State Fault Refusal :=
  onlyIf (s.up && s.nvs.prog.isSome) s
    ((({ s with free := s.free + 1 }).lineDone s.programResult).captureWritten s.programResult)

/-- BACKGROUND_CALIBRATION (R190): one that runs ends the step of its listen slot; a pass that is due starts. -/
def execBackgroundCalibration (disagree : Option (Byte × Byte)) (vals : List Nat) (s : State) :
    Host.Outcome State Fault Refusal :=
  onlyIf (s.inRun && s.scan.started && (s.slotOver true || s.bgMay)) s
    (if s.slotOver true then s.bgStepOne disagree vals else s.bgStart)

end Sys2Proof.Machine
end

