-- ==== Sys2Proof/Machine/Angle.lean ====
section
/-!
DEFINITION. Exact helpers of geometry: integer square root, and the angle of a vector in 1/65,536 turn, rounded half
away from zero (spec/08_touch_pipeline_and_reports.md R216, R219; used by spec/11 R308 as well).
-/

namespace Sys2Proof.Machine

/-- The largest r with r² at most n, for n below 2^128. -/
def isqrt (n : Nat) : Nat :=
  (List.range 64).foldl (fun r i => let t := r + 2 ^ (63 - i); if t * t ≤ n then t else r) 0

/-- √n rounded half away from zero. -/
def roundSqrt (n : Nat) : Nat := (isqrt (4 * n) + 1) / 2

/-- Fixed point: one is 2^120. -/
def fpOne : Int := 2 ^ 120

/-- atan(1 / n) in fixed point, by its series, for n at least 2. -/
def atanInv (n : Nat) : Int :=
  (List.range 64).foldl (fun a k =>
    let term := fpOne / (((2 * k + 1) * n ^ (2 * k + 1) : Nat) : Int)
    if k % 2 = 0 then a + term else a - term) 0

/-- π in fixed point (Machin's formula). -/
def fpPi : Int := 4 * (4 * atanInv 5 - atanInv 239)

/-- Angle of (x, y), both at least 0 and not both 0, by successive rotations by atan(2^-i), in fixed point. -/
def atanQuarter (x y : Nat) : Int :=
  let start : Int × Int × Int := ((x : Int) * fpOne, (y : Int) * fpOne, 0)
  ((List.range 100).foldl (fun (p : Int × Int × Int) i =>
    let (a, b, t) := p
    let step := if i = 0 then fpPi / 4 else atanInv (2 ^ i)
    if b = 0 then p
    else if 0 < b then (a + b / 2 ^ i, b - a / 2 ^ i, t + step)
    else (a - b / 2 ^ i, b + a / 2 ^ i, t - step)) start).2.2

/-- Angle of (dx, dy), not both 0, measured from +x toward +y, in 1/65,536 turn. -/
def angle16 (dx dy : Int) : Nat :=
  let t : Int := if dy = 0 then 0 else if dx = 0 then fpPi / 2 else atanQuarter dx.natAbs dy.natAbs
  let q := roundDiv (t * 32768) fpPi.toNat
  let q := if dx < 0 then 32768 - q else q
  ((if dy < 0 then -q else q) % 65536).toNat

/-- The values of the angle of (x, y) within 1 unit of the exact one (11 R308): three where the exact angle is a whole
number of units, on the axes and the diagonals, else the two around it. -/
def angleNear (x y : Int) : List Nat :=
  let t : Int := if y = 0 then 0 else if x = 0 then fpPi / 2 else atanQuarter x.natAbs y.natAbs
  let t := if x < 0 then fpPi - t else t
  let t := if y < 0 then -t else t
  if x = 0 || y = 0 || x.natAbs = y.natAbs then
    [-1, 0, 1].map fun k : Int => ((roundDiv (t * 32768) fpPi.toNat + k) % 65536).toNat
  else [0, 1].map fun k : Int => ((t * 32768 / fpPi + k) % 65536).toNat

end Sys2Proof.Machine
end

