-- ==== Sys2Proof/Machine/Controls.lean ====
section
/-!
DEFINITION. Virtual controls: capture, release, values and outputs (spec/08_touch_pipeline_and_reports.md R217 to R220).
-/

namespace Sys2Proof.Machine

/-- An event that a frame's report commits: type, source, three parameters and flags (R225). -/
structure Ev where
  type : Nat
  src : Nat
  p0 : Nat
  p1 : Nat
  p2 : Nat
  flags : Nat
  deriving DecidableEq, Repr

/-- Control k. -/
def State.control (s : State) (k : Nat) : Control :=
  s.pipe.controls.getD k ⟨0, 0, 0, 0, 0, 0, 0, 0, 0, 0, 0, false, false⟩

/-- Replaces control k. -/
def State.setControl (s : State) (k : Nat) (c : Control) : State :=
  { s with pipe := { s.pipe with controls := upd s.pipe.controls k fun _ => c } }

/-- Writes a value into the input register of an output; 0xF names none (R220). -/
def State.writeOut (s : State) (out v : Nat) : State :=
  if out < 8 then s.vendorWrite 0x20 (0x40 + 4 * out) (s.set (R.AOUT_IN out) v) else s

/-- A control takes values; a value that changes is written to its output (R220). -/
def State.controlValues (s : State) (k a b : Nat) : State :=
  let c := s.control k
  let s := if a ≠ c.a then s.writeOut c.outA a else s
  let s := if b ≠ c.b then s.writeOut c.outB b else s
  s.setControl k { c with a := a, b := b }

/-! ### Geometry (R217 to R219) -/

/-- The rectangle of control k's definition in force: X0, Y0, X1, Y1. -/
def State.rect (s : State) (k : Nat) : Int × Int × Int × Int :=
  (s.inForce (R.VCTRL_RECTA_X0 k), s.inForce (R.VCTRL_RECTA_Y0 k), s.inForce (R.VCTRL_RECTB_X1 k), s.inForce (R.VCTRL_RECTB_Y1 k))

/-- Twice the vector from the centre of the rectangle. -/
def State.fromCentre (s : State) (k : Nat) (x y : Int) : Int × Int :=
  let (x0, y0, x1, y1) := s.rect k
  (2 * x - (x0 + x1), 2 * y - (y0 + y1))

/-- A position lies inside control k (R218). -/
def State.inside (s : State) (k : Nat) (x y : Int) : Bool :=
  let (x0, y0, x1, y1) := s.rect k
  let (dx, dy) := s.fromCentre k x y
  let d2 := dx * dx + dy * dy
  let rin : Int := s.inForce (R.VCTRL_KNOBA_RIN k)
  let rout : Int := s.inForce (R.VCTRL_KNOBA_ROUT k)
  x0 ≤ x && x ≤ x1 && y0 ≤ y && y ≤ y1
    && (s.inForce (R.VCTRL_DEF_TYPE k) ≠ 3 || (4 * rin * rin ≤ d2 && d2 ≤ 4 * rout * rout))

/-- Position of a coordinate along an edge as a 16-bit value (R219). -/
def slide (v lo hi : Int) : Nat := (clampInt 0 65535 (roundDiv (65535 * (v - lo)) (hi - lo).toNat)).toNat

/-- Value A of a knob from the angle relative to START (R219). -/
def knobValue (rel span : Nat) : Nat :=
  if span = 0 then rel
  else if rel ≤ span then (roundDiv (65535 * rel) span).toNat
  else if 2 * (rel - span) ≤ 65536 - span then 65535 else 0

/-- Values of a captured control at a position. At the centre of a knob the angle is not stated: a free value. -/
def State.valuesAt (s : State) (k : Nat) (x y : Int) : Nat × Nat × State :=
  let (x0, y0, x1, y1) := s.rect k
  match s.inForce (R.VCTRL_DEF_TYPE k) with
  | 1 => (slide x x0 x1, 0, s)
  | 2 => (slide y y0 y1, 0, s)
  | 3 =>
    let (dx, dy) := s.fromCentre k x y
    let (th, s) := if dx = 0 ∧ dy = 0 then (let (v, t) := s.takeFree; (v % 65536, t)) else (angle16 dx dy, s)
    (knobValue ((th + 65536 - s.inForce (R.VCTRL_KNOBB_START k)) % 65536) (s.inForce (R.VCTRL_KNOBB_SPAN k)), 0, s)
  | _ => (slide x x0 x1, slide y y0 y1, s)

/-- The control's rectangle meets an area that a lost or shadowed position leaves masked (R219, 14 R378). -/
def State.meetsLost (s : State) (k : Nat) : Bool :=
  let (x0, y0, x1, y1) := s.rect k
  (s.panel.lost ++ (s.link.shadow.filter fun q => q.2 ≠ 0).map Prod.fst).any fun p =>
    let m := s.panel.map.getD p (0, 0)
    (decide (m.2 ≠ 0) && decide (64 * (s.rxBase p : Int) ≤ x1) && decide (x0 ≤ 64 * ((s.rxBase p + m.2 : Nat) - 1 : Int)))
      || (decide (m.1 ≠ 0) && decide (64 * (s.txBase p : Int) ≤ y1) && decide (y0 ≤ 64 * ((s.txBase p + m.1 : Nat) - 1 : Int)))

/-! ### Events and release -/

/-- The VCTRL event of control k as it stands, which makes its values the last posted ones. -/
def State.vctrlEvent (s : State) (k p2 flags : Nat) : State × List Ev :=
  let c := s.control k
  (s.setControl k { c with postA := c.a, postB := c.b }, [⟨0x10, k, c.a, c.b, p2, flags⟩])

/-- Control k is released under the definition that it holds: HOLD keeps the values, RETURN sets the rest values. -/
def State.releaseControl (s : State) (k : Nat) : State :=
  let c := s.control k
  let s := if c.rel = 1 then s.controlValues k c.restA c.restB else s
  let c' := s.control k
  s.setControl k { c' with owner := 0, resting := c.rel = 1 }

/-- Whether the owner of control k still is there with an allowed class and no final record. -/
def State.ownerStays (s : State) (k : Nat) (c : Control) : Bool :=
  s.pipe.tracks.any fun t =>
    t.id = c.owner && (t.phase = 1 || t.phase = 2) && bit (s.inForce (R.VCTRL_DEF_CLASSES k)) t.cls

/-- The definition in force takes the place of the one that control k held. -/
def State.holdDefinition (s : State) (k : Nat) : State :=
  let c := s.control k
  s.setControl k { c with
    typ := s.inForce (R.VCTRL_DEF_TYPE k), rel := s.inForce (R.VCTRL_DEF_REL k)
    restA := s.inForce (R.VCTRL_REST_A k), restB := s.inForce (R.VCTRL_REST_B k)
    outA := s.inForce (R.VCTRL_DEF_OUTA k), outB := s.inForce (R.VCTRL_DEF_OUTB k) }

/-- Control k takes its rest values and writes them to its outputs. -/
def State.toRest (s : State) (k : Nat) : State :=
  let c := s.control k
  let s := (s.writeOut c.outA c.restA).writeOut c.outB c.restB
  s.setControl k { c with a := c.restA, b := c.restB, resting := true }

/-- Whether A or B differs enough from its last posted value (R220). -/
def State.stepDue (s : State) (k : Nat) : Bool :=
  let c := s.control k
  let st := 256 * s.inForce (R.VCTRL_DEF_EVSTEP k)
  let far (v w : Nat) : Bool := v ≠ w && st ≤ (v - w) + (w - v)
  far c.a c.postA || far c.b c.postB

/-- The contact that captures control k in the frame: the lowest ID of those that qualify (R218). -/
def State.capturer (s : State) (k : Nat) : Option Track :=
  (s.pipe.tracks.filter fun t =>
    t.phase = 1 && !t.suspect && bit (s.inForce (R.VCTRL_DEF_CLASSES k)) t.cls && s.inside k t.x t.y).foldl
    (fun a t => match a with
      | none => some t
      | some b => if t.id < b.id then some t else a) none

/-- The owner of a captured control moves its values. -/
def State.followOwner (s : State) (k : Nat) : State :=
  let c := s.control k
  match s.pipe.tracks.find? fun t => t.id = c.owner with
  | some t => let (a, b, s) := s.valuesAt k t.x t.y; s.controlValues k a b
  | none => s

/-- One control in one frame: the events it posts, a release before a capture (R217 to R220). `owners` collects the
IDs that own a control in the frame. -/
def State.runControl (st : State × List Ev × List Nat) (k : Nat) : State × List Ev × List Nat :=
  let (s, evs, owners) := st
  let c := s.control k
  let typ := s.inForce (R.VCTRL_DEF_TYPE k)
  let owners := if c.owner ≠ 0 then c.owner :: owners else owners
  if typ = 0 then
    let (s, e) := if c.owner ≠ 0 then (s.releaseControl k).vctrlEvent k c.owner 4 else (s, [])
    let c' := s.control k
    (s.setControl k { c' with typ := 0, resting := false, faulted := false }, evs ++ e, owners)
  else
    let first := c.typ = 0
    let s := s.holdDefinition k
    let s := if first then s.toRest k else s
    if s.meetsLost k then
      let s := if c.faulted then s else
        let c' := s.control k
        s.setControl k { c' with owner := 0 }
      let c' := s.control k
      let s := if c.faulted && !c'.resting then s else s.controlValues k c'.restA c'.restB
      if c.faulted then
        let (s, e) := if s.stepDue k then s.vctrlEvent k 0 0 else (s, [])
        (s, evs ++ e, owners)
      else
        let c'' := s.control k
        let resting := if c.owner ≠ 0 then c.rel = 1 else c''.resting
        let (s, e) := (s.setControl k { c'' with faulted := true, resting := resting }).vctrlEvent k c.owner 8
        (s, evs ++ e, owners)
    else
      let c1 := s.control k
      let s := s.setControl k { c1 with faulted := false }
      let (s, rel) := if c.owner ≠ 0 && !s.ownerStays k c then (s.releaseControl k).vctrlEvent k c.owner 4 else (s, [])
      let c2 := s.control k
      if c2.owner ≠ 0 then
        let s := s.followOwner k
        let (s, e) := if s.stepDue k then s.vctrlEvent k c2.owner 0 else (s, [])
        (s, evs ++ rel ++ e, owners)
      else
        match s.capturer k with
        | some t =>
          let s := (s.setControl k { c2 with owner := t.id, resting := false }).followOwner k
          let (s, e) := s.vctrlEvent k t.id 2
          (s, evs ++ rel ++ e, t.id :: owners)
        | none =>
          let s := if c2.resting then s.controlValues k c2.restA c2.restB else s
          let (s, e) := if s.stepDue k then s.vctrlEvent k 0 0 else (s, [])
          (s, evs ++ rel ++ e, owners)

/-- All controls of a frame: events in ascending control index, and the IDs that own one. -/
def State.runControls (s : State) : State × List Ev × List Nat :=
  (List.range 16).foldl State.runControl (s, [], [])

end Sys2Proof.Machine
end

