-- ==== Sys2Proof/Machine/Report.lean ====
section
/-!
DEFINITION. Contacts, gestures, automatic glove mode and the frame's report (spec/08_touch_pipeline_and_reports.md
R209, R213 to R216, R221 to R226).
-/

namespace Sys2Proof.Machine

/-! ### Contacts (R213 to R215) -/

/-- Changes the track at an index. -/
def State.updTrack (s : State) (i : Nat) (f : Track → Track) : State :=
  { s with pipe := { s.pipe with tracks := upd s.pipe.tracks i f } }

/-- A contact is stale in a frame (R215). -/
def State.isStale (s : State) (fi : FrameInfo) (t : Track) : Bool :=
  t.id ≠ 0 && s.inForce R.BASE_STALE_SECS ≠ 0 && 1000000 * s.inForce R.BASE_STALE_SECS < tbDiff fi.tb t.downTb

/-- The class is one that PIPE.CTL.RPTMASK reports. -/
def State.reports (s : State) (cls : Nat) : Bool := bit (s.inForce R.PIPE_CTL_RPTMASK) cls

/-- A link is down, or a position is lost or shadowed (14 R379). -/
def State.degraded (s : State) : Bool :=
  s.inCascade && (s.get R.LINK_PORT_UPST ≠ 2 || s.get R.LINK_PORT_DNST ≠ 2 || !s.flag R.LINK_STAT_RING
    || !s.panel.lost.isEmpty || !s.link.lost.isEmpty || !s.link.shadow.isEmpty)

/-- The device's own nodes of a stale contact's blob receive FAST (R173). -/
def State.fastNodes (s : State) (l : List (Nat × Nat)) : State :=
  let base := s.rxBase s.panel.pos
  l.foldl (fun s p =>
    if base ≤ p.2 && p.2 < base + s.ownRx
    then s.setFlags p.1 (p.2 - base) (putFlag (s.flagsAt p.1 (p.2 - base)) Flag.fast true) else s) s

/-- Every node of a stale contact's blob receives FAST: ROOT tells the members of their parts (R173, R215; log 34). -/
def State.fastBlob (s : State) (t : Track) : State :=
  let away := t.parts.filter fun p => p.1 ≠ s.panel.pos
  let s := s.fastNodes t.nodes
  if away.isEmpty then s else s.send (.stale away)

/-- A member's nodes of those blobs receive FAST. -/
def State.takeStale (s : State) (parts : List (Nat × Nat × Nat)) : State :=
  let mine := s.pipe.subs.filter fun b => b.parts.any fun p => decide (p ∈ parts)
  s.deviceWrites fun s => mine.foldl (fun s b => s.fastNodes b.whole) s

/-- A track takes an ID from the head of the free queue: its DOWN record, from which V0 is taken (R210, R213). -/
def State.down (s : State) (fi : FrameInfo) (i : Nat) : State :=
  match s.pipe.freeIds with
  | [] => s
  | id :: rest =>
    ({ s with pipe := { s.pipe with freeIds := rest } }).updTrack i fun t =>
      { t with id := id, phase := 1, age := 0, downX := t.x.toNat, downY := t.y.toNat, downTb := fi.tb, far := false,
               drag := false, recX := t.x.toNat, recY := t.y.toNat, v0 := t.volume }

/-- The phase of one track in the frame, and the STALE event where it is stale (R213 to R215). `cancel`: CANCELALL or
REACQUIRE; `last`: no report follows (R148, R149), so no contact begins. -/
def State.phaseOf (fi : FrameInfo) (cancel last : Bool) (st : State × List Ev) (i : Nat) : State × List Ev :=
  let (s, evs) := st
  match s.pipe.tracks[i]? with
  | none => st
  | some t =>
    if t.id = 0 then
      if !t.barred && !t.ends && s.reports t.cls && !last then (s.down fi i, evs)
      else (s.updTrack i fun t => { t with phase := 0 }, evs)
    else
      let stale := s.isStale fi t
      let final := cancel || last || stale || !s.reports t.cls
      let phase := if final then 4 else if t.ends then 3 else 2
      let s := if stale then s.fastBlob t else s
      let s := s.updTrack i fun t =>
        { t with phase := phase, age := min 0xFFFFFFFF (t.age + 1), barred := t.barred || cancel, ends := t.ends || stale }
      (s, if stale then evs ++ [⟨0x32, t.id, t.x.toNat, t.y.toNat, min 0xFFFF (tbDiff fi.tb t.downTb / 1000000), 0⟩] else evs)

/-! ### Gestures (R216) -/

/-- Squared distance of a track from a point. -/
def Track.far2 (t : Track) (x y : Int) : Nat := ((t.x - x) * (t.x - x) + (t.y - y) * (t.y - y)).toNat

/-- The contacts that gestures consider: reported, of a class that takes part, and owning no control. -/
def State.actors (s : State) (owners : List Nat) : List Track :=
  s.pipe.tracks.filter fun t => t.phase ≠ 0 && (t.cls = 1 || t.cls = 2 || t.cls = 3) && decide (t.id ∉ owners)

/-- √a and √b differ by at least t: exactly, on squares. -/
def apart (a b t : Nat) : Bool :=
  let lo := min a b
  let hi := max a b
  lo + t * t ≤ hi && 4 * t * t * lo ≤ (hi - lo - t * t) * (hi - lo - t * t)

/-- round(1024 √(d2 / d0)). -/
def pinchScale (d2 d0 : Nat) : Nat := if d0 = 0 then 0 else (isqrt (4194304 * d2 / d0) + 1) / 2

/-- The end of a pinch: an event where it was active. -/
def State.pinchEnd (s : State) (p : Pinch) : State × List Ev :=
  let cancelled := s.pipe.tracks.any fun t => (t.id = p.lo || t.id = p.hi) && t.phase = 4
  ({ s with pipe := { s.pipe with pinch := none } },
    if p.active then [⟨0x06, p.lo, p.hi, min 0xFFFF p.scale, 0, b2n cancelled⟩] else [])

/-- One frame of a pair that qualifies. -/
def State.pinchStep (s : State) (lo hi : Track) : State × List Ev :=
  let d2 := lo.far2 hi.x hi.y
  match s.pipe.pinch with
  | none =>
    if d2 = 0 then (s, [])
    else ({ s with pipe := { s.pipe with pinch := some ⟨lo.id, hi.id, d2, false, 1024⟩ } }, [])
  | some p =>
    let starts := !p.active && apart d2 p.dist0 (8 * s.inForce R.PIPE_PINCH_PINCHTH)
    let e1 : List Ev := if starts then [⟨0x04, lo.id, hi.id, min 0xFFFF (roundSqrt p.dist0), 0, 0⟩] else []
    let p := if starts then { p with active := true, scale := 1024 } else p
    let sc := pinchScale d2 p.dist0
    let step := p.active && s.inForce R.PIPE_PINCH_PSTEP ≤ (sc - p.scale) + (p.scale - sc)
    let e2 : List Ev := if step then [⟨0x05, lo.id, hi.id, min 0xFFFF sc, 0, 0⟩] else []
    ({ s with pipe := { s.pipe with pinch := some (if step then { p with scale := min 0xFFFF sc } else p) } }, e1 ++ e2)

/-- The pinch in a frame. -/
def State.pinchFrame (s : State) (owners : List Nat) : State × List Ev :=
  let pair := match s.actors owners with
    | [a, b] =>
      if a.phase = 2 && b.phase = 2 && s.inForce R.PIPE_GEST_PINCHEN ≠ 0 then
        some (if a.id < b.id then (a, b) else (b, a)) else none
    | _ => none
  match s.pipe.pinch, pair with
  | some p, some (a, b) =>
    if p.lo = a.id && p.hi = b.id then s.pinchStep a b
    else
      let (s, e) := s.pinchEnd p
      let (s, e') := s.pinchStep a b
      (s, e ++ e')
  | some p, none => s.pinchEnd p
  | none, some (a, b) => s.pinchStep a b
  | none, none => (s, [])

/-- A contact takes part in an active pinch. -/
def State.pinching (s : State) (id : Nat) : Bool :=
  match s.pipe.pinch with
  | some p => p.active && (p.lo = id || p.hi = id)
  | none => false

/-- The count of a tap that ends now. -/
def State.tapCount (s : State) (t : Track) : Nat :=
  match s.pipe.tap with
  | some p =>
    let dx := (p.x : Int) - t.downX
    let dy := (p.y : Int) - t.downY
    let m := 16 * s.inForce R.PIPE_GEST_MOVE
    if p.count = 1 && tbDiff t.downTb p.tb ≤ 4000 * s.inForce R.PIPE_GEST_DTAPGAP && (dx * dx + dy * dy).toNat < m * m
    then 2 else 1
  | none => 1

/-- Taps and drags of the track at an index. -/
def State.tapDrag (fi : FrameInfo) (owners : List Nat) (st : State × List Ev) (i : Nat) : State × List Ev :=
  let (s, evs) := st
  match s.pipe.tracks[i]? with
  | none => st
  | some t =>
    if t.phase = 0 then st
    else
      let actor := (t.cls = 1 || t.cls = 2 || t.cls = 3) && decide (t.id ∉ owners)
      let m := 8 * s.inForce R.PIPE_GEST_MOVE
      let far := t.far || m * m ≤ t.far2 t.downX t.downY
      let starts := actor && far && !t.far && !t.drag && s.inForce R.PIPE_GEST_DRAGEN ≠ 0 && !s.pinching t.id
      let e1 : List Ev := if starts then [⟨0x02, t.id, t.downX, t.downY, 0, 0⟩] else []
      let drag := t.drag || starts
      let final := t.phase = 3 || t.phase = 4
      let e2 : List Ev := if drag && final then
          [⟨0x03, t.id, unsigned16 (t.x - t.downX), unsigned16 (t.y - t.downY),
            min 0xFFFF (tbDiff fi.tb t.downTb / 1000), b2n (t.phase = 4)⟩] else []
      let tap := actor && t.phase = 3 && !far && s.inForce R.PIPE_GEST_TAPEN ≠ 0
        && tbDiff fi.tb t.downTb ≤ 4000 * s.inForce R.PIPE_GEST_TAPMAX
      let n := s.tapCount t
      let e3 : List Ev := if tap then [⟨0x01, t.id, t.x.toNat, t.y.toNat, n, 0⟩] else []
      let s := s.updTrack i fun t => { t with far := far, drag := drag && !final }
      (if tap then { s with pipe := { s.pipe with tap := some ⟨fi.tb, t.x.toNat, t.y.toNat, n⟩ } } else s,
        evs ++ e1 ++ e2 ++ e3)

/-- Inserts an event in the order of R226: ascending SRC, then TYPE. -/
def Ev.place (e : Ev) : List Ev → List Ev
  | [] => [e]
  | h :: t => if e.src < h.src || (e.src = h.src && e.type < h.type) then e :: h :: t else h :: Ev.place e t

/-! ### Records (R222 to R224) -/

/-- FORCE (R210); where V0 is 0 the quotient is not stated and the value is free (log 1). -/
def State.force_ (s : State) (t : Track) : Nat × State :=
  if t.cls = 5 then (0, s)
  else if t.v0 = 0 then (let (v, s) := s.takeFree; (v % 256, s))
  else ((min 255 (roundDiv (64 * t.volume) t.v0.toNat)).toNat, s)

/-- The 16 bytes of a contact record, appended to those of the records before it (R224). COAST marks a track that is
unmatched in the frame, its last one too (R212; log 90). -/
def State.record (fi : FrameInfo) (owners : List Nat) (st : State × List Byte) (t : Track) : State × List Byte :=
  let (s, out) := st
  let (force, s) := s.force_ t
  let moved := t.phase ≠ 1 && (t.x ≠ t.recX || t.y ≠ t.recY)
  let state := t.phase + 8 * b2n moved + 16 * b2n t.suspect + 32 * b2n t.edge + 64 * b2n (decide (t.id ∈ owners))
    + 128 * b2n (t.coast ≠ 0 && !fi.frozen)
  (s, out ++ toBytes 1 t.id ++ toBytes 1 state ++ toBytes 1 t.cls ++ toBytes 1 force ++ toBytes 2 t.x.toNat
    ++ toBytes 2 t.y.toNat ++ toBytes 2 t.area ++ toBytes 2 t.peak ++ toBytes 4 t.age)

/-- Inserts a track in ascending ID order. -/
def Track.place (t : Track) : List Track → List Track
  | [] => [t]
  | h :: l => if t.id < h.id then t :: h :: l else h :: Track.place t l

/-- The header flags of the report (R222); the members' lists tell of their nodes and channels. -/
def State.reportFlags (s : State) (fi : FrameInfo) : Nat :=
  fi.flags ||| (b2n s.degraded <<< 5) ||| s.pipe.listFlags ||| (b2n (!s.suspects.isEmpty) <<< 6) ||| (b2n (!fi.ovl.isEmpty) <<< 7) ||| (b2n s.pipe.full <<< 8)
    ||| (b2n s.pipe.gap <<< 9)

/-- The DEVS bits of a frame at its commit: a position that is lost by now contributes nothing (14 R375, R378). -/
def State.devsNow (s : State) (fi : FrameInfo) : Nat :=
  s.link.lost.foldl (fun a p => if bit a p then a - 2 ^ p else a) fi.devs

/-- Header bytes 0x00 to 0x1D (R222). -/
def State.header (s : State) (fi : FrameInfo) (count flags qseq latus : Nat) : List Byte :=
  toBytes 1 0xC1 ++ toBytes 1 count ++ toBytes 2 qseq ++ toBytes 4 fi.frame ++ toBytes 6 fi.tb ++ toBytes 2 flags
    ++ toBytes 1 fi.oppt ++ toBytes 1 fi.fidx ++ toBytes 1 fi.vtx ++ toBytes 1 (fi.mode + 4 * b2n fi.govEn)
    ++ toBytes 2 (min 0xFFFF latus) ++ toBytes 2 fi.scanUs ++ toBytes 1 (s.devsNow fi) ++ toBytes 1 fi.voids
    ++ toBytes 1 fi.nf ++ toBytes 1 s.pipe.tracks.length ++ toBytes 2 0

/-- A whole report with its CRC (R223). -/
def reportBytes (head contacts : List Byte) : List Byte := head ++ toBytes 2 (crc16 (head ++ contacts)) ++ contacts

/-- The IDs of final records return to the queue in ascending order, and ended tracks go (R213). -/
def State.retire (s : State) : State :=
  let gone := ((s.pipe.tracks.filter fun t => t.phase = 3 || t.phase = 4).foldl (fun l t => Track.place t l) []).map (·.id)
  let ts := (s.pipe.tracks.filter fun t => !t.ends).map fun t =>
    if t.phase = 4 then { t with id := 0, phase := 0, age := 0 } else { t with recX := t.x.toNat, recY := t.y.toNat, phase := 0 }
  { s with pipe := { s.pipe with tracks := ts, freeIds := s.pipe.freeIds ++ gone } }

/-- Tracks that end without an ID go as well; PIPE.STAT is a reading of what is held. -/
def State.reportedTracks (s : State) : Nat := (s.pipe.tracks.filter fun t => t.id ≠ 0).length

/-! ### Automatic glove mode (R209) -/

/-- A glove frame: a NORMAL frame with 3 or more 8-connected nodes that are candidates and not on. A frame without a
mutual burst has no g (05 R125). -/
def State.gloveFrame (s : State) (fi : FrameInfo) : Bool :=
  let cand := s.nodes.filter fun p =>
    !s.isOn p.1 p.2 && s.hasSignal fi p.1 p.2
      && scaled fi.tag p.2 (s.inForce R.PIPE_GLOVE_CANDPK) fi.kpt 32 ≤ s.gAt p.1 p.2
  fi.mode = 0 && fi.hasMutual && (regions cand).any fun r => 3 ≤ r.length

/-- The vendor program's decision on the scan mode (R209). -/
def State.autoGlove (s : State) (fi : FrameInfo) : State :=
  let hist := (s.gloveFrame fi :: s.pipe.glove).take 16
  let s := { s with pipe := { s.pipe with
      glove := hist, idleTb := if s.pipe.tracks.isEmpty && fi.mode = 1 then s.pipe.idleTb else fi.tb } }
  if s.inForce R.PIPE_CTL_AUTOGLV = 0 then s
  else if fi.mode = 0 && s.inForce R.PIPE_GLOVE_ENTER ≤ (s.pipe.glove.filter id).length then
    s.vendorWrite 0x15 0x20 (s.writeMode 1 1)
  else if fi.mode = 1 && s.pipe.tracks.isEmpty
      && 1000000 * s.inForce R.PIPE_GLOVE_LEAVE ≤ tbDiff fi.tb s.pipe.idleTb then
    s.vendorWrite 0x15 0x20 (s.writeMode 0 1)
  else s

/-! ### The report (R221, R226) -/

/-- Posts events in order. -/
def State.postEvents (s : State) (l : List Ev) : State :=
  l.foldl (fun s e => s.event e.type e.src e.p0 e.p1 e.p2 e.flags) s

/-- The MODE events that waited for a report. -/
def State.modeEvents (s : State) : List Ev := s.pipe.modes.map fun m => ⟨0x20, m.1, m.2.1, m.2.2.1, m.2.2.2, 0⟩

/-- Stages 9 to 11 with REPORT_COMMIT, `latus` µs after the frame's FRAME_START. -/
def State.report (s : State) (fi : FrameInfo) (latus : Nat) : State :=
  let last := s.lastReport fi.frame
  let n := List.range s.pipe.tracks.length
  let (s, stale) := n.foldl (State.phaseOf fi s.pipe.cancelAll last) (s, [])
  let (s, vctrl, owners) := s.runControls
  let (s, pinch) := s.pinchFrame owners
  let (s, drags) := n.foldl (State.tapDrag fi owners) (s, [])
  let gestures := (pinch ++ drags).foldl (fun l e => e.place l) []
  let rec_ := (s.pipe.tracks.filter fun t => t.phase ≠ 0).foldl (fun l t => t.place l) []
  let (s, contacts) := rec_.foldl (State.record fi owners) (s, [])
  let s := s.retire
  let s := s.autoGlove fi
  let flags := s.reportFlags fi
  let skip := s.inForce R.PIPE_CTL_IDLE ≠ 0 && rec_.isEmpty && s.pipe.lastCount = 0 && some flags = s.pipe.lastFlags
  let s := if skip then s else
    let t := s.push 0 false fun q => reportBytes (s.header fi rec_.length flags q latus) contacts
    { t with pipe := { t.pipe with lastFlags := some flags, lastCount := rec_.length, gap := false } }
  let s := if s.inCascade then s.set R.LINK_STAT_PRESENT (s.devsNow fi) else s
  let s := s.postEvents (vctrl ++ gestures ++ s.modeEvents ++ stale)
  { s with pipe := { s.pipe with cancelAll := false, modes := [] } }

end Sys2Proof.Machine
end

