-- ==== Sys2Proof/Machine/Access.lean ====
section
/-!
DEFINITION. Access to one engine, and an engine's access to data: its memory view and what XMODE guards, its delayed writes,
and its write buffer (spec/09 R230 to R233, R252; spec/10 R257, R267, R268).
-/

namespace Sys2Proof.Machine

/-! ### One engine -/

/-- Engine e. -/
def State.eng (s : State) (e : Nat) : Engine := s.engines.getD e (Engine.reset e)

/-- Changes engine e. -/
def State.setEng (s : State) (e : Nat) (f : Engine → Engine) : State := { s with engines := upd s.engines e f }

/-- Changes the registers of engine e. -/
def State.setCore (s : State) (e : Nat) (f : Core → Core) : State := s.setEng e fun g => { g with core := f g.core }

/-- Sets bits of FEVT of engine e (09 R233). -/
def State.setFevt (s : State) (e b : Nat) : State := s.setEng e fun g => { g with fevt := g.fevt ||| b }

/-- Clears bits of FEVT of engine e. -/
def State.clearFevt (s : State) (e b : Nat) : State := s.setEng e fun g => { g with fevt := g.fevt &&& (0xFF ^^^ b) }

/-- The bits of FEVT (09 R233). -/
def fevtFrame : Nat := 1
def fevtAbandon : Nat := 2
def fevtPark : Nat := 4
def fevtDoorbell : Nat := 8

/-- The reservation of engine e is lost (10 R278). -/
def State.dropRsv (s : State) (e : Nat) : State := s.setCore e fun c => { c with rsv := none }

/-! ### Data addresses (09 R230, 10 R257) -/

/-- Where a data address lies; none for 0x1000 to 0x1FFF. -/
def Engine.place (g : Engine) (a : Nat) : Option Place :=
  let a := a % 65536
  if a < 0x1000 then some (.ram a)
  else if a < 0x2000 then none
  else some (.frame (g.win.getD (a / 0x2000 - 1) 0 * 0x2000 + a % 0x2000))

/-- The granule of a frame address. -/
def granule (a : Nat) : Nat := a / 0x2000

/-- The engine runs the code of an extension task, not a handler (09 R251; log 23). -/
def Engine.inExt (g : Engine) : Bool :=
  match g.xmode with
  | some x => x.2 = g.core.depth
  | none => false

/-- Whether a write to a place is accepted under XMODE (09 R252); local RAM is not restricted (log 24). -/
def Engine.accepts (g : Engine) (p : Place) : Bool :=
  !g.inExt ||
    match p with
    | .ram _ => true
    | .frame a => decide (28 ≤ granule a % 32)
    | .port n => decide (n ∉ [0x11, 0x12, 0x13, 0x22, 0x23, 0x2A])

/-- The byte of memory that engine e sees at a place: not yet what it has written too recently (10 R267). -/
def State.seen (s : State) (e : Nat) (p : Place) : Byte :=
  let g := s.eng e
  match p with
  | .ram a => Memory.read g.ram a
  | .frame a =>
    match g.hidden.find? fun h => h.2.1 = a with
    | some h => h.2.2
    | none => Memory.read s.fmem a
  | .port _ => 0

/-! ### The results of Sloe (11 R310, R311) -/

/-- The bin of an element. -/
def histBin (v lo : Int) (shift nbins : Nat) : Nat := (clampInt 0 ((nbins : Int) - 1) ((v - lo) / 2 ^ shift)).toNat

/-- The result of SPEAK: value, row, column, and the number of elements not skipped. -/
def peakBytes (l : List (Int × Nat × Nat)) : List Byte :=
  match l with
  | [] => toBytes 2 0x8000 ++ toBytes 1 0xFF ++ toBytes 1 0xFF ++ toBytes 2 0
  | h :: t =>
    let best := t.foldl (fun a p => if a.1 < p.1 then p else a) h
    toBytes 2 (unsigned16 best.1) ++ toBytes 1 best.2.1 ++ toBytes 1 best.2.2 ++ toBytes 2 l.length

/-- The little-endian words that bytes spell. -/
def wordPairs : List Byte → List Nat
  | lo :: hi :: t => (lo.toNat + 256 * hi.toNat) :: wordPairs t
  | _ => []

/-- The result of an operation over elements in row order, those of 0x8000 skipped, with the counts that are there. -/
def SloeOp.result (op : SloeOp) (ncol : Nat) (elems counts : List Nat) : List Byte :=
  let l := elems.zipIdx.filterMap fun p => if p.1 = 0x8000 then none else some (signed16 p.1, p.2 / ncol, p.2 % ncol)
  match op with
  | .peak => peakBytes l
  | .hist _ lo shift nbins =>
    (List.range nbins).flatMap fun k =>
      toBytes 2 (min 0xFFFF (counts.getD k 0 + (l.filter fun p => histBin p.1 lo shift nbins = k).length))

/-- The number of count words that an operation reads. -/
def SloeOp.counts (op : SloeOp) : Nat :=
  match op with
  | .hist false _ _ nbins => nbins
  | _ => 0

/-- The bytes of the result: each byte that the operation reads has one of the values that it has had since the issue (log 18). -/
def Sloe.bytes (o : Sloe) : List Byte :=
  let read := o.src.zipIdx.map fun p => p.1.2.getD (min (Config.sloeReads o.key p.2) (p.1.2.length - 1)) 0
  let n := o.src.length / 2 - o.op.counts
  o.op.result o.ncol (wordPairs (read.take (2 * n))) (wordPairs (read.drop (2 * n)))

/-- The bytes that are read take note of the values that they have now. -/
def State.noteSloe (s : State) (e : Nat) : State :=
  match (s.eng e).core.sloe with
  | none => s
  | some o =>
    let src := o.src.map fun p =>
      match p.1 with
      | some q => if p.2.getLastD 0 = s.seen e q then p else (p.1, p.2 ++ [s.seen e q])
      | none => p
    s.setCore e fun c => { c with sloe := some { o with src := src } }

/-- The byte that engine e reads at a place: not yet what it has written too recently (10 R267), and old or new where a
Sloe operation is pending (11 R311). -/
def State.readPlace (s : State) (e : Nat) (p : Place) : Byte :=
  let now := s.seen e p
  match (s.eng e).core.sloe with
  | some o =>
    match o.dst.reverse.find? fun w => w.1 = p with
    | some w =>
      let key := match p with | .ram a => a | .frame a => 0x10000 + a | .port a => a
      if Config.earlyByte s.free key then o.bytes.getD w.2 0 else now
    | none => now
  | none => now

/-- The byte at a data address; 0x1000 to 0x1FFF reads 0x00 (10 R259). -/
def State.readData (s : State) (e a : Nat) : Byte :=
  match (s.eng e).place a with
  | some p => s.readPlace e p
  | none => 0

/-- A multi-byte operand at address p, least significant byte first (11 R293). -/
def State.readWide (s : State) (e p n : Nat) : Nat := ofBytes ((List.range n).map fun i => s.readData e (p + i))

/-- Stall cycles of one access to a place, uncontended (09 R231; log 25). -/
def stallOf (e : Nat) (p : Option Place) : Nat :=
  match p with
  | some (.frame a) => if a / 0x40000 = e / 8 then 2 else 6
  | _ => 0

/-! ### Delayed writes (10 R267, R268) -/

/-- Puts a delayed write behind those that become visible no later. -/
def Late.place_ (w : Late) : List Late → List Late
  | [] => [w]
  | h :: t => if w.due < h.due then w :: h :: t else h :: Late.place_ w t

/-- Engine e issues a write that becomes visible after `after_` slots. -/
def State.later (s : State) (e after_ : Nat) (p : Place) (v : Byte) : State :=
  s.setEng e fun g => { g with late := Late.place_ ⟨g.core.slot + after_, p, v, false⟩ g.late }

/-- A byte that the engine reads in place of one that left its buffer early changes. -/
def rehide (a : Nat) (v : Byte) : List (Nat × Nat × Byte) → List (Nat × Nat × Byte)
  | [] => []
  | h :: t => if h.2.1 = a then (h.1, a, v) :: t else h :: rehide a v t

/-- A delayed write becomes visible. To a byte that a write issued later has already reached (R232), it comes before that
one (R268). -/
def State.commit (s : State) (e : Nat) (w : Late) : State :=
  match w.place with
  | .ram a => s.setEng e fun g => { g with ram := Memory.write g.ram a w.val }
  | .frame a =>
    if (s.eng e).hidden.any fun h => h.2.1 = a then s.setEng e fun g => { g with hidden := rehide a w.val g.hidden }
    else s.frameWrite e a [w.val]
  | .port n => s.setEng e fun g =>
      let v := w.val.toNat
      if 0x11 ≤ n && n ≤ 0x17 then { g with win := upd g.win (n - 0x11) fun _ => v % 128 }
      else match n with
        | 0x20 => { g with tidStage := g.tidStage / 256 * 256 + v }
        | 0x21 => { g with tidStage := g.tidStage % 256 + 256 * v }
        | 0x28 => { g with fevt := g.fevt &&& (0xFF ^^^ (v &&& 0x0B)) }
        | 0x29 => { g with fevten := v % 16 }
        | _ => g

/-- The slot in which a delayed write was issued. -/
def Core.issued (c : Core) (w : Late) : Nat := if w.quince then (c.quince.map Prod.fst).getD 0 else w.due - 3

/-- The engine sees the bytes that left its buffer early and whose turn comes before that of a write with a slot of visibility
and a slot of issue (10 R267, R268). -/
def State.reveal (s : State) (e due issued : Nat) : State :=
  s.setEng e fun g => { g with hidden := g.hidden.filter fun h => !(h.1 < due || (h.1 = due && h.1 - 3 ≤ issued)) }

/-- The delayed writes that are due and of which `p` holds become visible in their order. -/
def State.commitSome (s : State) (e : Nat) (p : Late → Bool) : State :=
  let g := s.eng e
  let due (w : Late) : Bool := w.due ≤ g.core.slot && p w
  let s := s.setEng e fun g => { g with late := g.late.filter fun w => !due w }
  (g.late.filter due).foldl (fun s w => ((s.reveal e w.due (g.core.issued w)).commit e w).noteSloe e) s

/-- The delayed writes that are due become visible in their order. -/
def State.commitDue (s : State) (e : Nat) : State :=
  let s := s.commitSome e fun _ => true
  (s.reveal e (s.eng e).core.slot (s.eng e).core.slot).noteSloe e

/-! ### The write buffer (09 R232, 11 R307; log 109) -/

/-- The entries that have not left the buffer at a cycle. -/
def Engine.buffered (g : Engine) (now : Nat) : List Nat := g.wbuf.filter fun t => now < t

/-- Cycles that a frame-memory write waits at a cycle for one of the 4 entries. -/
def Engine.fullWait (g : Engine) (now : Nat) : Nat :=
  let l := g.buffered now
  if l.length < 4 then 0 else l.headD now - now

/-- Cycles at a cycle until the buffer is empty. -/
def Engine.emptyWait (g : Engine) (now : Nat) : Nat := (g.buffered now).getLastD now - now

/-- A write enters the buffer at a cycle; it leaves when the ones before it have left and its own access is served. -/
def Engine.enterBuffer (g : Engine) (e a now : Nat) : Engine :=
  let l := g.buffered now
  { g with wbuf := l ++ [l.getLastD now + stallOf e (some (.frame a))] }

/-- A frame-memory write that has not left its engine. -/
def Late.buffered (w : Late) : Bool :=
  match w.place with
  | .frame _ => !w.quince
  | _ => false

/-- A buffered write leaves the buffer: other requesters see it, the engine itself not before its slot. -/
def State.leaveBuffer (s : State) (e : Nat) (w : Late) : State :=
  match w.place with
  | .frame a =>
    let old := Memory.read s.fmem a
    (s.setEng e fun g => { g with hidden := g.hidden ++ [(w.due, a, old)] }).frameWrite e a [w.val]
  | _ => s

/-- The write buffer empties. -/
def State.drain (s : State) (e : Nat) : State :=
  let l := (s.eng e).late.filter Late.buffered
  let s := s.setEng e fun g => { g with late := g.late.filter (fun w => !w.buffered), wbuf := [] }
  l.foldl (fun s w => s.leaveBuffer e w) s

end Sys2Proof.Machine
end

