-- ==== Sys2Proof/Machine/Ring.lean ====
section
/-!
DEFINITION. Engines as the dispatcher and the work ring see them: the queues of the work ring, the life of a task, and the
active engines (spec/09 R229 to R248, spec/10 R278).
-/

namespace Sys2Proof.Machine

/-! ### The work ring (09 R239) -/

/-- Address of the control line of a queue. -/
def ctlLine (q : Nat) : Nat := (q / 8) * 0x40000 + 0x30000 + 8 * (q % 8)

/-- Address of the slot of index i of a queue. -/
def slotAddr (q i : Nat) : Nat := (q / 8) * 0x40000 + 0x30200 + 512 * (q % 8) + 16 * (i % 32)

/-- HEAD and TAIL of a queue. -/
def State.qHead (s : State) (q : Nat) : Nat := s.fm8 (ctlLine q)
def State.qTail (s : State) (q : Nat) : Nat := s.fm8 (ctlLine q + 1)

/-- Tasks that a queue holds. -/
def State.qCount (s : State) (q : Nat) : Nat := (s.qTail q + 256 - s.qHead q) % 256

/-- Indices of the live slots of a queue, oldest first. -/
def State.live (s : State) (q : Nat) : List Nat :=
  (List.range (min 32 (s.qCount q))).map fun i => (s.qHead q + i) % 256

/-- KIND and TID in a slot. -/
def State.slotKind (s : State) (q i : Nat) : Nat := s.fm8 (slotAddr q i)
def State.slotTid (s : State) (q i : Nat) : Nat := s.fm16 (slotAddr q i + 2)

/-- The 16 bytes of a descriptor (09 R238). -/
def Task.bytes (t : Task) : List Byte :=
  toBytes 1 t.kind ++ toBytes 1 t.buf ++ toBytes 2 t.tid ++ toBytes 2 t.frame ++ toBytes 2 t.row0 ++ toBytes 1 t.col0
    ++ toBytes 1 t.nrow ++ toBytes 1 t.ncol ++ toBytes 1 t.slice ++ toBytes 2 t.arg ++ toBytes 2 0

/-- The STATE byte of a queue's control line: ACTIVE, PARKREQ, STOPPED (09 R239). -/
def State.writeRingState (s : State) (e : Nat) : State :=
  let v := b2n (e ∈ s.disp.active) + 2 * b2n (s.disp.parkReq.any fun p => p.1 = e)
    + 4 * b2n ((s.eng e).state = .stopped)
  if s.fm8 (ctlLine e + 2) = v then s else s.frameWrite byDevice (ctlLine e + 2) [byteOf v]

/-- The STATE bytes of all queues. -/
def State.writeRingStates (s : State) : State := (List.range 32).foldl State.writeRingState s

/-- The queue has room for a descriptor: fewer than 32 tasks, and the target slot is EMPTY (09 R240). -/
def State.qRoom (s : State) (q : Nat) : Bool := s.qCount q < 32 && s.slotKind q (s.qTail q) = 0

/-- Posts a descriptor to a queue: slot, TAIL, the count of posted tasks, and every active engine's doorbell (09 R240). -/
def State.post (s : State) (q : Nat) (t : Task) : State :=
  let t := { t with tid := s.disp.tid, state := .posted q }
  let tail := s.qTail q
  let s := s.frameWrite byDevice (slotAddr q tail) t.bytes
  let s := s.frameWrite byDevice (ctlLine q + 1) [byteOf (tail + 1)]
  let s := s.wrap R.WORKRING_POSTED
  let s := { s with disp := { s.disp with tasks := s.disp.tasks ++ [t], tid := (s.disp.tid + 1) % 65536 } }
  s.disp.active.foldl (fun s e => s.setFevt e fevtDoorbell) s

/-- Active engines of a slice, lowest first. -/
def State.sliceEngines (s : State) (k : Nat) : List Nat :=
  (List.range 8).filterMap fun j => if 8 * k + j ∈ s.disp.active then some (8 * k + j) else none

/-- The queue of a waiting task: that of the engine chosen for it while that one is active, else that of the lowest active
engine of its slice, for the dispatcher posts only to active engines (09 R240, R246; log 111). -/
def State.queueFor (s : State) (q : Nat) (t : Task) : Nat :=
  if q ∈ s.disp.active then q else (s.sliceEngines t.slice).headD (s.disp.active.headD q)

/-- Posts the waiting tasks in their order until one must wait for its queue (09 R240). -/
def postAll : List (Nat × Task) → State → State
  | [], s => { s with disp := { s.disp with waiting := [] } }
  | (q, t) :: l, s =>
    if s.qRoom (s.queueFor q t) then postAll l (s.post (s.queueFor q t) t)
    else { s with disp := { s.disp with waiting := (q, t) :: l } }

/-! ### Tasks (09 R243) -/

/-- A posted task by its TID. -/
def State.taskOf (s : State) (tid : Nat) : Option Task := s.disp.tasks.find? fun t => t.tid = tid

/-- The task that engine e has taken or runs. -/
def State.heldTask (s : State) (e : Nat) : Option Task :=
  s.disp.tasks.find? fun t => t.state = .taken e || t.state = .running e

/-- A task's state changes. -/
def State.setTask (s : State) (tid : Nat) (st : TaskState) : State :=
  { s with disp := { s.disp with tasks := s.disp.tasks.map fun t => if t.tid = tid then { t with state := st } else t } }

/-- Engine e takes the tasks that a change of a control line removed from the live slots (09 R243). -/
def State.takeGone (s : State) (e q : Nat) (before : List Nat) : State :=
  (before.filter fun i => i ∉ s.live q).foldl (fun s i =>
    match s.taskOf (s.slotTid q i) with
    | some t => if t.state = .posted q then s.setTask t.tid (.taken e) else s
    | none => s) s

/-- TSTART: the staged TID is RUNNING on the engine (09 R233). -/
def State.tstart (s : State) (e : Nat) : State :=
  let tid := (s.eng e).tidStage
  let kind := match s.taskOf tid with | some t => t.kind | none => (s.eng e).kind
  let s := s.setEng e fun g => { g with task := true, tid := tid, kind := kind }
  match s.taskOf tid with
  | some t => if t.state = .taken e then s.setTask tid (.running e) else s
  | none => s

/-! ### Which engines are active (09 R234) -/

/-- Engines in the order of R234: k, then s. -/
def engineOrder : List Nat := (List.range 8).flatMap fun k => [k, 8 + k, 16 + k, 24 + k]

/-- The active engines for a count: stopped ones are counted out. -/
def State.activeFor (s : State) (n : Nat) : List Nat :=
  (engineOrder.filter fun e => (s.eng e).state ≠ .stopped).take n

/-- Engines not stopped. -/
def State.unstopped (s : State) : Nat := (engineOrder.filter fun e => (s.eng e).state ≠ .stopped).length

/-- The park requests after a change of the active set to `new` (09 R246). -/
def State.parkRequests (s : State) (new leaving : List Nat) : List (Nat × Option Nat) :=
  let asked := leaving.filter fun e => (s.eng e).state ≠ .stopped && (s.eng e).state ≠ .parked
  (s.disp.parkReq.filter fun p => decide (p.1 ∉ new)) ++ asked.map fun e => (e, some s.pow.tb)

/-- The active set becomes the one of a count: engines that leave it are asked to park, engines that come back are no
longer asked (09 R234, R246). -/
def State.setActive (s : State) (n : Nat) : State :=
  let new := s.activeFor n
  let leaving := s.disp.active.filter fun e => e ∉ new
  let s := { s with disp := { s.disp with
      nact := n, active := new, parkReq := s.parkRequests new leaving } }
  let s := (leaving.filter fun e => (s.eng e).state ≠ .stopped).foldl (fun s e => s.setFevt e fevtPark) s
  let s := new.foldl (fun s e => s.clearFevt e fevtPark) s
  s.writeRingStates

/-- At FRAME_START Nact is taken (09 R234). -/
def State.takeNact (s : State) (n : Nat) : State := s.setActive n

/-- Engine e stops: its reservation goes, what it has written is seen, and the next engine of the order takes its place
(09 R232, R234, R248). -/
def State.engStopped (s : State) (e : Nat) : State :=
  let s := (s.drain e).setEng e fun g => { g with state := .stopped, core := { g.core with rsv := none } }
  s.setActive s.disp.nact

end Sys2Proof.Machine
end

