-- ==== Sys2Proof/Machine/Boot.lean ====
section
/-!
DEFINITION. Resets, the boot sequence up to the first frame, and the supply and clock events
(spec/02_pins_power_entry_electrical.md R40 to R61, spec/03_startup_and_nonvolatile_store.md R63 to R80).
-/

namespace Sys2Proof.Machine

/-! ### Resets (03 R63, R64, R74) -/

/-- The line whose program is under way. -/
def Store.running (n : Store) : Option Nat := n.prog.map LineProg.line

/-- The store as a reset or a power loss leaves it: the line under way is spoilt, the record in progress is discarded, and
what it claimed is free (R74, R84). An owner-key line whose program is interrupted does not count as programmed, and the
count of saves is kept (DESIGN CHOICE, log 104). -/
def Store.stopped (n : Store) (c : Nat) : Store :=
  let m := match n.running with
    | some l => n.spoil c l
    | none => n
  { m with
    slots := m.slots.map fun v => if v.isClaimed then .free else v
    job := none, cap := none, reloc := none, prog := none }

/-- What a reset leaves besides register fields: everything at its reset state but the store, what the pins and supplies
bring from outside, and the model's own fields. -/
def State.afterReset (s : State) (pins : StrapPins) : State :=
  { State.reset with
    regs := []
    sup := { s.sup with on := true, portReady := false, oscHeld := false, refclk := true, pins := pins, lockout := false }
    pow := { State.reset.pow with wakereq := s.pow.wakereq }
    nvs := s.nvs.stopped s.free
    aout := { State.reset.aout with vref := s.aout.vref }
    scan := { State.reset.scan with blank := { Blank.reset with level0 := s.scan.blank.level0, level1 := s.scan.blank.level1 } }
    linkOut := if s.inCascade then (s.send (.leaving s.panel.pos)).linkOut else []
    free := if s.nvs.running.isSome then s.free + 9 else s.free
    pending := s.pending }

/-- The fields that a reset keeps: DEVICE.RSTCAUSE and the one-time fuse. -/
def resetKeeps : List Fld :=
  [R.DEVICE_RSTCAUSE_POR, R.DEVICE_RSTCAUSE_PIN, R.DEVICE_RSTCAUSE_SOFT, R.DEVICE_RSTCAUSE_LINK, R.TEST_STAT_FUSED]

/-- A field of `t` takes its value from `s`. -/
def State.keepField (s t : State) (f : Fld) : State := if s.get f = f.reset then t else t.set f (s.get f)

/-- The block after a reset, with its cause recorded. -/
def State.deviceReset (s : State) (cause : Fld) (pins : StrapPins) : State :=
  ((resetKeeps.foldl s.keepField (s.afterReset pins)).setFlag R.CLOCK_TBSTAT_LFXOK s.sup.lfx).set cause 1

/-- The block in OFF: only the store, the fuse and what comes from outside are left (R46, R53). -/
def State.powerOff (s : State) : State :=
  let t := s.deviceReset R.DEVICE_RSTCAUSE_POR s.sup.pins
  { t with sup := { t.sup with on := false, lfx := false }, linkOut := [] }

/-- The state of a device in OFF as its supply comes back: the causes of earlier resets are lost. -/
def State.supplied (s : State) (vio : Bool) : State :=
  let s := ((s.set R.DEVICE_RSTCAUSE_PIN 0).set R.DEVICE_RSTCAUSE_SOFT 0).set R.DEVICE_RSTCAUSE_LINK 0
  { s with sup := { s.sup with lfx := false, vioGood := vio } }

/-- A power-on reset (02 R46, R51; 03 R63). -/
def State.powerOn (s : State) (vio : Bool) (pins : StrapPins) : State :=
  (s.supplied vio).deviceReset R.DEVICE_RSTCAUSE_POR pins

/-! ### Straps (02 R43, R44) -/

/-- DEVICE.STRAPS[15:0]. -/
def State.straps16 (s : State) : Nat :=
  s.get R.DEVICE_STRAPS_ROOT + 2 * s.get R.DEVICE_STRAPS_APRON + 4 * s.get R.DEVICE_STRAPS_TESTEN
    + 16 * s.get R.DEVICE_STRAPS_ADDR + 256 * s.get R.DEVICE_STRAPS_BOOTSEL + 2048 * s.get R.DEVICE_STRAPS_AMBIG

/-- After boot a strap that read between two levels is told (02 R44). -/
def State.tellStraps (s : State) : State :=
  if s.flag R.DEVICE_STRAPS_AMBIG then s.eventFault Kind.strapAmbig 0 s.straps16 else s

/-! ### Bank selection (03 R79, R80) -/

/-- Verifies a bank at boot. -/
def State.verifyAtBoot (s : State) (b : Nat) : State × Nat := (s.verifyRead b, s.verifyImage b)

/-- Tries one bank: 0 where it boots, else its result; `trial`: bank state lines count (R80 step 3). The result of a
bank that is rejected unverified is a value that the spec leaves open (log 1). -/
def State.tryBank (trial : Bool) (s : State) (b : Nat) : State × Nat :=
  if trial && !s.bankConfirmed b then
    if s.bankTries b = 3 then
      let (v, s) := s.takeFree
      ((s.setBankState b false true 3).eventFault Kind.trialReject 0 b, 1 + v % 15)
    else
      let r := s.verifyAtBoot b
      if r.2 = 0 then ((r.1.setBankState b false false (s.bankTries b + 1)).set R.DEVICE_BOOT_TRIAL 1, 0) else r
  else s.verifyAtBoot b

/-- Tries banks in order: the bank that boots, and the results of the others. -/
def State.tryBanks (trial : Bool) (s : State) : List Nat → State × Option Nat × List (Nat × Nat)
  | [] => (s, none, [])
  | b :: t =>
    let r := s.tryBank trial b
    if r.2 = 0 then (r.1, some b, [])
    else
      let q := State.tryBanks trial r.1 t
      (q.1, q.2.1, (b, r.2) :: q.2.2)

/-- The device reads both bank headers, and both bank state lines where they count (R68 step 4). What it takes from a state
line with an uncorrectable error is what the line's open bytes say (log 61). -/
def State.readBanks (s : State) : State :=
  s.readLines ([0, 1, 4096, 4097] ++ if s.get R.DEVICE_STRAPS_BOOTSEL < 4 then [] else [stateLine 0, stateLine 1])

/-- The banks in the order in which they are tried, and whether the bank state lines count. -/
def State.bankOrder (s : State) : Bool × List Nat :=
  let sel := s.get R.DEVICE_STRAPS_BOOTSEL
  if sel < 4 then (false, [sel % 2, 1 - sel % 2])
  else
    let ok (b : Nat) : Bool := s.imageFormatOk b && !s.bankRejected b
    let l := if s.img32 1 0x0C ≤ s.img32 0 0x0C then [0, 1] else [1, 0]
    (true, l.filter ok)

/-- Bank selection: the bank that boots, or the results of both banks for NO_IMAGE (R72, R79, R80). -/
def State.selectBank (s : State) : State × Option Nat × Nat :=
  let o := s.bankOrder
  let r := s.tryBanks o.1 o.2
  match r.2.1 with
  | some b =>
    let s := r.1.set R.DEVICE_BOOT_BANK b
    (if o.2.head? = some b then s else (s.set R.DEVICE_BOOT_FALLBACK 1).eventFault Kind.bankFallback 0 b, some b, 0)
  | none =>
    let res (s : State) (b : Nat) : State × Nat :=
      if b ∈ r.2.2.map Prod.fst then (s, aget 0 b r.2.2)
      else if s.imageFormatOk b then let (v, s) := s.takeFree; (s, v % 16)
      else (s, 5)
    let a := res r.1 0
    let b := res a.1 1
    (b.1, none, a.2 % 16 + 16 * (b.2 % 16))

/-! ### Loading (03 R65 steps 7 and 8, R67; 07 R194; 09 R250) -/

/-- The instruction RAMs are loaded from the booted image. -/
def State.loadIram (s : State) (b : Nat) : State :=
  let code := Memory.readList s.nvs.cells (bankBase b + s.img32 b 0x18) (min (s.img32 b 0x1C) 65536)
  { s with iram := Memory.writeList [] 0 code }

/-- The field that a key of a configuration record names. -/
def findField (k : Nat) : Option Fld := configFields.find? fun f => f.key = k

/-- Sets the configuration fields that a list names, where the value is legal. -/
def State.applyValues (s : State) (l : List (Nat × Nat)) : State :=
  l.foldl (fun s p => match findField p.1 with
    | some f => if f.legal p.2 then s.set f p.2 else s
    | none => s) s

/-- The bytes of the image's configuration defaults. -/
def State.defSection (s : State) (b : Nat) : List Byte :=
  Memory.readList s.nvs.cells (bankBase b + s.img32 b 0x20) (min (s.img32 b 0x24) 0x20000)

/-- The configuration record that boot applies: the newest valid one with the image's CFGFMT (R67). -/
def State.bootRecord (s : State) : Option CfgRec :=
  match s.configRecord with
  | some r => if r.fmt = s.cfgFmt then some r else none
  | none => none

/-- The configuration is applied: the image's defaults, then the record (R65 step 7, R67; log 3). -/
def State.applyConfig (s : State) (b : Nat) : State :=
  let s := s.applyValues (Config.imageDefaults (s.defSection b))
  match s.configRecord with
  | none => s.set R.DEVICE_BOOT_CFGDEF 1
  | some r =>
    if r.fmt = s.cfgFmt then (s.clear configFields).applyValues r.vals
    else (s.set R.DEVICE_BOOT_CFGDEF 1).eventFault Kind.cfgMismatch 0 r.fmt

/-- The factory calibration is loaded and checked (R67). Whether an uncorrectable line among its own fails it R67 does not say: the
model raises NVS_ECC and judges the bytes as they read (DESIGN CHOICE, log 100). -/
def State.loadFactory (s : State) : State :=
  let s := s.readRegion 12288 14332
  let s := match Config.factoryBad s.factoryRegion with
    | none => s
    | some (i, n) => (s.set R.DEVICE_BOOT_FCALDEF 1).onset Kind.fcalBad 0 0 (256 * (i % 256) + n % 256)
  { s with coefs := ⟨allCoefs.map fun k => (k, s.factory k), []⟩ }

/-- The output coefficients that the configuration record saved; one outside its window keeps the factory value (07 R194). -/
def State.loadSaved (s : State) : State :=
  match s.bootRecord with
  | none => s
  | some r =>
    (r.vals.filter fun p => coefKey ≤ p.1).foldl (fun s p =>
      let k := p.1 - coefKey
      if coefOk k p.2 then { s with coefs := { s.coefs with used := aput k p.2 s.coefs.used } }
      else s.eventFault Kind.calCfgBad 0 (k % 256)) s

/-- The device reads the configuration region and finds the newest valid record of each type, a replaced one where the newer is
damaged (R74, R83). -/
def State.judgeSlots (s : State) : State :=
  let s := s.readRegion 8192 12288
  let cfg := s.newestSealed true
  let ref := s.newestSealed false
  let s := { s with nvs := { s.nvs with
    slots := List.replicate 16 .free, ref := none, records := s.nvs.records.filter s.sealedSound } }
  let s := match cfg with
    | some (.config k r) => s.setSlot k (.config r)
    | _ => s
  match ref with
  | some (.reference l r) =>
    let s := (l.zip (List.range l.length)).foldl (fun s p => s.setSlot p.1 (.reference r.seq p.2 l.length)) s
    { s with nvs := { s.nvs with ref := some r } }
  | _ => s

/-- The registers that describe the configuration region (03 R83, R84). -/
def State.regionRegs (s : State) : State :=
  let at_ (p : Slot → Bool) : Nat := (s.nvs.slots.findIdx? p).getD 0
  let s := s.set R.NVS_CFG_CFGSLOT (at_ fun v => v.isConfig)
  let first (v : Slot) : Bool := match v with
    | .reference _ i _ => i = 0
    | _ => false
  let len := (s.nvs.slots.filter Slot.isReference).length
  let s := (s.set R.NVS_CFG_REFFIRST (at_ first)).set R.NVS_CFG_REFLEN len
  s.set R.NVS_CFGSEQ ((s.nvs.slots.map Slot.seq).foldl max 0)

/-- The reference record is loaded (R67). -/
def State.loadReference (s : State) : State :=
  match s.nvs.ref with
  | some _ => s
  | none => (s.set R.DEVICE_BOOT_NOREF 1).onset Kind.noReference 0 0 0

/-- One entry of the extension table; none where it breaks R250. -/
def extEntry (iramLen : Nat) (l : List Byte) : Option ExtEntry :=
  let b (i : Nat) : Nat := (l.getD i 0).toNat
  let e : ExtEntry := ⟨b 0, b 1 % 2 = 1, b 2 + 256 * b 3, b 4 + 256 * b 5, b 6 + 256 * b 7, [b 8, b 9, b 10, b 11]⟩
  if b 0 ≤ 4 && b 1 < 2 && e.entry < iramLen && e.budget ≠ 0 && e.win.all (· ≤ 127)
      && b 12 = 0 && b 13 = 0 && b 14 = 0 && b 15 = 0 then some e else none

/-- The extension table of an image's EXT section; none where it is ignored as a whole (R250). -/
def extTable (iramLen : Nat) (l : List Byte) : Option (List ExtEntry) :=
  let n := (l.getD 3 0).toNat
  if l.take 3 = [0x45, 0x58, 0x01] && n ≤ 16 && (l.drop 4).take 4 = [0, 0, 0, 0] && l.length = 8 + 16 * n then
    (List.range n).mapM fun i => extEntry iramLen ((l.drop (8 + 16 * i)).take 16)
  else none

/-- Loads the extension table; an image without one has none (R250). -/
def State.loadExt (s : State) (b : Nat) : State :=
  let len := s.img32 b 0x2C
  if len = 0 then s
  else
    match extTable (s.img32 b 0x1C) (Memory.readList s.nvs.cells (bankBase b + s.img32 b 0x28) (min len 0x20000)) with
    | some l => { s with disp := { s.disp with ext := l, extOk := true } }
    | none => s.eventFault Kind.extTableBad 0 0

/-- The panel of a single device: MAP0 (14 R358). -/
def State.singlePanel (s : State) : State :=
  { s with panel := ⟨[(s.get (R.LINK_MAP_NTX 0), s.get (R.LINK_MAP_NRX 0))], 0, 1, [], [], []⟩ }

/-- The device is wired as a cascade: a member by its strap, or a ROOT whose configuration names two devices or more
(14 R358, R362). -/
def State.cascadeWired (s : State) : Bool := !s.flag R.DEVICE_STRAPS_ROOT || 2 ≤ s.get R.LINK_CFG_NDEV

/-- The engines run the vendor loop. -/
def State.startEngines (s : State) : State :=
  { s with engines := s.engines.map fun g => { g with state := .run, prior := .run } }

/-- Scanning and the acquisition start; while the configuration holds scanning, the acquisition waits for it (R65 step 9;
06 R149; 07 R176). -/
def State.acquire (s : State) : State :=
  let s := (s.set R.DEVICE_BOOT_STAGE 6).startAcq
  if s.held then s else s.startScan

/-- Steps 7 and 8 of the boot with bank `b`, and what follows them: the acquisition, or discovery in a cascade (R65, R66). -/
def State.bootBank (s : State) (b : Nat) : State :=
  let s := (((s.loadIram b).loadExt b).applyConfig b).apronAgain
  let s := (s.loadFactory.loadSaved.loadReference).plStart
  let s := s.singlePanel.startEngines
  if s.cascadeWired then
    ({ s with link := { s.link with discTb := s.pow.tb } }).set R.DEVICE_BOOT_STAGE 5
  else s.acquire

/-- The loader state (R72). -/
def State.loader (s : State) (results : Nat) : State :=
  let s := ((s.set R.DEVICE_BOOT_STAGE 8).set R.DEVICE_BOOT_BANK 2).onset Kind.noImage 0 0 results
  s.tellStraps

/-- The straps are sampled and the host port becomes ready: boot steps 3 and 4 (R65; 02 R50). The fault safe state holds
neither back: it stops drive, outputs and tasks (01 R34). -/
def State.hostReady (s : State) : State :=
  let s := s.sampleStraps
  ({ s with sup := { s.sup with portReady := true } }).set R.CLOCK_TBSTAT_SRC 0

/-- The boot sequence from the release of reset up to its first frame, discovery, or the loader state. -/
def State.boot (s : State) : State :=
  let s := s.hostReady
  let s := (s.setFlag R.NVS_STAT_KEYREQ s.keyReq).judgeSlots.regionRegs
  let s := (s.readBanks.updateSeq 0).updateSeq 1
  let r := s.selectBank
  match r.2.1 with
  | some b => r.1.bootBank b
  | none => r.1.plStart.loader r.2.2

/-! ### Commands -/

/-- POWER_ON (02 R46, 03 R63): the device leaves OFF. -/
def execPowerOn (vio : Bool) (pins : StrapPins) (s : State) : Host.Outcome State Fault Refusal :=
  onlyIf (!s.sup.on) s (s.powerOn vio pins)

/-- BOOT_SEQUENCE (03 R65): once per reset, with the rails and VIO good and the oscillator running. In the fault safe state
only the straps are sampled and the port becomes ready: no bank is selected and no task runs (01 R34; log 104). -/
def execBootSequence (s : State) : Host.Outcome State Fault Refusal :=
  onlyIf (s.up && s.sup.vioGood && s.get R.DEVICE_BOOT_STAGE = 0 && !s.sup.portReady && !s.sup.lockout) s
    (if s.flt.safe then s.hostReady else s.boot)

/-- CRYSTAL_RESTART (02 R52): without amplitude PD1 to PD5 are held in reset; with it they are released. -/
def execCrystalRestart (amplitude : Bool) (s : State) : Host.Outcome State Fault Refusal :=
  onlyIf (s.sup.on && s.get R.DEVICE_BOOT_STAGE = 0 && !s.sup.portReady) s
    { s with sup := { s.sup with oscHeld := !amplitude } }

/-- A lockout is detected (02 R53 steps 1 and 2): drive stops, the outputs are parked, and no new line program starts. In a
cascade the device says LEAVING (14 R377). -/
def State.lockOut (s : State) : State :=
  let s := { s with sup := { s.sup with lockout := true } }
  let s := if s.inCascade && s.pd1 then s.send (.leaving s.panel.pos) else s
  s.stopDrive.parkOutputs

/-- LOCKOUT_SHUTDOWN (02 R53, R54). In step 4 FAULT is asserted, and the host port and the two-wire port are released. A line program under way completes where the supply holds up, and is spoilt where not;
then the device is in OFF, whether VIN has returned meanwhile or not. -/
def execLockoutShutdown (step : LockoutStep) (s : State) : Host.Outcome State Fault Refusal :=
  match step with
  | .detected => onlyIf (s.sup.on && !s.sup.lockout) s s.lockOut
  | .released => onlyIf (s.sup.on && s.sup.lockout) s { s with sup := { s.sup with portReady := false } }
  | .off held => onlyIf s.sup.on s (if held then s.endLine 0 else s).powerOff

/-- RESETN_RESET (02 R40): ignored below 500 ns, certain from 2,000 ns on, and ignored while VIO is not good. -/
def execResetnReset (ns : Nat) (pins : StrapPins) (s : State) : Host.Outcome State Fault Refusal :=
  onlyIf (s.sup.on && s.sup.vioGood && (2000 ≤ ns || (500 ≤ ns && Config.resetnPasses ns))) s
    (s.deviceReset R.DEVICE_RSTCAUSE_PIN pins)

/-- LINK_RESET (03 R63): a reset from ROOT, at a cascade member. -/
def execLinkReset (s : State) : Host.Outcome State Fault Refusal :=
  onlyIf (s.up && s.flag R.DEVICE_STRAPS_SAMPLED && !s.flag R.DEVICE_STRAPS_ROOT) s
    (s.deviceReset R.DEVICE_RSTCAUSE_LINK s.sup.pins)

/-- VIO_LOSS (02 R51). -/
def execVioLoss (s : State) : Host.Outcome State Fault Refusal :=
  let t := ({ s with sup := { s.sup with vioGood := false } }).set R.TWOWIRE_STAT_JOINED 0
  done s (if s.up && s.flag R.DEVICE_STRAPS_SAMPLED && s.sup.vioGood then t.onset Kind.vioLoss 0 0 0 else t)

/-- VIO_RETURN (02 R51): the straps are not sampled again; before the boot they are sampled as they stand now. -/
def execVioReturn (pins : StrapPins) (s : State) : Host.Outcome State Fault Refusal :=
  done s ((({ s with sup := { s.sup with vioGood := true, pins := pins } }).set R.TWOWIRE_STAT_JOINED 0).ceases Kind.vioLoss 0)

/-- CLK_LOSS (02 R52), in RUN. -/
def execClkLoss (s : State) : Host.Outcome State Fault Refusal :=
  onlyIf s.inRun s (({ s with sup := { s.sup with refclk := false } }).onset Kind.clkLoss 0 0 0)

/-- THERMAL (02 R61): the die sensors and the collector are in PD0 (01 R19), which runs while the oscillator is held. -/
def execThermal (sensor : Fin 4) (s : State) : Host.Outcome State Fault Refusal :=
  onlyIf s.sup.on s (s.onset Kind.thermal sensor 0 sensor)

/-- Records the least accurate TB source used since the last acknowledgement (16 R420). -/
def State.tbSource (s : State) (src : Nat) : State :=
  let s := s.set R.CLOCK_TBSTAT_SRC src
  if s.get R.CLOCK_TBSTAT_ACC < src then s.set R.CLOCK_TBSTAT_ACC src else s

/-- The source of LFCLK: 1 the crystal, 2 the internal oscillator (02 R51, R57; CLOCK.LFCTL). -/
def State.lfSource (s : State) : Nat := if s.sup.lfx && !s.flag R.CLOCK_LFCTL then 1 else 2

/-- TB counts from LFCLK: in WATCH and HALT, and while the 24 MHz oscillator is held (16 R420, 02 R52). -/
def State.onLfclk (s : State) : Bool := s.sup.on && (s.sup.oscHeld || (s.pow.state ≠ .run && !s.flt.safe))

/-- LF_CRYSTAL_FAIL (16 R420): LFCLK comes from the internal oscillator. -/
def execLfCrystalFail (s : State) : Host.Outcome State Fault Refusal :=
  let t := ({ s with sup := { s.sup with lfx := false } }).set R.CLOCK_TBSTAT_LFXOK 0
  onlyIf s.sup.on s (if s.onLfclk then t.tbSource t.lfSource else t)

/-- LF_CRYSTAL_STABLE (02 R51, R57): never where LFXI is tied to GND. AON switches over also while the 24 MHz oscillator is held. -/
def execLfCrystalStable (s : State) : Host.Outcome State Fault Refusal :=
  let t := ({ s with sup := { s.sup with lfx := true } }).set R.CLOCK_TBSTAT_LFXOK 1
  onlyIf (s.sup.on && !s.sup.pins.lfGnd) s (if s.onLfclk then t.tbSource t.lfSource else t)

/-- VIN_LOW (02 R45): VIN below 35 V, or at 35 V and above again; the detail is VIN in 100 mV. Where VIN carries the VTX code
in force no longer, VTX drops out. The VIN monitor and the collector are in PD0 (01 R19), which runs while the oscillator is
held. -/
def execVinLow (below : Bool) (mv100 : BitVec 16) (s : State) : Host.Outcome State Fault Refusal :=
  let t := s.onset Kind.vinLow 0 0 mv100.toNat
  onlyIf s.sup.on s (if !below then s.ceases Kind.vinLow 0 else if s.vinDrops mv100.toNat then t.dropsOut else t)

end Sys2Proof.Machine
end

