-- ==== Sys2Proof/Machine/Exchange.lean ====
section
/-!
DEFINITION. What a device sends over the link for a frame: its cuff columns and its sub-blob list
(spec/14_cascade_and_halgon_link.md R372 to R374).
-/

namespace Sys2Proof.Machine

/-! ### Cuff columns (R373) -/

/-- The two own columns nearest the boundary on a side, nearest first: 0 lower, 1 upper. -/
def State.ownCuff (s : State) (side : Nat) : List Nat := if side = 0 then [0, 1] else [s.ownRx - 1, s.ownRx - 2]

/-- The signal of a node as stage 1 and R197 will form it: the baseline, rescaled, before this frame's update. -/
def State.cuffSignal (s : State) (fi : FrameInfo) (d c : Nat) : Int :=
  let raw := s.rawAt fi.frame d c
  let base := s.baseAt d c
  if raw = noValue || base = noValue || hasFlag (s.flagsAt d c) Flag.masked then noValue
  else clampInt (-32767) 32767 (rescale (s.baseTagAt d c) fi.tag c base - raw)

/-- The values of a part, two in each row: 0 signal, 1 filter state. -/
def State.cuffValues (s : State) (fi : FrameInfo) (side part : Nat) : List Int :=
  (List.range s.ntx).flatMap fun d => (s.ownCuff side).map fun c =>
    if part = 0 then s.cuffSignal fi d c else s.filtAt d c

/-- Whether there is a neighbour on a side: position k - 1 below, position k + 1 above. -/
def State.hasSide (s : State) (side : Nat) : Bool :=
  s.inCascade && (if side = 0 then s.panel.pos ≠ 0 else s.panel.pos + 1 < s.panel.ndev)

/-- Cuff columns pass across the boundary on a side: the link to the neighbour is up (14 R379). -/
def State.cuffLink (s : State) (side : Nat) : Bool := s.hasSide side && s.get (portState side) = 2

/-- A part goes to both neighbours. -/
def State.sendCuffs (s : State) (fi : FrameInfo) (part : Nat) : State :=
  ([0, 1].filter s.cuffLink).foldl (fun t side =>
    t.send (.cuff side part (fi.frame % 65536) (s.cuffValues fi side part)
      (if part = 0 then (s.ownCuff side).map s.statusWord else []))) s

/-! ### Sub-blob lists (R374) -/

/-- A number cut off at the largest of its field. -/
def cutNat (n : Nat) (x : Int) : Nat := min (2 ^ n - 1) x.toNat

/-- The record of a sub-blob. -/
def State.subRec (s : State) (b : SubBlob) : SubRec :=
  let base := s.rxBase s.panel.pos
  { seedD := b.seedD
    seedC := b.seedC
    n := b.n
    p := cutNat 16 (roundDiv b.gmax sigmaUnit)
    sw := b.sw.toNat
    sg := cutNat 32 (roundDiv b.sg sigmaUnit)
    swc := b.swc.toNat
    swd := b.swd.toNat
    sself := unsigned16 b.sself
    flags := b2n b.edge + 2 * b2n (b.reach.any fun n => n.2 < base)
      + 4 * b2n (b.reach.any fun n => base + s.ownRx ≤ n.2) + 8 * b2n b.palm
    suspect := b.suspect
    fast := b.fast
    blob := b.blob
    blobN := b.blobN
    reach := b.reach }

/-- Places a record by descending P, then by seed. -/
def placeRec (r : SubRec) : List SubRec → List SubRec
  | [] => [r]
  | h :: t =>
    if h.p < r.p || (h.p = r.p && (r.seedD < h.seedD || (r.seedD = h.seedD && r.seedC < h.seedC))) then r :: h :: t
    else h :: placeRec r t

/-- A member sends ROOT its sub-blobs, the 64 with the largest P, and how many are left over (R374); with them whether it holds
a SUSPECT node and whether one of its channels carries OVL, for the header flags (08 R222; log 34). -/
def State.sendList (s : State) (fi : FrameInfo) : State :=
  let recs := s.pipe.subs.foldl (fun l b => placeRec (s.subRec b) l) []
  s.send (.list (fi.frame % 65536) (recs.take 64) (recs.length - 64) (!s.suspects.isEmpty) (!fi.ovl.isEmpty))

/-- The sub-blob that a record of position `pos` stands for; its nodes stay with the member. -/
def SubRec.toSub (pos : Nat) (r : SubRec) : SubBlob :=
  { seedD := r.seedD
    seedC := r.seedC
    palm := bit r.flags 3
    n := r.n
    sw := r.sw
    swc := r.swc
    swd := r.swd
    sg := r.sg * sigmaUnit
    gmax := r.p * sigmaUnit
    edge := bit r.flags 0
    sself := signed16 r.sself
    suspect := r.suspect
    fast := r.fast
    nodes := [(r.seedD, r.seedC)]
    blob := r.blob
    parts := [(pos, r.blob.1, r.blob.2)]
    whole := []
    blobN := r.blobN
    reach := r.reach }

end Sys2Proof.Machine
end

