-- ==== Sys2Proof/Machine/Dispatcher.lean ====
section
/-!
DEFINITION. The frame dispatcher: waves, tasks and their ends, abandoned frames, the Q2 records of a frame, and the
commands DISPATCH, WAVE_POST, TASK_POST, WAVE_TIMEOUT, PARK_LATE and ENG_EXHAUSTED (spec/09 R234 to R254, spec/12 R332
and R333).
-/

namespace Sys2Proof.Machine

/-! ### The tasks of a wave (09 R235 to R238) -/

/-- A descriptor without its TID. -/
def FrameInfo.task (fi : FrameInfo) (kind row0 col0 nrow ncol slice arg : Nat) : Task :=
  ⟨kind, 3 * (fi.frame % 2), 0, fi.frame % 65536, row0, col0, nrow, ncol, slice, arg, 0, .posted 0⟩

/-- The tiles of the device in row-major order: first row and column, rows and columns (09 R237). -/
def State.tiles (s : State) : List (Nat × Nat × Nat × Nat) :=
  (List.range (ceilDiv s.ntx 16)).flatMap fun i => (List.range (ceilDiv s.ownRx 16)).map fun j =>
    (16 * i, 16 * j, min 16 (s.ntx - 16 * i), min 16 (s.ownRx - 16 * j))

/-- One task per tile. -/
def State.tileTasks (s : State) (fi : FrameInfo) (kind arg : Nat) : List Task :=
  s.tiles.map fun t => fi.task kind t.1 t.2.1 t.2.2.1 t.2.2.2 (t.2.1 / 24) arg

/-- The extension entries that a hook runs: numbered, enabled and not disabled (09 R249, R250, R253). -/
def State.hookEntries (s : State) (h : Nat) : List (ExtEntry × Nat) :=
  if s.flag R.WORKRING_CTL_EXTEN then
    s.disp.ext.zipIdx.filter fun p => p.1.hook = h && p.1.enabled && decide (p.2 ∉ s.disp.extOff)
  else []

/-- The tasks of a hook: one per tile and entry for H0 and H1, else one per entry (09 R249). -/
def State.hookTasks (s : State) (fi : FrameInfo) (h : Nat) : List Task :=
  if h < 2 then
    s.tiles.flatMap fun t => (s.hookEntries h).map fun p =>
      fi.task (0x10 + p.2) t.1 t.2.1 t.2.2.1 t.2.2.2 (t.2.1 / 24) p.1.arg
  else (s.hookEntries h).map fun p => fi.task (0x10 + p.2) 0 0 0 0 0 p.1.arg

/-- HOUSE tasks: one per strip of 64 lines of each slice. -/
def State.houseTasks (s : State) (fi : FrameInfo) : List Task :=
  (List.range 4).flatMap fun k => (List.range (ceilDiv s.ntx 64)).map fun i =>
    fi.task 6 (64 * i) (24 * k) (min 64 (s.ntx - 64 * i)) 24 k 0

/-- ROOT, or a single device. -/
def State.isRoot (s : State) : Bool := !s.inCascade || s.panel.pos = 0

/-- The tasks of a wave (09 R235). -/
def State.waveTasks (s : State) (fi : FrameInfo) (w : Nat) : List Task :=
  match w with
  | 1 => s.tileTasks fi 1 0
  | 2 => s.hookTasks fi 0
  | 3 => s.tileTasks fi 2 0
  | 4 => s.hookTasks fi 1
  | 5 => (List.range 4).map fun k => fi.task 3 0 0 0 0 k 0
  | 6 => s.hookTasks fi 2
  | 7 => if s.isRoot then [fi.task 4 0 0 0 0 0 0] else []
  | 8 => if s.isRoot then s.hookTasks fi 3 else []
  | 9 => if s.isRoot then [fi.task 5 0 0 0 0 0 0] else []
  | 10 => s.houseTasks fi ++ s.hookTasks fi 4
  | _ => []

/-- Chooses the engine of each task: the next active engine of its slice, in rotation from the lowest (09 R237). -/
def State.assign (s : State) : List Nat → List Task → List (Nat × Task)
  | _, [] => []
  | used, t :: l =>
    let es := s.sliceEngines t.slice
    (es.getD (used.getD t.slice 0 % max 1 es.length) (s.disp.active.headD 0), t)
      :: s.assign (upd used t.slice (· + 1)) l

/-- Posts wave w of a frame. -/
def State.postWave (s : State) (fi : FrameInfo) (w : Nat) : State :=
  let l := s.assign [0, 0, 0, 0] ((s.waveTasks fi w).map fun t => { t with waveTb := s.pow.tb })
  postAll l { s with disp := { s.disp with wave := w, ended := false, waveTb := s.pow.tb } }

/-- The next wave after w that has tasks. -/
def State.nextWave (s : State) (fi : FrameInfo) (w : Nat) : Option Nat :=
  ((List.range 11).filter fun v => w < v && !(s.waveTasks fi v).isEmpty).head?

/-! ### Q2 records (12 R332, R333) -/

/-- Columns or rows sent: origin, size, panel size and step. -/
def q2Count (o n total step : Nat) : Nat := if total ≤ o then 0 else ceilDiv (min (o + n) total - o) step

/-- The key under which a member's part of the region is held: plane, drive index, receive index. -/
def q2Key (plane d c : Nat) : Nat := (plane * 1024 + d) * 1024 + c

/-- A node value of a plane: RAW 1, BASE 2, DELTA 3 (12 R332). -/
def State.q2Node (s : State) (fi : FrameInfo) (plane d c : Nat) : Nat :=
  let b := s.rxBase s.panel.pos
  if b ≤ c && c < b + s.ownRx then
    let raw := s.rawAt fi.frame d (c - b)
    let base := s.baseAt d (c - b)
    match plane with
    | 1 => unsigned16 raw
    | 2 => unsigned16 base
    | _ => if raw = noValue || base = noValue then 0x8000 else unsigned16 (clampInt (-32767) 32767 (s.deltaAt d (c - b)))
  else aget 0x8000 (q2Key plane d c) s.link.q2vals

/-- The self count of a receive electrode or of a drive line of the panel. -/
def State.q2Rx (s : State) (fi : FrameInfo) (c : Nat) : Nat :=
  let b := s.rxBase s.panel.pos
  if b ≤ c && c < b + s.ownRx then s.selfCount fi.frame (rxEntry (c - b)) else aget 0 (q2Key 4 1023 c) s.link.q2vals
def State.q2Tx (s : State) (fi : FrameInfo) (d : Nat) : Nat :=
  match s.pinOf d with
  | some p => s.selfCount fi.frame (txEntry p)
  | none => aget 0 (q2Key 4 d 1023) s.link.q2vals

/-- The header of a Q2 record without its CRC. -/
def FrameInfo.q2Header (fi : FrameInfo) (plane seq flags x0 y0 w h dx dy vtx : Nat) : List Byte :=
  toBytes 1 0xC2 ++ toBytes 1 plane ++ toBytes 2 seq ++ toBytes 4 fi.frame ++ toBytes 6 fi.tb ++ toBytes 2 flags
    ++ toBytes 2 x0 ++ toBytes 2 y0 ++ toBytes 2 w ++ toBytes 2 h ++ toBytes 1 dx ++ toBytes 1 dy ++ toBytes 1 vtx
    ++ toBytes 3 0

/-- Commits one Q2 record; one that is too long is refused (12 R333). -/
def State.q2Push (s : State) (head : Nat → List Byte) (payload : List Byte) : State :=
  let big := 65536 < 32 + payload.length
  let s := s.push 2 big fun q => head q ++ toBytes 2 (crc16 (head q ++ payload)) ++ payload
  if big && !s.host.q2Told then
    { s.eventFault Kind.q2TooBig 0 0 with host := { s.host with q2Told := true } }
  else s

/-- The record of one plane, where it is produced. -/
def State.q2Plane (fi : FrameInfo) (s : State) (plane : Nat) : State :=
  let x0 := s.inForce R.QUEUE_Q2ORG_X0
  let y0 := s.inForce R.QUEUE_Q2ORG_Y0
  let dx := s.inForce R.QUEUE_Q2DEC_DECX + 1
  let dy := s.inForce R.QUEUE_Q2DEC_DECY + 1
  let w := q2Count x0 (s.inForce R.QUEUE_Q2SIZE_W) s.nrx dx
  let h := q2Count y0 (s.inForce R.QUEUE_Q2SIZE_H) s.ntx dy
  let flags := s.pipe.lastFlags.getD 0
  if plane = 5 then s.q2Push (fun q => fi.q2Header 5 q flags 0 0 0 0 0 0 0) fi.noise
  else if plane = 4 then
    if w = 0 && h = 0 then s
    else s.q2Push (fun q => fi.q2Header 4 q flags x0 y0 w h dx dy 0)
      (((List.range w).flatMap fun i => toBytes 2 (s.q2Rx fi (x0 + i * dx)))
        ++ (List.range h).flatMap fun j => toBytes 2 (s.q2Tx fi (y0 + j * dy)))
  else if w = 0 || h = 0 then s
  else s.q2Push (fun q => fi.q2Header plane q flags x0 y0 w h dx dy fi.tag.vtx)
    ((List.range h).flatMap fun j => (List.range w).flatMap fun i =>
      toBytes 2 (s.q2Node fi plane (y0 + j * dy) (x0 + i * dx)))

/-- The planes of a frame (12 R332): none where the frame counter is no multiple of RATE + 1, or on a member. -/
def State.q2Planes (s : State) (fi : FrameInfo) : List Nat :=
  if !s.isRoot || fi.frame % (s.inForce R.QUEUE_Q2PLANES_RATE + 1) ≠ 0 then []
  else [1, 2, 3, 4, 5].filter fun p => bit (s.inForce R.QUEUE_Q2PLANES_PLANES) (p - 1)

/-- The rows of the region, and its columns and rows that a position owns. -/
def State.q2Rows (s : State) : List Nat :=
  let y0 := s.inForce R.QUEUE_Q2ORG_Y0
  let dy := s.inForce R.QUEUE_Q2DEC_DECY + 1
  (List.range (q2Count y0 (s.inForce R.QUEUE_Q2SIZE_H) s.ntx dy)).map fun j => y0 + j * dy
def State.q2Cols (s : State) (p : Nat) : List Nat :=
  let x0 := s.inForce R.QUEUE_Q2ORG_X0
  let dx := s.inForce R.QUEUE_Q2DEC_DECX + 1
  ((List.range (q2Count x0 (s.inForce R.QUEUE_Q2SIZE_W) s.nrx dx)).map fun i => x0 + i * dx).filter fun c =>
    s.rxBase p ≤ c && c < s.rxBase p + (s.panel.map.getD p (0, 0)).2
def State.q2Lines (s : State) (p : Nat) : List Nat :=
  s.q2Rows.filter fun d => s.txBase p ≤ d && d < s.txBase p + (s.panel.map.getD p (0, 0)).1

/-- A position holds data of a plane: of SELF its electrodes, of the others its nodes. -/
def State.q2Holds (s : State) (p plane : Nat) : Bool :=
  if plane = 4 then !(s.q2Cols p).isEmpty || !(s.q2Lines p).isEmpty else !(s.q2Cols p).isEmpty && !s.q2Rows.isEmpty

/-- ROOT reaches a position: it is lost neither in the frame nor since (14 R377). -/
def State.reaches (s : State) (p : Nat) : Bool := decide (p ∉ s.panel.lost) && decide (p ∉ s.link.lost)

/-- The positions whose part of the region ROOT still needs for a frame (14 R372): those that hold data of a plane that it
commits. -/
def State.q2Missing (s : State) (fi : FrameInfo) : List Nat :=
  if s.inCascade then
    (List.range s.panel.map.length).filter fun p =>
      ((s.q2Planes fi).any fun k => k ≠ 5 && s.q2Holds p k)
        && p ≠ s.panel.pos && s.reaches p && decide (p ∉ s.link.q2from)
  else []

/-- A member's part of the region of a frame (14 R372). -/
def State.q2Part (s : State) (fi : FrameInfo) : List (Nat × Nat) :=
  let cols := s.q2Cols s.panel.pos
  let planes := [1, 2, 3, 4].filter fun p => bit (s.inForce R.QUEUE_Q2PLANES_PLANES) (p - 1)
  planes.flatMap fun p =>
    if p = 4 then (cols.map fun c => (q2Key 4 1023 c, s.q2Rx fi c))
      ++ (s.q2Lines s.panel.pos).map fun d => (q2Key 4 d 1023, s.q2Tx fi d)
    else s.q2Rows.flatMap fun d => cols.map fun c => (q2Key p d c, s.q2Node fi p d c)

/-- A member sends its part once its wave 10 is complete, for a frame whose counter is a multiple of RATE + 1. -/
def State.sendQ2 (s : State) (fi : FrameInfo) : State :=
  if s.isRoot || fi.frame % (s.inForce R.QUEUE_Q2PLANES_RATE + 1) ≠ 0 || (s.q2Part fi).isEmpty then s
  else s.send (.q2 (fi.frame % 65536) (s.q2Part fi))

/-! ### The ends of waves and frames -/

/-- The frame leaves the engines: what waits for the end of processing goes on (06 R149). -/
def State.frameLeaves (s : State) : State :=
  ({ s with disp := { s.disp with cur := none, wave := 0, ended := false, waiting := [] } }).tryStop

/-- Wave 10 has completed: the frame's Q2 records are committed, once the members' parts are there (12 R332, 14 R372). -/
def State.tryQ2 (s : State) : State :=
  match s.disp.cur with
  | some fi =>
    if s.disp.wave = 10 && s.disp.ended && (s.q2Missing fi).isEmpty then
      (((s.q2Planes fi).foldl (State.q2Plane fi) s).sendQ2 fi).frameLeaves
    else s
  | none => s

/-- A member's part of a frame is complete with wave 6: its list goes to ROOT. -/
def State.memberDone (s : State) (fi : FrameInfo) : State := if s.isRoot then s else (s.sendList fi).processed fi

/-- What follows the completion of a wave besides the next one. Without an H2 task, wave 6 is complete with wave 5 (09 R235). -/
def State.afterWave (s : State) (fi : FrameInfo) : State :=
  match s.disp.wave with
  | 1 => ((s.deviceWrites (State.judgeSuspects · fi)).countNodes).sendCuffs fi 1
  | 5 =>
    let t := s.segmented fi
    if (s.hookTasks fi 2).isEmpty then t.memberDone fi else t
  | 6 => s.memberDone fi
  | 9 => s.processed fi
  | 10 => s.tryQ2
  | _ => s

/-- The wave in progress is complete once none of its tasks is waiting or unended (09 R243). -/
def State.tryWaveEnd (s : State) : State :=
  match s.disp.cur with
  | some fi =>
    if s.disp.ended || s.disp.wave = 0 || !s.disp.waiting.isEmpty
        || s.disp.tasks.any (fun t => t.frame = fi.frame % 65536) then s
    else
      let s := { s with disp := { s.disp with ended := true, endTb := s.pow.tb } }
      s.within fi fun s => s.afterWave fi
  | none => s

/-- An entry's time in a frame exceeds its budget (09 R253). -/
def State.extOverrun (s : State) (i frame : Nat) : State :=
  let s := s.sat R.WORKRING_ERR_EXTOVR
  let s := if frame ∈ s.disp.extTold then s else s.eventFault Kind.extBudget 0 i
  let run := aget 0 i s.disp.extRun + 1
  let s := { s with disp := { s.disp with extTold := addOnce frame s.disp.extTold, extRun := aput i run s.disp.extRun } }
  if 8 ≤ run && s.flag R.WORKRING_CTL_EXTKILL && decide (i ∉ s.disp.extOff) then
    ({ s with disp := { s.disp with extOff := i :: s.disp.extOff } }).onset Kind.extDisabled i 0 i
  else s

/-- A task of an extension entry has ended. After the entry's last one of the frame, the time from the post of its own wave is
held against the budget (09 R253). -/
def State.extBudget (s : State) (t : Task) : State :=
  let i := t.kind - 0x10
  match s.disp.ext[i]? with
  | some x =>
    if s.disp.tasks.any (fun u => u.kind = t.kind && u.frame = t.frame)
        || s.disp.waiting.any (fun p => p.2.kind = t.kind && p.2.frame = t.frame) then s
    else if x.budget < tbDiff s.pow.tb t.waveTb then s.extOverrun i t.frame
    else { s with disp := { s.disp with extRun := aput i 0 s.disp.extRun } }
  | none => s

/-- A task leaves the list of unended tasks. -/
def State.removeTask (s : State) (tid : Nat) : State :=
  { s with disp := { s.disp with tasks := s.disp.tasks.filter fun t => t.tid ≠ tid } }

/-! ### Abandoning a frame (09 R247) -/

/-- Withdraws every live task of every queue: HEAD becomes TAIL, and the slots become EMPTY. -/
def State.withdrawQueue (s : State) (q : Nat) : State :=
  let l := s.live q
  if l.isEmpty then s
  else
    let tids := l.map (s.slotTid q)
    let s := s.frameWrite byDevice (ctlLine q) [byteOf (s.qTail q)]
    let s := l.foldl (fun s i => s.frameWrite byDevice (slotAddr q i) [0]) s
    { s with disp := { s.disp with tasks := s.disp.tasks.filter fun t => !(t.state = .posted q && tids.contains t.tid) } }

/-- Withdraws the posted tasks, posts no more, and tells the engines that run one to abandon it (09 R247). -/
def State.withdraw (s : State) (frame : Nat) : State :=
  let s := (List.range 32).foldl State.withdrawQueue { s with disp := { s.disp with waiting := [] } }
  s.disp.tasks.foldl (fun s t =>
    match t.state with
    | .running e => if t.frame = frame % 65536 then s.setFevt e fevtAbandon else s
    | _ => s) s

/-- The processing of a frame is abandoned; before its REPORT_COMMIT it leaves a gap, and it has neither matched nor coasted a
track (09 R247, R248; 08 R212). -/
def State.abandonFrame (s : State) (fi : FrameInfo) : State :=
  let s := s.withdraw fi.frame
  let s := if s.disp.reported then s else { s with pipe := { s.pipe with gap := true, tracks := s.pipe.kept } }
  s.frameLeaves

/-- The frame that a task belongs to is abandoned, where it is still processed. -/
def State.abandonTask (s : State) (t : Task) : State :=
  match s.disp.cur with
  | some fi => if fi.frame % 65536 = t.frame then s.abandonFrame fi else s
  | none => s

/-- A task is LOST (09 R248): a lost vendor task abandons its frame, a lost extension task does not. -/
def State.loseTask (s : State) (t : Task) : State :=
  let s := (s.removeTask t.tid).sat R.WORKRING_ERR_LOST
  let s := s.eventFault Kind.taskLost 0 t.tid
  if t.kind < 0x10 then s.abandonTask t else s.tryWaveEnd

/-- TDONE: the task that the engine is RUNNING ends DONE for 0x00, else ABORTED (09 R233, R243). -/
def State.tdone (s : State) (e : Nat) (v : Byte) : State :=
  let s := s.setEng e fun g => { g with task := false, xmode := none }
  match s.taskOf (s.eng e).tid with
  | some t =>
    if t.state = .running e then
      let s := s.setEng e fun g => { g with aborted := v ≠ 0, tasks := (g.tasks + 1) % 2 ^ 32 }
      let s := (s.wrap R.WORKRING_DONE).removeTask t.tid
      let s := if 0x10 ≤ t.kind then s.extBudget t else s
      s.tryWaveEnd
    else s
  | none => s

/-! ### Commands -/

/-- A frame has cuff columns to come on a side: the neighbour is not lost, and the link to it is up (14 R378, R379). -/
def State.cuffComes (s : State) (fi : FrameInfo) (side : Nat) : Bool :=
  s.cuffLink side && decide ((if side = 0 then s.panel.pos - 1 else s.panel.pos + 1) ∉ fi.masks.lost)

/-- The cuff parts that a frame waits for have arrived, or the wait is over (14 R373). -/
def State.cuffsReady (s : State) (fi : FrameInfo) : Bool :=
  (!s.cuffComes fi 0 || s.link.sigLo || s.link.lateLo) && (!s.cuffComes fi 1 || s.link.sigHi || s.link.lateHi)

/-- An absent cuff part is counted and told (14 R373). -/
def State.cuffAbsent (s : State) (side : Nat) : State := (s.sat R.LINK_ERRC_LATE).eventFault Kind.cuffLate 0 side

/-- The cuff columns of the frame that is dispatched: there only where both parts are (14 R373). An absence not told yet is
told now, that of a lost neighbour's columns too (R378; log 106). -/
def State.takeCuffs (s : State) : State :=
  let l := s.link
  let s := if s.hasSide 0 && !l.lateLo && !(l.sigLo && l.filtLo) then s.cuffAbsent 0 else s
  let s := if s.hasSide 1 && !l.lateHi && !(l.sigHi && l.filtHi) then s.cuffAbsent 1 else s
  { s with link := { s.link with
      cuffLo := l.sigLo && l.filtLo, cuffHi := l.sigHi && l.filtHi, sigLo := false, sigHi := false, filtLo := false
      filtHi := false, lateLo := false, lateHi := false, listsDone := false, q2from := [], q2vals := [] } }

/-- The scale factors of the cuff columns that are there, beside those of the frame dispatched before (14 R373). -/
def State.cuffScales (s : State) : State :=
  let now := s.cuffColumns.map fun c => (c, s.cuffSigma ((s.localCol c).getD 0))
  { s with link := { s.link with cuffPrev := s.link.cuffNow, cuffNow := now } }

/-- What is left of the frame before at a DISPATCH: its wave 10 is withdrawn, and it has no Q2 record (09 R236). -/
def State.houseLate (s : State) : State :=
  match s.disp.cur with
  | some fi =>
    let s := (s.withdraw fi.frame).eventFault Kind.houseLate 0 (fi.frame % 65536)
    { s with disp := { s.disp with cur := none, wave := 0, ended := false } }
  | none => s

/-- DISPATCH of the oldest frame that waits (09 R236). -/
def State.dispatchNow (s : State) (fi : FrameInfo) (rest : List FrameInfo) : State :=
  let s := if s.link.susOpen then s.judgeEdges else s
  let s := s.houseLate.takeCuffs.keepFlags.cuffScales
  let s := { s with
    disp := { s.disp with ready := rest, cur := some fi, reported := false, gen := fi.frame % 256, dispTb := s.pow.tb
                          extTold := s.disp.extTold.filter fun n => s.disp.tasks.any fun t => t.frame = n }
    pipe := { s.pipe with subs := [], lists := [], listFlags := 0, kept := s.pipe.tracks } }
  s.postWave fi 1

/-- DISPATCH (09 R236): a frame is past SCAN_END, its cuff columns are in, and the frame before has its REPORT. -/
def execDispatch (s : State) : Host.Outcome State Fault Refusal :=
  match s.disp.ready with
  | fi :: rest =>
    onlyIf (s.inRun && !s.flt.safe && s.cuffsReady fi && (s.disp.cur.isNone || s.disp.reported)) s (s.dispatchNow fi rest)
  | [] => .next s

/-- ROOT may post TRACK: every reachable member's list is there, or the wait is over (14 R375). -/
def State.listsReady (s : State) : Bool :=
  !s.inCascade || s.link.listsDone || (List.range s.panel.ndev).all fun p =>
    p = s.panel.pos || !s.reaches p || s.pipe.lists.any fun q => q.1 = p

/-- WAVE_POST (09 R235). -/
def execWavePost (s : State) : Host.Outcome State Fault Refusal :=
  match s.disp.cur with
  | some fi =>
    match s.nextWave fi s.disp.wave with
    | some w => onlyIf (s.inRun && !s.flt.safe && s.disp.ended && (w ≠ 7 || s.listsReady)) s (s.postWave fi w)
    | none => .next s
  | none => .next s

/-- TASK_POST (09 R240): the task that waits first is posted once its queue has room. -/
def execTaskPost (s : State) : Host.Outcome State Fault Refusal :=
  match s.disp.waiting with
  | (q, t) :: l =>
    let u := s.post (s.queueFor q t) t
    onlyIf (s.inRun && !s.flt.safe && s.qRoom (s.queueFor q t)) s { u with disp := { u.disp with waiting := l } }
  | [] => .next s

/-- Slots outside the live ones become EMPTY (09 R248). -/
def State.clearStale (s : State) : State :=
  (List.range 32).foldl (fun s q =>
    (List.range 32).foldl (fun s i =>
      if s.slotKind q i ≠ 0 && !(s.live q).any (fun j => j % 32 = i) then s.frameWrite byDevice (slotAddr q i) [0] else s) s) s

/-- The tasks that a stopped engine had taken and not started end with the timeout that covers them (09 R248). -/
def State.dropOrphans (s : State) : State :=
  { s with disp := { s.disp with tasks := s.disp.tasks.filter fun t =>
      match t.state with
      | .taken e => decide (e < 32) && (s.eng e).state ≠ .stopped
      | _ => true } }

/-- WAVE_TIMEOUT (09 R248). -/
def execWaveTimeout (s : State) : Host.Outcome State Fault Refusal :=
  match s.disp.cur with
  | some fi =>
    onlyIf (s.disp.wave ≠ 0 && !s.disp.ended
        && decide (100 * ({ s with force := fi.force }).inForce R.WORKRING_CTL_WAVETMO ≤ tbDiff s.pow.tb s.disp.waveTb)) s
      ((((s.sat R.WORKRING_ERR_WTMO).eventFault Kind.waveTimeout 0 s.disp.wave).abandonFrame fi).clearStale.dropOrphans)
  | none => .next s

/-- The lateness of engine e has been told. -/
def State.parkTold (s : State) (e : Nat) : State :=
  { s with disp := { s.disp with parkReq := s.disp.parkReq.map fun q => if q.1 = e then (e, none) else q } }

/-- PARK_LATE (09 R246): engine e is still unparked 2 ms after its request. -/
def execParkLate (e : Fin 32) (s : State) : Host.Outcome State Fault Refusal :=
  match s.disp.parkReq.find? fun p => p.1 = e.val with
  | some (_, some tb) =>
    onlyIf ((s.eng e).state ≠ .parked && (s.eng e).state ≠ .stopped && decide (2000 ≤ tbDiff s.pow.tb tb)) s
      ((s.parkTold e).sat R.WORKRING_ERR_PARKLATE |>.eventFault Kind.parkLate 0 e)
  | _ => .next s

/-- ENG_EXHAUSTED (09 R234): fewer than 4 engines are unstopped. -/
def execEngExhausted (s : State) : Host.Outcome State Fault Refusal :=
  onlyIf (s.unstopped < 4) s (s.onset Kind.engExhausted 0 0 s.unstopped)

end Sys2Proof.Machine
end

