-- ==== Sys2Proof/Machine/Power.lean ====
section
/-!
DEFINITION. Power-state entry, its voting and its commit, and waking (spec/16_power_states_and_governor.md R404 to R414,
R420, R421).
-/

namespace Sys2Proof.Machine

/-! ### Time (R420) -/

/-- One LFCLK cycle of TB: 30 µs and 265/512 µs, the fraction carried. -/
def State.lfCycle (s : State) : State :=
  let f := s.pow.frac + 265
  let t := s.addTb (30 + f / 512)
  { t with pow := { t.pow with frac := f % 512 } }

/-- One cycle of TB's source: 1 µs from REFCLK, one LFCLK cycle otherwise; nothing while LFCLK is stopped. -/
def State.tbCycle (s : State) : State :=
  if !s.sup.on then s
  else if s.get R.CLOCK_TBSTAT_SRC = 0 then s.addTb 1
  else if s.pow.lfStopped then s
  else s.lfCycle

/-! ### Wake sources (R410, R412) -/

/-- Enabled wake sources that are active as levels or latched causes. -/
def State.wakeActive (s : State) : Bool :=
  let en := s.get R.PWR_WAKEEN
  (bit en 0 && s.pow.wakereq) || (bit en 2 && s.get R.NIGHTCAP_DET != 0) || (bit en 3 && s.pow.timerCause)

/-- PWR.WAKESTAT.WAKEPIN: WAKE is driven for a Nightcap or timer cause that is not acknowledged, and by a cascade ROOT
from a wake until its discovery has configured every member (R412, R414). -/
def State.wakePin (s : State) : Bool :=
  s.sup.on && s.sup.vioGood && (s.get R.NIGHTCAP_DET != 0 || s.pow.timerCause || s.pow.rootWake)

/-- WATCH or HALT, outside the safe state. -/
def State.asleep (s : State) : Bool := s.up && s.pow.state ≠ .run && !s.flt.safe

/-- LFCLK starts again from the internal oscillator, whatever ran before, and three of its cycles later a wake is recognised
(R413); TB goes on from its frozen value, and is not valid (R421). -/
def State.lfStarts (s : State) : State :=
  let s := ({ s with pow := { s.pow with lfStopped := false } }).tbSource 2
  (s.set R.CLOCK_TBSTAT_VALID 0).lfCycle.lfCycle.lfCycle

/-- A wake is recognised: its source is latched (R410). -/
def State.wake (s : State) (src : Nat) : State :=
  if !s.asleep then s
  else
    let s := s.set R.PWR_WAKESTAT_SRC (s.get R.PWR_WAKESTAT_SRC ||| (1 <<< src))
    { s with pow := { s.pow with waking := true, windowOpen := false, rootWake := s.inCascade && s.panel.pos = 0 } }

/-! ### Voting (R404 to R407) -/

/-- The number of a power state in registers and events. -/
def PState.code : PState → Nat
  | .run => 0
  | .watch => 1
  | .halt => 2

/-- A result of PWR.CMD. -/
def State.pwrResult (s : State) (r : Nat) : State := s.set R.PWR_STAT_RESULT r

/-- Voting starts, in a cascade on every member too (R414); a running calibration is aborted at the end of its step, and a running test after its frame (R405; 07 R188; 17 R448). -/
def State.startVote (s : State) (target : PState) (retain lfstop : Bool) : State :=
  let s := (s.set R.PWR_STAT_STATE 1).abortCal.abortTest
  let s := if s.inCascade && s.panel.pos = 0 then s.send (.power retain) else s
  { s with pow := { s.pow with
      voting := some target, retain := retain, lfstop := lfstop && target = .halt, stopped := [], refusal := none
      members := [] } }

/-- A write of PWR.CMD (R404). -/
def State.pwrCommand (s : State) (op : Nat) (retain lfstop : Bool) (key : Nat) : State :=
  if 2 < op then s.wrerr 0x01 0x20
  else if s.pow.voting.isSome then s.set R.PWR_STAT_REFUSED 1
  else if op = 0 then s
  else if key ≠ 0x9A17 then s.pwrResult 5
  else if s.get R.DEVICE_BOOT_STAGE ≠ 7 || s.flt.safe || (s.inCascade && s.panel.pos ≠ 0) then s.pwrResult 3
  else if s.wakeActive then s.pwrResult 4
  else s.startVote (if op = 1 then .watch else .halt) retain lfstop

/-- The domains in the order in which they stop (R405). -/
def voteOrder : List Nat := [5, 4, 3, 2, 1]

/-- The domain that is asked next. -/
def State.nextDomain (s : State) : Option Nat := voteOrder.find? fun d => decide (d ∉ s.pow.stopped)

/-- The frame in progress has had its REPORT_COMMIT, or no frame runs (R405). -/
def State.frameCommitted (s : State) : Bool :=
  (s.scan.phase = .ended || s.scan.phase = .idle) && s.disp.ready.isEmpty && (s.disp.cur.isNone || s.disp.reported)

/-- The wave 10 of the last frame is withdrawn, without HOUSE_LATE and without Q2 records (R405). -/
def State.dropHouse (s : State) : State :=
  match s.disp.cur with
  | some fi => (s.withdraw fi.frame).frameLeaves
  | none => s

/-- The reachable members that have not reported their own domains stopped (R406, R414). -/
def State.membersLeft (s : State) : List Nat :=
  if s.inCascade && s.panel.pos = 0 then
    (List.range s.panel.ndev).filter fun p => p ≠ 0 && s.reaches p && decide (p ∉ s.pow.members)
  else []

/-- The voter of a domain that refuses, by its ID; none where every voter accepts (R406). What lies outside the state is given:
HCSn low, VTX below 2 V, and whether a target transfer runs meanwhile: a transfer is one command, and TWOWIRE.STAT.ADDRESSED is 0
between commands. -/
def State.voter (s : State) (d : Nat) (hcsnLow vtxBelow2 addressed : Bool) : Option Nat :=
  match d with
  | 5 => if (List.range 8).any fun n => s.outState n = 4 then some 1 else none
  | 4 => if vtxBelow2 then none else some 2
  | 3 => if s.calStepRuns then some 3 else none
  | 2 =>
    if s.disp.tasks.any (fun t => match t.state with
      | .running _ => true
      | _ => false) then some 4
    else if s.flag R.NVS_STAT_BUSY || s.nvs.prog.isSome then some 5
    else none
  | _ =>
    if hcsnLow then some 6
    else if s.flag R.TWOWIRE_CSTAT_BUSY || s.flag R.TWOWIRE_CSTAT_WBUSY || s.flag R.TWOWIRE_STAT_ADDRESSED || addressed then some 7
    else if !s.membersLeft.isEmpty then some 8
    else none

/-- The VTX converter is off: PD4 is asked to stop, or has stopped, and VTX discharges (R405, 04 R93). The registers keep what they
hold until the commit (R407). -/
def State.vtxAsked (s : State) : Bool := s.pow.voting.isSome && (s.get R.PWR_STAT_PHASE = 4 || decide (4 ∈ s.pow.stopped))

/-- Every engine parks; one that is halted, stopped or in reset stays so (R405). -/
def State.parkEngines (s : State) : State :=
  let s := (List.range 32).foldl State.drain s
  { s with engines := s.engines.map fun g =>
      if g.state = .run || g.state = .sleep then { g with state := .parked, prior := g.state }
      else if g.state = .parked then { g with prior := .parked } else g }

/-- What the stop of a domain does (R405): PD5 parks the outputs, PD3 ends a calibration between its steps, PD2 parks the
engines; PD1, the last one, ends a member's vote, which ROOT is told (R414). -/
def State.domainOff (s : State) (d : Nat) : State :=
  match d with
  | 5 => s.parkOutputs
  | 3 => s.calStops
  | 2 => s.parkEngines
  | 1 => if s.follows then s.send .powerStopped else s
  | _ => s

/-- A domain has stopped. -/
def State.stopDomain (s : State) (d : Nat) : State :=
  let s := s.domainOff d
  { s with pow := { s.pow with stopped := s.pow.stopped ++ [d], refusal := none } }

/-- The mask of the stopped domains. -/
def State.stoppedMask (s : State) : Nat := s.pow.stopped.foldl (fun a d => a ||| (1 <<< d)) 0

/-- The last instant of the grid of frames that is not after now: TB, and AFECLK cycles beyond it. -/
def State.lastGrid (s : State) : Nat × Nat :=
  let p := s.scan.period
  if p = 0 then (s.scan.startTb, s.scan.startFrac)
  else
    let past := 96 * tbDiff s.pow.tb s.scan.startTb - s.scan.startFrac
    let c := s.scan.startFrac + past / p * p
    ((s.scan.startTb + c / 96) % tbMod, c % 96)

/-- The vote ends: the stopped domains are restored, and scanning resumes at the next FRAME_START on its grid (R407). In a cascade
ROOT tells the members, and a member that has not been told by ROOT tells ROOT (R414). -/
def State.abortVote (s : State) (refuser position : Nat) : State :=
  match s.pow.voting with
  | none => s
  | some t =>
    let mask := s.stoppedMask
    let s := if s.inCascade && !(s.follows && refuser = 8) then s.send .powerAbort else s
    let s := if 2 ∈ s.pow.stopped then
      { s with engines := s.engines.map fun g => if g.state = .parked then { g with state := g.prior } else g } else s
    let s := { s with
      pow := { s.pow with voting := none, stopped := [], refusal := none }
      scan := { s.scan with startTb := s.lastGrid.1, startFrac := s.lastGrid.2 } }
    let s := ((s.set R.PWR_STAT_STATE 0).set R.PWR_STAT_PHASE 0).pwrResult 2
    ((s.set R.PWR_STAT_REFUSER refuser).event 0x24 refuser t.code position mask 0).storeGoes

/-- The voters of domain `d` have answered (R406): it stops, or the voter that refuses is noted with the time at which it was first
found refusing. -/
def State.verdict (s : State) (d : Nat) (who : Option Nat) : State :=
  match who with
  | none => s.stopDomain d
  | some v =>
    match s.pow.refusal with
    | some (_, w) => if w = v then s else { s with pow := { s.pow with refusal := some (s.pow.tb, v) } }
    | none => { s with pow := { s.pow with refusal := some (s.pow.tb, v) } }

/-- The first domain not stopped yet is asked, and votes. -/
def State.vote (s : State) (hcsnLow vtxBelow2 addressed : Bool) : State :=
  if s.wakeActive then s.abortVote 0 0
  else
    let s := s.dropHouse
    match s.nextDomain with
    | none => s
    | some d => (s.set R.PWR_STAT_PHASE d).verdict d (s.voter d hcsnLow vtxBelow2 addressed)

/-- REFUSE_TMO has passed since a voter was first found refusing (R407). Where it refuses still, the vote is aborted, and where the
link refuses, the first member that has not reported is named; else its domain goes by what its voters say now. `still`: what lies
outside the state stands as it refuses, HCSn low, VTX not below 2 V, the two-wire port addressed. -/
def State.refusalExpires (s : State) (still : Bool) : State :=
  match s.pow.refusal, s.nextDomain with
  | some (t, v), some d =>
    let s := s.advanceTo (t + s.get R.PWR_REFUSE_TMO)
    let now := s.voter d still (!still) still
    if now = some v then s.abortVote v (if v = 8 then s.membersLeft.headD 0 else 0) else s.verdict d now
  | _, _ => s

/-! ### Commit (R408) -/

/-- The RO fields that keep their values in WATCH and HALT, besides those of the DEVICE, PWR, CLOCK, FAULT and NIGHTCAP
pages (R408). -/
def keptFields : List Fld :=
  [R.NVS_STAT_KEYREQ, R.NVS_STAT_CORR, R.NVS_SEQA, R.NVS_SEQB, R.NVS_CFG_CFGSLOT, R.NVS_CFG_REFFIRST, R.NVS_CFG_REFLEN,
    R.NVS_CFG_RELOC, R.NVS_CFGSEQ, R.CAL_RESULT_REASON, R.CAL_RESULT_OP, R.CAL_RESULT_ITEM, R.CAL_RESULT_INDEX,
    R.CAL_RESULT_SEQ, R.SCAN_TSTAT_REASON, R.SCAN_TSTAT_WORD, R.SCAN_TSTAT_TABLE, R.SCAN_TSTAT_BUILTIN,
    R.DRIVE_STAT_EHOPS, R.NOISE_CNT_HOPS, R.NOISE_CNT_DEFER, R.NOISE_CNT_NOCAND, R.PIPE_CNT_DROPPED]
  ++
  [R.PIPE_CNT_OVERRUN, R.WORKRING_ERR_LOST, R.WORKRING_ERR_WTMO, R.WORKRING_ERR_EXTOVR, R.WORKRING_ERR_PARKLATE,
    R.WORKRING_POSTED, R.WORKRING_DONE, R.HOSTPORT_ERR_BADCMD, R.HOSTPORT_ERR_ALIGN, R.HOSTPORT_ERR_UNDER,
    R.HOSTPORT_ERR_CUT, R.TWOWIRE_ERR_BUSABORT, R.TWOWIRE_ERR_STRETCHTMO, R.TWOWIRE_ERR_ARBLOST, R.TWOWIRE_ERR_BUSCLEAR,
    R.LINK_ERRC_LATE, R.LINK_ERRC_LLATE, R.LINK_ERRC_FPAB, R.LINK_ERRC_SYNCERR, R.LINK_ERRUP_CODE, R.LINK_ERRUP_CRC]
  ++
  [R.LINK_ERRUP_LOSTPK, R.LINK_ERRUP_DOWN, R.LINK_ERRDN_CODE, R.LINK_ERRDN_CRC, R.LINK_ERRDN_LOSTPK, R.LINK_ERRDN_DOWN,
    R.GOV_CNT_DOWNS, R.GOV_CNT_UPS, R.TEST_STAT_FUSED]
  ++ ((List.range 16).map R.GOV_EST)
  ++ ((List.range 4).flatMap fun q => [R.QUEUE_SEQ_NEXT q, R.QUEUE_SEQ_DROPS q])
  ++ ((List.range 4).flatMap fun k => [R.SLICE_ERRCNT_OVLCNT k, R.SLICE_ERRCNT_CLPCNT k])

/-- The RO fields that describe the retained baselines (R408). -/
def retainedFields : List Fld :=
  [R.BASE_STAT_ACQ, R.BASE_STAT_NOREF, R.BASE_STAT_ACQOVL, R.BASE_STAT_BOOTFR, R.BASE_STAT_M0, R.BASE_CNT_SUSN, R.BASE_CNT_FRZN]

/-- The fields of the pages whose blocks stop in WATCH and HALT. -/
def blockFields : List Fld :=
  nvsFields ++ hostportFields ++ twowireFields ++ irqFields ++ driveFields ++ scanFields ++ noiseFields ++ baseFields
    ++ calFields ++ pipeFields ++ queueFields ++ aoutFields ++ govFields ++ workringFields ++ linkFields ++ testFields
    ++ (List.range 4).flatMap sliceFields ++ (List.range 32).flatMap engFields

/-- The fields that return to their reset values at commit. -/
def lostFields (retain : Bool) : List Fld :=
  blockFields.filter fun f => f.acc = .ro && !(keptFields.contains f) && !(retain && retainedFields.contains f)

/-- Power goes from the domains that the target switches off (R408): what is left besides registers. The FAULT page keeps every
field, its LIVE bits too. -/
def State.powerDown (s : State) (retain : Bool) : State :=
  let s := s.clear (lostFields retain)
  { s with
    scan := { Scan.reset with
      frame := s.scan.frame, lastVtx := s.scan.lastVtx, tag := s.scan.tag, modeSrc := s.scan.modeSrc, enabled := s.scan.enabled
      blank := { Blank.reset with level0 := s.scan.blank.level0, level1 := s.scan.blank.level1 } }
    cal := { Cal.reset with bgTb := s.cal.bgTb, bgTemps := s.cal.bgTemps }
    disp := { Disp.reset with ext := s.disp.ext, extOk := s.disp.extOk, extOff := s.disp.extOff, extRun := s.disp.extRun, tid := s.disp.tid }
    pipe := if retain then s.pipe else Pipe.reset
    base := if retain then s.base else Baseline.reset
    queues := List.replicate 4 Queue.reset
    host := { s.host with out := [] }
    twi := { s.twi with buf := ⟨0x10000, 0, 0x10000, []⟩, out := [], op := 0, ctl := [] }
    link := { State.reset.link with discLimit := s.link.discLimit }, lf := State.reset.lf
    engines := (List.range 32).map fun e =>
      let g := s.eng e
      { Engine.reset e with ram := if retain then g.ram else [], tasks := g.tasks, busy := g.busy, stall := g.stall, drops := g.drops }
    iram := if retain then s.iram else []
    fmem := if retain then s.fmem else []
    gov := { s.gov with running := false }
    aout := { s.aout with stages := List.replicate 8 ⟨false, 0, 0, false⟩ } }

/-- The entry is committed at a rising LFCLK edge (R408, R409). -/
def State.commitPower (s : State) (t : PState) : State :=
  let s := s.powerDown s.pow.retain
  let s := ((s.set R.PWR_STAT_STATE 0).set R.PWR_STAT_PHASE 0).pwrResult 1
  let s := s.tbSource s.lfSource
  { s with
    pow := { s.pow with
      state := t, voting := none, stopped := [], refusal := none, sinceTb := s.pow.tb, windowOpen := true
      waking := false, lfStopped := s.pow.lfstop }
    night := { State.reset.night with
      scanTb := s.pow.tb, gests := s.night.gests.map fun (n : NGest) => { n with ptr := 0, matchTb := 0 } } }

/-! ### The wake sequence (R411, R421) -/

/-- The gestures whose bit of NIGHTCAP.DET is set are posted (R419). -/
def State.gestureEvents (s : State) : State :=
  (List.range 8).foldl (fun s g =>
    if bit (s.get R.NIGHTCAP_DET) g then
      let d := s.night.gests.getD g ⟨0, 0, 0, 0⟩
      s.event 0x23 g d.detZones (d.detTb % 65536) (d.detTb / 65536 % 65536) 0
    else s) s

/-- The TIMEGAP event of a frozen (1) or reloaded (2) timebase (R421, R423). -/
def State.timeGap (s : State) (src : Nat) : State :=
  s.event 0x22 src (s.get R.CLOCK_TBSTAT_ACC) (s.pow.tb % 65536) (s.pow.tb / 65536 % 65536) 0

/-- Scanning resumes after a wake: with the retained tracks, or with a new acquisition (R411); while it is held, an
acquisition waits (06 R149). -/
def State.scanAgain (s : State) (retained : Bool) : State :=
  let s := if retained then s else s.startAcq
  if s.held then s
  else if retained then { s.startScan with pipe := s.pipe } else s.startScan

/-- Return to RUN (R411): events, the interrupt of a completed wake (12 R335), engines, and, without retained memories, the instruction RAMs from the booted bank. A
bank whose CRC now fails, or that has an uncorrectable line, leads to the loader state (log 32). In a cascade, discovery comes first (R414). -/
def State.toRun (s : State) : State :=
  let prev := s.pow.state.code
  let ms := min 65535 (tbDiff s.pow.tb s.pow.sinceTb / 1000)
  let retained := s.pow.retain
  let b := s.get R.DEVICE_BOOT_BANK
  let s := (s.set R.CLOCK_TBSTAT_SRC 0).startEngines
  let s := { s with flt := { s.flt with live := s.flt.live.filter fun p => p.1 ≠ Kind.engDoubleTrap && p.1 ≠ Kind.engExhausted } }
  let s := { s with pow := { s.pow with state := .run, waking := false, windowOpen := false, stopped := [], sinceTb := s.pow.tb } }
  let s := (s.event 0x21 0 prev (s.get R.PWR_WAKESTAT_SRC) ms 0).gestureEvents
  let s := (s.irq irqWake).storeGoes
  let check := if (s.tornIn b).isSome then 8 else if s.imageCrcOk b then 0 else 6
  let s := if retained then s else s.imageRead b
  if !retained && check ≠ 0 then s.loader (if b = 0 then check else 16 * check)
  else
    let s := if retained then s else s.loadIram b
    if s.inCascade then { s with link := { s.link with discTb := s.pow.tb } } else s.scanAgain retained

/-- The collector accepts everything that waits. -/
def State.collectAll (s : State) : State := (List.range s.flt.queue.length).foldl (fun s _ => s.collect) s

/-- The wake sequence. Where LFCLK was stopped, TIMEGAP is posted; a CRITICAL message that waited is accepted first, and then the
safe state comes instead of RUN (R421; 17 R442). -/
def State.wakeUp (s : State) : State :=
  if s.pow.lfstop then
    let s := ({ s with pow := { s.pow with lfstop := false } }).collectAll
    if s.flt.safe then s else s.toRun.timeGap 1
  else s.toRun

/-- WAKEREQ wakes the device; where LFCLK is stopped it starts first (R410, R413). -/
def State.reqWakes (s : State) : State := if s.asleep && s.pow.lfStopped then s.lfStarts.wake 0 else s.wake 0

/-! ### Commands -/

/-- DOMAIN_VOTE (R405, R406): one round of the vote, once the frame in progress is committed. -/
def execDomainVote (hcsnLow vtxBelow2 addressed : Bool) (s : State) : Host.Outcome State Fault Refusal :=
  onlyIf (s.inRun && !s.flt.safe && s.pow.voting.isSome && s.frameCommitted) s (s.vote hcsnLow vtxBelow2 addressed)

/-- PWR_ABORT (R407): a refusal lasts until the time-out. -/
def execPwrAbort (still : Bool) (s : State) : Host.Outcome State Fault Refusal :=
  onlyIf (s.inRun && s.pow.voting.isSome && s.pow.refusal.isSome) s (s.refusalExpires still)

/-- POWER_COMMIT (R408): every domain has stopped. -/
def execPowerCommit (s : State) : Host.Outcome State Fault Refusal :=
  match s.pow.voting with
  | some t => onlyIf (s.inRun && !s.flt.safe && s.nextDomain.isNone) s
      (if s.wakeActive then s.abortVote 0 0 else s.commitPower t)
  | none => .next s

/-- LOST_EDGE_WINDOW_END (R409): four LFCLK cycles after the commit; an asserted WAKEREQ wakes now. -/
def execLostEdgeWindowEnd (s : State) : Host.Outcome State Fault Refusal :=
  let t := if s.pow.lfStopped then s else s.lfCycle.lfCycle.lfCycle.lfCycle
  let t := { t with pow := { t.pow with windowOpen := false } }
  onlyIf (s.asleep && s.pow.windowOpen) s (if t.pow.wakereq && bit (t.get R.PWR_WAKEEN) 0 then t.reqWakes else t)

/-- WAKEREQ_WAKE (R407, R409, R410, R413): the level of the ball. A rise ends a vote, and wakes outside the lost-edge window. 02 R49
does not say whether the ball acts while VIO is absent: the model lets it act (log 116). -/
def execWakereqWake (level : Bool) (s : State) : Host.Outcome State Fault Refusal :=
  let t := { s with pow := { s.pow with wakereq := level } }
  done s (if !level || !bit (s.get R.PWR_WAKEEN) 0 then t
    else if s.pow.voting.isSome then t.abortVote 0 0
    else if s.pow.windowOpen || s.pow.waking then t
    else t.reqWakes)

/-- HCSN_WAKE (R409, R410): a falling edge of HCSn, not recorded inside the lost-edge window. -/
def execHcsnWake (s : State) : Host.Outcome State Fault Refusal :=
  onlyIf (s.asleep && !s.pow.windowOpen && !s.pow.waking && !s.pow.lfStopped && s.sup.vioGood && bit (s.get R.PWR_WAKEEN) 1) s
    (s.wake 1)

/-- TIMER_WAKE (R410): PWR.TIMER milliseconds have passed since the commit. -/
def execTimerWake (s : State) : Host.Outcome State Fault Refusal :=
  let t := s.advanceTo (s.pow.sinceTb + 1000 * s.get R.PWR_TIMER)
  onlyIf (s.asleep && !s.pow.waking && !s.pow.lfStopped && s.get R.PWR_TIMER ≠ 0 && bit (s.get R.PWR_WAKEEN) 3) s
    (({ t with pow := { t.pow with timerCause := true } }).wake 3)

/-- WAKE_SEQUENCE (R411). -/
def execWakeSequence (s : State) : Host.Outcome State Fault Refusal := onlyIf (s.asleep && s.pow.waking) s s.wakeUp

end Sys2Proof.Machine
end

