-- ==== Sys2Proof/Machine/Controller.lean ====
section
/-!
DEFINITION. The two-wire port as a controller: joining the bus, the transfers of TWOWIRE.CCMD, lost arbitration, bus
clears and wake messages (spec/13_two_wire_port.md R342, R351 to R354).
-/

namespace Sys2Proof.Machine

/-- The result codes of a controller transfer (R353). -/
def twiOk : Nat := 0
def twiAddrNak : Nat := 1
def twiDataNak : Nat := 2
def twiArbLost : Nat := 3
def twiBusStuck : Nat := 4
def twiAborted : Nat := 5
def twiState : Nat := 6

/-- Changes the two-wire port. -/
def State.updTwi (s : State) (f : TwoWire → TwoWire) : State := { s with twi := f s.twi }

/-- PD1 is powered for the port: also in WATCH while a wake message runs (R354). -/
def State.twiPowered (s : State) : Bool := s.pd1 || (s.asleep && s.flag R.TWOWIRE_CSTAT_WBUSY)

/-- The 32 bytes of TWOWIRE.CBUF. -/
def State.cbuf (s : State) : List Byte := (List.range 8).flatMap fun i => toBytes 4 (s.get (R.TWOWIRE_CBUF i))

/-- Received bytes come into CBUF from its first byte on; the others keep their values. -/
def State.fillCbuf (s : State) (l : List Byte) : State :=
  let b := l.take 32 ++ s.cbuf.drop (l.take 32).length
  (List.range 8).foldl (fun s i => s.set (R.TWOWIRE_CBUF i) (ofBytes ((b.drop (4 * i)).take 4))) s

/-- An address byte of the controller: a target, and the direction. -/
def addrByte (target : Nat) (read : Bool) : Byte := byteOf (2 * target + b2n read)

/-- What the controller sends in a transfer after its first address byte (R351): of a WRITE the data of CBUF, of an EEREAD the
address within the EEPROM and the address byte of its read. -/
def State.ctlFollows (s : State) (op : Nat) : List Byte :=
  let a := s.get R.TWOWIRE_CADDR
  match op with
  | 1 => s.cbuf.take s.twi.len
  | 2 => []
  | _ => [byteOf (a / 256), byteOf a, addrByte (s.get R.TWOWIRE_CCFG_EEADDR) true]

/-- The first address byte of a transfer. -/
def State.ctlFirst (s : State) (op : Nat) : Byte :=
  if op = 3 then addrByte (s.get R.TWOWIRE_CCFG_EEADDR) false else addrByte s.twi.target (op = 2)

/-- The two-wire message of a gesture, after its address byte (R354). -/
def State.wakeBytes (s : State) : List Byte :=
  [byteOf (s.get R.TWOWIRE_WMSG_PFX0), byteOf (s.get R.TWOWIRE_WMSG_PFX1), byteOf (s.twi.wmsg.headD 0)]

/-- The bytes that the controller has sent when a transfer ends: `first`, then `l` as far as it came (log 103). -/
def ctlSent (writes : Bool) (first : Byte) (l : List Byte) : TwiEnd → List Byte
  | .done _ => first :: l
  | .addrNak => [first]
  | .dataNak n => first :: l.take (n + 1)
  | .stuck moved => first :: (if writes then l.take moved.length else l)
  | .noJoin => []

/-- Keeps what the controller has sent. -/
def State.sends (s : State) (l : List Byte) : State := s.updTwi fun t => { t with ctl := l }

/-- The host transfer ends with a result after `n` data bytes; `made`: an attempt ended, besides those lost (R351). -/
def State.twiEnds (s : State) (result n made : Nat) : State :=
  let s := ((s.set R.TWOWIRE_CSTAT_BUSY 0).set R.TWOWIRE_CSTAT_RESULT result).set R.TWOWIRE_CSTAT_NBYTES n
  let s := if s.twi.tries + made = 0 then s else s.set R.TWOWIRE_CSTAT_ATTEMPTS (s.twi.tries + made)
  s.updTwi fun t => { t with op := 0, len := 0, target := 0, tries := 0 }

/-- ABORT: how many bytes had been transferred, and for a read which, are values that the command does not bring (log 1). A
transfer that still waits, for a wake message or to join the bus, has moved none. -/
def State.twiAbort (s : State) : State :=
  if !s.flag R.TWOWIRE_CSTAT_BUSY then s
  else if s.flag R.TWOWIRE_CSTAT_WBUSY || !s.flag R.TWOWIRE_STAT_JOINED then s.twiEnds twiAborted 0 0
  else
    let read := s.twi.op ≠ 1
    let (v, s) := s.takeFree
    let n := v % (s.twi.len + 1)
    let r : List Byte × State := (List.range n).foldl (fun (r : List Byte × State) (_ : Nat) =>
      let (b, t) := r.2.takeFree
      (r.1 ++ [byteOf b], t)) ([], s)
    let sent := if read then s.ctlFollows s.twi.op else (s.ctlFollows 1).take n
    ((if read then r.2.fillCbuf r.1 else s).sends (s.ctlFirst s.twi.op :: sent)).twiEnds twiAborted n 1

/-- A write of TWOWIRE.CCMD (R351); the Bool tells a rejected one. -/
def State.twiCommand (s : State) (op len target : Nat) : State × Bool :=
  let reserved := 4 < op || (1 ≤ op && op ≤ 3 && (len = 0 || 32 < len)) || ((op = 1 || op = 2) && (target < 8 || 0x77 < target))
  if reserved then (s, true)
  else if op = 4 then (s.twiAbort, false)
  else if s.flag R.TWOWIRE_CSTAT_BUSY then (s.set R.TWOWIRE_CSTAT_REFUSED 1, false)
  else if op = 0 then (s, false)
  else if s.flt.safe then (s.twiEnds twiState 0 0, false)
  else
    let s := s.set R.TWOWIRE_CSTAT_BUSY 1
    (s.updTwi fun t => { t with op := op, len := len, target := target, tries := 0 }, false)

/-- How a transfer ends: its result, its data bytes, whether an attempt was made, and what a read brought. -/
def twiResult (len : Nat) : TwiEnd → Nat × Nat × Nat × List Byte
  | .done data => (twiOk, len, 1, ((data ++ List.replicate len 0).take len))
  | .addrNak => (twiAddrNak, 0, 1, [])
  | .dataNak n => (twiDataNak, min n len, 1, [])
  | .stuck moved => (twiBusStuck, min moved.length len, 1, moved.take len)
  | .noJoin => (twiState, 0, 0, [])

/-- Whether an end can come about: only a joined port transfers, and only one that has not joined ends for want of it (R352). -/
def State.twiMayEnd (s : State) (e : TwiEnd) : Bool :=
  s.flag R.TWOWIRE_STAT_JOINED != (match e with
    | .noJoin => true
    | _ => false)

/-- The running host transfer of operation `op` ends: 1 WRITE, 2 READ, 3 EEREAD. In EEREAD, the NAK of a CADDR byte comes
before any data byte. -/
def State.twiTransfer (s : State) (op : Nat) (e : TwiEnd) : State :=
  let r := twiResult s.twi.len e
  let s := s.sends (ctlSent (op = 1) (s.ctlFirst op) (s.ctlFollows op) e)
  let s := if op = 1 then s else s.fillCbuf r.2.2.2
  s.twiEnds r.1 (if op = 3 && r.1 = twiDataNak then 0 else r.2.1) r.2.2.1

/-- A READ writes no data byte that could meet a NAK (R353). -/
def twiEndFits (op : Nat) : TwiEnd → Bool
  | .dataNak _ => op ≠ 2
  | _ => true

/-- A host transfer of an operation runs and no wake message is on the bus. -/
def State.twiRuns (s : State) (op : Nat) : Bool :=
  s.pd1 && s.flag R.TWOWIRE_CSTAT_BUSY && !s.flag R.TWOWIRE_CSTAT_WBUSY && s.twi.op = op

/-- A wake message ends. In WATCH, PD1 goes off again, and the port joins anew (R354). -/
def State.wakeMsgEnds (s : State) (result : Nat) : State :=
  let s := (s.set R.TWOWIRE_CSTAT_WBUSY 0).set R.TWOWIRE_CSTAT_WRESULT result
  let s := s.updTwi fun t => { t with wmsg := t.wmsg.tail, wtries := 0 }
  if s.pd1 then s else s.set R.TWOWIRE_STAT_JOINED 0

/-- The transfer on the bus ends with a bus that is stuck, or with arbitration lost on every attempt. -/
def State.busFails (s : State) (result made : Nat) : State :=
  if s.flag R.TWOWIRE_CSTAT_WBUSY then s.wakeMsgEnds result else s.twiEnds result 0 made

/-- Arbitration is lost: the transfer restarts, or its attempts are used up (R353). -/
def State.arbLost (s : State) : State :=
  let s := s.sat R.TWOWIRE_ERR_ARBLOST
  let most := s.get R.TWOWIRE_CCFG_RETRY + 1
  if s.flag R.TWOWIRE_CSTAT_WBUSY then
    if most ≤ s.twi.wtries + 1 then s.wakeMsgEnds twiArbLost else s.updTwi fun t => { t with wtries := t.wtries + 1 }
  else
    let s := s.updTwi fun t => { t with tries := t.tries + 1 }
    if most ≤ s.twi.tries then s.twiEnds twiArbLost 0 0 else s

/-- A transfer of the controller is under way. -/
def State.twiActive (s : State) : Bool :=
  s.sup.vioGood && s.twiPowered && (s.flag R.TWOWIRE_CSTAT_BUSY || s.flag R.TWOWIRE_CSTAT_WBUSY)

/-! ### Commands -/

/-- TWI_BUS_JOIN (R342). -/
def execTwiBusJoin (s : State) : Host.Outcome State Fault Refusal :=
  onlyIf (s.sup.vioGood && s.twiPowered) s (s.set R.TWOWIRE_STAT_JOINED 1)

/-- BUS_CLEAR (R352). -/
def execBusClear (cleared : Bool) (s : State) : Host.Outcome State Fault Refusal :=
  let t := s.sat R.TWOWIRE_ERR_BUSCLEAR
  onlyIf (s.twiActive && s.flag R.TWOWIRE_STAT_JOINED) s (if cleared then t else t.busFails twiBusStuck 1)

/-- ARBITRATION_LOST (R353). -/
def execArbitrationLost (s : State) : Host.Outcome State Fault Refusal :=
  onlyIf (s.twiActive && s.flag R.TWOWIRE_STAT_JOINED) s s.arbLost

/-- WAKE_MESSAGE (R354): the oldest waiting message starts, or the one that runs ends. -/
def execWakeMessage (ended : Option TwiEnd) (s : State) : Host.Outcome State Fault Refusal :=
  match ended with
  | none =>
    onlyIf (s.up && !s.twi.wmsg.isEmpty && !s.flag R.TWOWIRE_CSTAT_BUSY && !s.flag R.TWOWIRE_CSTAT_WBUSY) s
      (if s.flt.safe then s.wakeMsgEnds twiState else s.set R.TWOWIRE_CSTAT_WBUSY 1)
  | some e => onlyIf (s.twiPowered && s.flag R.TWOWIRE_CSTAT_WBUSY && s.twiMayEnd e) s 
      ((s.sends (ctlSent true (addrByte (s.get R.TWOWIRE_WMSG_WADDR) false) s.wakeBytes e)).wakeMsgEnds (twiResult 3 e).1)

end Sys2Proof.Machine
end

