-- ==== Sys2Proof/Machine/Engine.lean ====
section
/-!
DEFINITION. One touch engine: its slots and cycles, the results on their way, special registers, engine-local ports,
vectors and traps (spec/10 R257 to R290, spec/09 R230 to R233, R245 to R252).
-/

namespace Sys2Proof.Machine

/-! ### Results on their way (10 R274 to R276, 11 R308, R311) -/

/-- A product arrives in MH:ML. -/
def Core.takeProduct (c : Core) (p : Product) : Core :=
  let v := if p.mac then c.mh.toNat * 256 + c.ml.toNat + p.val else p.val
  { c with mh := byteOf (v / 256), ml := byteOf v }

/-- The products that are due by slot `j` arrive. -/
def Core.takeProducts (c : Core) (j : Nat) : Core :=
  { (c.prods.filter fun p => p.due ≤ j).foldl Core.takeProduct c with prods := c.prods.filter fun p => j < p.due }

/-- The quotient and the remainder arrive when they are due. -/
def Core.takeQuot (c : Core) : Core :=
  match c.quot with
  | some (due, q, r) => if due ≤ c.slot then { c with mq := q, mr := r, quot := none } else c
  | none => c

/-- The Sloe operation is complete in slot `j` and writes its destination (11 R311, 10 R280; log 18). -/
def State.takeSloe (s : State) (e j : Nat) : State :=
  match (s.eng e).core.sloe with
  | none => s
  | some o =>
    let s := (s.setCore e fun c => { c with sloe := none }).reveal e j o.at_
    o.dst.foldl (fun s w => s.commit e ⟨0, w.1, o.bytes.getD w.2 0, false⟩) s

/-- What is due after `slots` slots becomes visible. A complete Sloe operation does so in the first slot at or after its
cycle; of the writes that become visible with it, those issued later come after it (10 R268). -/
def State.arrive (s : State) (e slots : Nat) : State :=
  let c := (s.eng e).core
  match c.sloe with
  | some o =>
    if o.due ≤ c.cyc then
      let j := c.slot - min (slots - 1) (c.cyc - o.due)
      let first (w : Late) : Bool := w.due < j || (w.due = j && c.issued w ≤ o.at_)
      ((s.commitSome e first).takeSloe e j).commitDue e
    else { s.commitDue e with free := (s.commitDue e).free + 1 }
  | none => s.commitDue e

/-- The reservation ends 64 cycles after its LDRS (10 R278). -/
def Core.ageRsv (c : Core) : Core :=
  match c.rsv with
  | some (_, at_) => if at_ + 64 ≤ c.cyc then { c with rsv := none } else c
  | none => c

/-- Slots and stall cycles pass on engine e, and what is due by then arrives. -/
def State.pass (s : State) (e slots stall : Nat) : State :=
  let s := s.setEng e fun g =>
    let c := { g.core with slot := g.core.slot + slots, cyc := g.core.cyc + slots + stall }
    { g with core := ((c.takeProducts c.slot).takeQuot).ageRsv, busy := (g.busy + slots + stall) % 2 ^ 32
             stall := (g.stall + stall) % 2 ^ 32 }
  (s.noteSloe e).arrive e slots

/-! ### Special registers (10 R261, R262) -/

/-- A Quince operation is pending until the slot of its latency, whatever of its destination is written (R279). -/
def Core.qbusy (c : Core) : Bool := c.quince.any fun q => c.slot < q.2

/-- MS: what is still pending. -/
def Engine.ms (g : Engine) : Nat :=
  b2n (!g.core.prods.isEmpty) + 2 * b2n g.core.quot.isSome + 4 * b2n g.core.qbusy + 8 * b2n g.core.sloe.isSome

/-- The value of a special register. -/
def State.special (s : State) (e n : Nat) : Byte :=
  let g := s.eng e
  let c := g.core
  match n with
  | 0 => c.fl
  | 1 => c.x
  | 2 => c.sp
  | 3 => c.rc
  | 4 => c.mh
  | 5 => c.ml
  | 6 => c.mq
  | 7 => c.mr
  | 8 => byteOf g.ms
  | 9 => byteOf e
  | 0x0A => byteOf c.cyc
  | 0x0E => byteOf s.pow.tb
  | _ => if n < 0x0E then byteOf (c.cycSnap / 256 ^ (n - 0x0A)) else byteOf (c.tbsSnap / 256 ^ (n - 0x0E))

/-- A read of byte 0 of CYC or TBS takes the snapshot of its other bytes. -/
def State.snapSpecial (s : State) (e n : Nat) : State :=
  if n = 0x0A then s.setCore e fun c => { c with cycSnap := c.cyc % 2 ^ 32 }
  else if n = 0x0E then s.setCore e fun c => { c with tbsSnap := s.pow.tb } else s

/-- Writes a special register, seen in the next slot. FL bit 7 reads 0 (R262). -/
def Core.setSpecial (c : Core) (n : Nat) (v : Byte) : Core :=
  match n with
  | 0 => { c with fl := v &&& 0x7F }
  | 1 => { c with x := v }
  | 2 => { c with sp := v }
  | 3 => { c with rc := v }
  | 4 => { c with mh := v }
  | 5 => { c with ml := v }
  | _ => c

/-! ### Vectors (10 R281 to R289) -/

/-- Entry to a vector in three slots (R283): the frame is pushed, IE is cleared; bit 7 of the saved FL marks an
interrupted REPI. -/
def State.enter (s : State) (e : Nat) (vector ret : BitVec 16) (mark : Bool) : State :=
  let c := (s.eng e).core
  let at_ (k : Nat) : Place := .ram ((c.sp.toNat + 256 - k) % 256)
  let s := s.later e 5 (at_ 1) (byteOf (ret.toNat / 256))
  let s := s.later e 5 (at_ 2) (byteOf ret.toNat)
  let s := s.later e 5 (at_ 3) (if mark then c.fl ||| 0x80 else c.fl)
  let s := s.later e 5 (at_ 4) c.rc
  let s := s.setCore e fun c => { c with
    sp := c.sp - 4, fl := c.fl &&& 0xDF, pc := vector, rsv := none, delay := .none, pre := none, fwd := [], depth := c.depth + 1 }
  s.pass e 3 0

/-- An engine stops on a trap within its trap handler (09 R248): the task that it was RUNNING is LOST. -/
def State.doubleTrap (s : State) (e : Nat) (pc : BitVec 16) : State :=
  let s := s.setCore e fun c => { c with double := true }
  let s := (s.engStopped e).onset Kind.engDoubleTrap e pc.toNat e
  match s.heldTask e with
  | some t => if t.state = .running e then (s.setEng e fun g => { g with task := false }).loseTask t else s
  | none => s

/-- Severity of ENG_TRAP: NOTE for DIVZERO and BRK, else WARN (R287). -/
def trapSev (cause : Nat) : Nat := if cause = 0x13 || cause = 0x14 then 0 else 1

/-- A trap is taken at the end of the trapping instruction (R286 to R289). -/
def State.takeTrap (s : State) (e cause : Nat) (pc ret : BitVec 16) (mark : Bool) : State :=
  let s := s.setCore e fun c => { c with cause := cause, double := false, trapPc := pc }
  let s := s.raise ⟨0x30, Kind.engTrap, trapSev cause, pc.toNat, e * 256 + cause, false⟩
  if (s.eng e).core.trapAt.isSome then s.doubleTrap e pc
  else
    let s := s.enter e 0x0008 ret mark
    s.setCore e fun c => { c with trapAt := some c.depth }

/-- The vector of the event that is due on engine e, were the boundary permitted (R281). -/
def Engine.eventVector (g : Engine) : Option (BitVec 16) :=
  if !(g.core.fl.getLsbD 5) then none
  else if g.fevt &&& g.fevten &&& 7 ≠ 0 then some 0x0018
  else if g.fevt &&& g.fevten &&& 8 ≠ 0 then some 0x0010
  else none

/-- No event is taken between a control instruction and its delay slot, nor between a prefix and its instruction (R282). -/
def Core.permitted (c : Core) : Bool :=
  c.delay = .none &&
    match c.pre with
    | some p => p.inter && p.begun && c.rc ≠ 0
    | none => true

/-- A frame or doorbell event is taken: within a REPI with repetitions left, the frame records them (R283). -/
def State.interrupt (s : State) (e : Nat) (v : BitVec 16) : State :=
  let c := (s.eng e).core
  s.enter e v c.pc (c.pre.isSome && c.rc ≠ 0)

/-! ### Halting (09 R255) -/

/-- The engine halts; what it has written is seen (R232). -/
def State.haltEng (s : State) (e : Nat) : State :=
  (s.drain e).setEng e fun g => { g with
    state := .halted, prior := if g.state = .halted then g.prior else g.state, step := false, pass := false }

/-- The engine stands still from now on; one that a STEP lets issue is halted, and goes on so (R245, R246, R255). -/
def Engine.stands (g : Engine) (st : EngState) : Engine :=
  if g.state = .halted then { g with prior := st } else { g with state := st }

/-- The PC is at an enabled breakpoint. -/
def State.atBreakpoint (s : State) (e : Nat) : Bool :=
  let pc := (s.eng e).core.pc.toNat
  (s.flag (R.ENG_CTL_BP0EN e) && s.get (R.ENG_BP0 e) = pc) || (s.flag (R.ENG_CTL_BP1EN e) && s.get (R.ENG_BP1 e) = pc)

/-- The engine halts before the instruction at the PC: it is at a breakpoint where an instruction is to issue, the first
repetition of a governed one among them, and has not just been told to go on (R255). -/
def State.stopsAt (s : State) (e : Nat) : Bool :=
  let g := s.eng e
  g.state = .run && !g.pass && s.atBreakpoint e &&
    match g.core.pre with
    | some p => !p.begun && p.count ≠ 0
    | none => true

/-- The boundary lies outside a REP, and not between a prefix and its instruction. -/
def Core.outsideRep (c : Core) : Bool :=
  match c.pre with
  | some p => p.inter && p.begun
  | none => true

/-- At an issue boundary outside a REP a halt that is asked for, or a finished step, takes effect. -/
def State.boundary (s : State) (e : Nat) : State :=
  let g := s.eng e
  if (g.state = .run && g.core.outsideRep && s.flag (R.ENG_CTL_HALT e)) || (g.state = .halted && g.step && g.core.pre.isNone) then
    s.haltEng e
  else s

/-! ### Engine-local ports (09 R233) -/

/-- The order of one slice's engines in a steal round. -/
def shuffle : List Nat → Nat → List Nat
  | [], _ => []
  | a :: l, key =>
    let r := shuffle l (key / (l.length + 1))
    r.take (key % (l.length + 1)) ++ [a] ++ r.drop (key % (l.length + 1))

/-- The engines of a steal round of engine e, in their order (R242). -/
def stealRound (e round : Nat) : List Nat :=
  (List.range 4).flatMap fun j =>
    let k := (e / 8 + j) % 4
    shuffle (((List.range 8).map fun i => 8 * k + i).filter (· ≠ e)) (Config.victimKey e (4 * round + j))

/-- A read of VICTIM (R242). -/
def State.readVictim (s : State) (e : Nat) : Byte × State :=
  let g := s.eng e
  if g.given < 31 then
    (byteOf ((stealRound e g.round).getD g.given 0), s.setEng e fun g => { g with given := g.given + 1 })
  else (0xFF, s.setEng e fun g => { g with given := 0, round := g.round + 1 })

/-- A read of an engine-local port. -/
def State.readPort (s : State) (e n : Nat) : Byte × State :=
  let g := s.eng e
  if 0x11 ≤ n && n ≤ 0x17 then (byteOf (g.win.getD (n - 0x11) 0), s)
  else match n with
    | 0x20 => (byteOf g.tidStage, s)
    | 0x21 => (byteOf (g.tidStage / 256), s)
    | 0x28 => (byteOf g.fevt, s)
    | 0x29 => (byteOf g.fevten, s)
    | 0x2B => (byteOf s.disp.gen, s)
    | 0x2C => s.readVictim e
    | 0x38 => (byteOf (b2n g.inExt), s)
    | _ => (0, s)

/-- SLEEP = 0x01: the engine sleeps unless a doorbell or an enabled cause is latched (R245); what it has written is seen. -/
def State.sleepEng (s : State) (e : Nat) : State :=
  let g := s.eng e
  if g.fevt &&& (g.fevten ||| 8) ≠ 0 then s else (s.drain e).setEng e fun g => g.stands .sleep

/-- SLEEP = 0x02: the engine parks (R246). -/
def State.parkEng (s : State) (e : Nat) : State := (s.drain e).setEng e fun g => g.stands .parked

/-- DBGOUT: a byte for the debug FIFO of 16, or a drop. -/
def Engine.dbgOut (g : Engine) (v : Byte) : Engine :=
  if g.dbg.length < 16 then { g with dbg := g.dbg ++ [v] } else { g with drops := min 255 (g.drops + 1) }

/-- TSTART: what was staged before counts, though an IN would not see it yet. -/
def State.startTask (s : State) (e : Nat) : State :=
  let staged := (s.eng e).late.foldl (fun t w =>
    match w.place with
    | .port 0x20 => t / 256 * 256 + w.val.toNat
    | .port 0x21 => t % 256 + 256 * w.val.toNat
    | _ => t) (s.eng e).tidStage
  let keep := (s.eng e).tidStage
  ((s.setEng e fun g => { g with tidStage := staged }).tstart e).setEng e fun g => { g with tidStage := keep }

/-- A write to an engine-local port that XMODE accepts; the values that IN reads back follow the distance rule. -/
def State.writePort (s : State) (e n : Nat) (v : Byte) : State :=
  if 0x11 ≤ n && n ≤ 0x17 then s.later e 3 (.port n) v
  else match n with
    | 0x20 => s.later e 3 (.port n) v
    | 0x21 => s.later e 3 (.port n) v
    | 0x22 => s.startTask e
    | 0x23 => (s.drain e).tdone e v
    | 0x28 => s.later e 3 (.port n) v
    | 0x29 => s.later e 3 (.port n) v
    | 0x2A => if v = 1 then s.sleepEng e else if v = 2 then s.parkEng e else s
    | 0x3C => s.setEng e fun g => g.dbgOut v
    | _ => s

/-! ### Issuing -/

/-- Engine e may issue: its domain is powered, and it runs, or is halted with a step pending. -/
def State.canIssue (s : State) (e : Nat) : Bool :=
  s.inRun && !s.flt.safe && ((s.eng e).state = .run || ((s.eng e).state = .halted && (s.eng e).step))

/-- Cycles that a port write waits at a cycle: TDONE until the write buffer is empty (09 R232). -/
def State.portWait (s : State) (e n now : Nat) : Nat := if n = 0x23 then (s.eng e).emptyWait now else 0

end Sys2Proof.Machine
end

