-- ==== Sys2Proof/Machine/Flags.lean ====
section
/-!
DEFINITION. The flag computations of Frarid-8 (spec/10 R262, spec/11 R295 to R301): each takes FL as it was and the
sources, and gives the result byte with the new FL.
-/

namespace Sys2Proof.Machine

/-- A result and the FL that goes with it. -/
structure Res where
  val : Byte
  fl : Byte
  deriving DecidableEq, Repr

/-- Bits of FL (10 R262). -/
def flC : Nat := 0
def flZ : Nat := 1
def flN : Nat := 2
def flV : Nat := 3
def flDZ : Nat := 4
def flIE : Nat := 5
def flDZE : Nat := 6

/-- A flag of FL. -/
def flag (fl : Byte) (i : Nat) : Bool := fl.getLsbD i

/-- FL with one flag set to a value. -/
def putFl (fl : Byte) (i : Nat) (b : Bool) : Byte :=
  if b then fl ||| BitVec.twoPow 8 i else fl &&& ~~~ BitVec.twoPow 8 i

/-- Z and N of a result. -/
def putZN (fl r : Byte) : Byte := putFl (putFl fl flZ (r = 0)) flN r.msb

/-- Z N of a result, V cleared (V0). -/
def logicRes (fl r : Byte) : Res := ⟨r, putFl (putZN fl r) flV false⟩

/-- Z N of a result. -/
def znRes (fl r : Byte) : Res := ⟨r, putZN fl r⟩

/-- Z N of a result, and V. -/
def znvRes (fl r : Byte) (v : Bool) : Res := ⟨r, putFl (putZN fl r) flV v⟩

/-- Z N of a result, and C. -/
def zncRes (fl r : Byte) (c : Bool) : Res := ⟨r, putFl (putZN fl r) flC c⟩

/-- The carry flag as a number. -/
def carryIn (fl : Byte) : Nat := if flag fl flC then 1 else 0

/-- The Add flags: d = a + b + k (R295). -/
def addRes (fl a b : Byte) (k : Nat) : Res :=
  let n := a.toNat + b.toNat + k
  let r := BitVec.ofNat 8 n
  ⟨r, putFl (putFl (putZN fl r) flC (256 ≤ n)) flV (a.msb = b.msb && r.msb ≠ a.msb)⟩

/-- The result of d = a - b - k. -/
def subVal (a b : Byte) (k : Nat) : Byte := BitVec.ofNat 8 (a.toNat + 512 - b.toNat - k)

/-- The Sub flags: d = a - b - k (R295). -/
def subRes (fl a b : Byte) (k : Nat) : Res :=
  let r := subVal a b k
  ⟨r, putFl (putFl (putZN fl r) flC (a.toNat < b.toNat + k)) flV (a.msb ≠ b.msb && r.msb ≠ a.msb)⟩

/-- The Sub flags with chained Z (R295, R297). -/
def subcRes (fl a b : Byte) : Res :=
  let r := subRes fl a b (carryIn fl)
  ⟨r.val, putFl r.fl flZ (r.val = 0 && flag fl flZ)⟩

/-- A signed sum or difference saturated to a byte, and whether it was (R296). -/
def satSigned (i : Int) : Byte × Bool :=
  if i < -128 then (0x80, true) else if 127 < i then (0x7F, true) else (BitVec.ofInt 8 i, false)

/-- Saturating signed result. -/
def satRes (fl : Byte) (i : Int) : Res := znvRes fl (satSigned i).1 (satSigned i).2

/-- Unsigned saturating sum (R296). -/
def addusRes (fl a b : Byte) : Res :=
  let n := a.toNat + b.toNat
  zncRes fl (if 256 ≤ n then 0xFF else BitVec.ofNat 8 n) (256 ≤ n)

/-- Unsigned saturating difference (R296). -/
def subusRes (fl a b : Byte) : Res :=
  zncRes fl (if a.toNat < b.toNat then 0 else BitVec.ofNat 8 (a.toNat - b.toNat)) (a.toNat < b.toNat)

/-- |a - b| of unsigned bytes (R296). -/
def absdRes (fl a b : Byte) : Res :=
  zncRes fl (BitVec.ofNat 8 ((a.toNat : Int) - b.toNat).natAbs) (a.toNat < b.toNat)

/-- |a - b| of signed bytes (R296). -/
def absdsRes (fl a b : Byte) : Res :=
  zncRes fl (BitVec.ofNat 8 (a.toInt - b.toInt).natAbs) (a.toInt < b.toInt)

/-- |a| (R298). -/
def absRes (fl a : Byte) : Res := znvRes fl (if a.msb then 0 - a else a) (a = 0x80)

/-- Leading zero bits of a byte (R298). -/
def clz (a : Byte) : Nat := ((List.range 8).find? fun i => a.getLsbD (7 - i)).getD 8

/-- One bits of a byte (R298). -/
def popc (a : Byte) : Nat := ((List.range 8).filter fun i => a.getLsbD i).length

/-! ### Shifts and rotates (R300) -/

/-- Result and C of a shift or rotate by effective count n; with n = 0 C is unchanged. -/
def shiftRes (fl a : Byte) (n : Nat) (r : Byte) (c : Bool) : Res :=
  if n = 0 then ⟨a, putFl (putZN fl a) flV false⟩ else ⟨r, putFl (putFl (putZN fl r) flC c) flV false⟩

/-- SHL. -/
def shlRes (fl a b : Byte) : Res :=
  let n := b.toNat
  shiftRes fl a n (a <<< n) (n ≤ 8 && a.getLsbD (8 - n))

/-- SHR. -/
def shrRes (fl a b : Byte) : Res :=
  let n := b.toNat
  shiftRes fl a n (a >>> n) (n ≤ 8 && a.getLsbD (n - 1))

/-- SAR. -/
def sarRes (fl a b : Byte) : Res :=
  let n := b.toNat
  shiftRes fl a n (a.sshiftRight n) (if n ≤ 8 then a.getLsbD (n - 1) else a.msb)

/-- ROL. -/
def rolRes (fl a b : Byte) : Res :=
  let n := b.toNat % 8
  let r := a.rotateLeft n
  shiftRes fl a n r (r.getLsbD 0)

/-- ROR. -/
def rorRes (fl a b : Byte) : Res :=
  let n := b.toNat % 8
  let r := a.rotateRight n
  shiftRes fl a n r r.msb

/-- The 9-bit value C:a. -/
def withCarry (fl a : Byte) : BitVec 9 := BitVec.ofNat 9 (256 * carryIn fl + a.toNat)

/-- RLC. -/
def rlcRes (fl a b : Byte) : Res :=
  let n := b.toNat % 9
  let r := (withCarry fl a).rotateLeft n
  shiftRes fl a n (r.setWidth 8) r.msb

/-- RRC. -/
def rrcRes (fl a b : Byte) : Res :=
  let n := b.toNat % 9
  let r := (withCarry fl a).rotateRight n
  shiftRes fl a n (r.setWidth 8) r.msb

/-! ### Divide (R276, R296, R301) -/

/-- Quotient and remainder of DIV. -/
def divide (a b : Byte) : Byte × Byte := if b = 0 then (0xFF, a) else (BitVec.ofNat 8 (a.toNat / b.toNat), BitVec.ofNat 8 (a.toNat % b.toNat))

/-- Quotient and remainder of DIVS: truncated toward zero. -/
def divideS (a b : Byte) : Byte × Byte :=
  if b = 0 then (0xFF, a) else (BitVec.ofInt 8 (a.toInt.tdiv b.toInt), BitVec.ofInt 8 (a.toInt.tmod b.toInt))

/-- DZ and V at the issue of a divide. -/
def divFlags (fl b : Byte) (v : Bool) : Byte := putFl (putFl fl flDZ (b = 0 || flag fl flDZ)) flV v

/-! ### Branch conditions (R303) -/

def condZ (fl : Byte) : Bool := flag fl flZ
def condC (fl : Byte) : Bool := flag fl flC
def condN (fl : Byte) : Bool := flag fl flN
def condV (fl : Byte) : Bool := flag fl flV
def condLS (fl : Byte) : Bool := flag fl flC || flag fl flZ
def condLT (fl : Byte) : Bool := flag fl flN != flag fl flV
def condLE (fl : Byte) : Bool := flag fl flZ || flag fl flN != flag fl flV

end Sys2Proof.Machine
end

