-- ==== Sys2Proof/Machine/Operands.lean ====
section
/-!
DEFINITION. Every operand form of Frarid-8: the position classes, the encoding checks, the forming of addresses, and
the reads and writes of operands (spec/10 R263 to R265, spec/11 R292 to R294).
-/

namespace Sys2Proof.Machine

/-- The class of an operand position (11 R292). -/
inductive Pos where
  | none | d | s | a | m | t | io | ia | c
  deriving DecidableEq, Repr

/-- The modes of a class. -/
def Pos.modes : Pos → List Nat
  | .none => [0]
  | .d => [1, 2, 3, 4, 5, 6, 7, 8]
  | .s => [0, 1, 2, 3, 4, 5, 6, 7, 8]
  | .a => [1, 2, 3, 4, 5, 6, 7]
  | .m => [1, 2, 3, 6, 7]
  | .t => [0, 2, 3]
  | .io => [1, 2, 3, 6]
  | .ia => [2, 3, 4, 6]
  | .c => [0, 1, 8]

/-- An opcode's positions, and what it is: governable (0x00 to 0x7F), a control instruction, a prefix. -/
structure Shape where
  d : Pos
  a : Pos
  b : Pos
  gov : Bool
  control : Bool
  pfx : Bool
  deriving DecidableEq, Repr

/-- An ordinary instruction that a prefix may govern. -/
def Shape.plain (pd pa pb : Pos) : Shape := ⟨pd, pa, pb, true, false, false⟩

/-- A control instruction. -/
def Shape.flow (pa : Pos) : Shape := ⟨.none, pa, .none, false, true, false⟩

/-- An instruction that no prefix may govern. -/
def Shape.other (pd pa pb : Pos) : Shape := ⟨pd, pa, pb, false, false, false⟩

/-- A prefix. -/
def Shape.prefix_ : Shape := ⟨.none, .c, .none, false, false, true⟩

/-- Bytes that an operand contributes (10 R263). -/
def operandLen (p : Pos) (mode : Nat) : Nat := if p = .none then 0 else if mode = 2 then 2 else 1

/-- Length of an instruction, 3 to 9 bytes. -/
def Shape.len (sh : Shape) (w : Enc) : Nat :=
  3 + operandLen sh.d w.dm.toNat + operandLen sh.a w.am.toNat + operandLen sh.b w.bm.toNat

/-- Whether an operand names a special register that is reserved, or as a destination one that is read-only (10 R261). -/
def badSpecial (dest : Bool) (mode : Nat) (field : BitVec 16) : Bool :=
  mode = 8 && (if dest then 5 < field.toNat % 256 else 0x13 < field.toNat % 256)

/-- The encoding check of steps 4 to 7 (11 R294): the first step that fails, with its cause. -/
def Shape.check (sh : Shape) (w : Enc) : Option (Nat × Nat) :=
  let unused (p : Pos) (m : BitVec 4) : Bool := p = .none && m ≠ 0
  if w.rsv ≠ 0 || unused sh.d w.dm || unused sh.a w.am || unused sh.b w.bm then some (4, 0x04)
  else if sh.d ≠ .none && w.dm = 0 then some (5, 0x03)
  else if !(sh.d.modes.contains w.dm.toNat) || !(sh.a.modes.contains w.am.toNat) || !(sh.b.modes.contains w.bm.toNat) then
    some (6, 0x02)
  else if badSpecial true w.dm.toNat w.d || badSpecial false w.am.toNat w.a || badSpecial false w.bm.toNat w.b then
    some (7, 0x05)
  else none

/-- The error of the earlier check step. -/
def firstError (x y : Option (Nat × Nat)) : Option (Nat × Nat) :=
  match x, y with
  | some p, some q => if q.1 < p.1 then y else x
  | some _, none => x
  | none, _ => y

/-- The instruction that runs: the state, the pointer bytes it has updated, its stall cycles, its execution causes,
and whether it is a repetition (10 R264, R272; 11 R294, R305, R307). -/
structure Run where
  s : State
  fwd : List (Nat × Byte)
  stall : Nat
  causes : List Nat
  rep : Bool

/-- The registers of engine e as they stand. -/
def Run.core (r : Run) (e : Nat) : Core := (r.s.eng e).core

/-- An execution cause is met. -/
def Run.fail (r : Run) (cause : Nat) : Run := { r with causes := cause :: r.causes }

/-- A pointer byte: the value that this instruction gave it, else the near-page byte as it is visible. -/
def Run.near (r : Run) (e n : Nat) : Byte :=
  match r.fwd.find? fun p => p.1 = n % 256 with
  | some p => p.2
  | none => r.s.readPlace e (.ram (n % 256))

/-- The 16-bit pointer at nn (10 R259). -/
def Run.ptr (r : Run) (e nn : Nat) : Nat := (r.near e nn).toNat + 256 * (r.near e (nn + 1)).toNat

/-- The pointer at nn takes a new value; as data it is seen from the third slot (10 R264). -/
def Run.setPtr (r : Run) (e nn v : Nat) : Run :=
  let lo := byteOf v
  let hi := byteOf (v / 256)
  { r with
    s := (r.s.later e 3 (.ram (nn % 256)) lo).later e 3 (.ram ((nn + 1) % 256)) hi
    fwd := ((nn + 1) % 256, hi) :: (nn % 256, lo) :: r.fwd }

/-- The address of an operand (10 R263, R264), for modes 1 to 7. -/
def Run.addr (r : Run) (e : Nat) (mode : BitVec 4) (field : BitVec 16) : Nat × Run :=
  let nn := field.toNat % 256
  let x := (r.core e).x.toNat
  match mode.toNat with
  | 1 => (nn, r)
  | 2 => (field.toNat, r)
  | 3 => (r.ptr e nn, r)
  | 4 => (r.ptr e nn, r.setPtr e nn ((r.ptr e nn + 1) % 65536))
  | 5 => ((r.ptr e nn + 65535) % 65536, r.setPtr e nn ((r.ptr e nn + 65535) % 65536))
  | 6 => ((r.ptr e nn + x) % 65536, r)
  | 7 => ((nn + x) % 256, r)
  | _ => (nn, r)

/-- A frame-memory access of engine e stalls it, and delays Sloe by the stall and one cycle more (11 R311). -/
def Run.access (r : Run) (e n : Nat) : Run :=
  { r with
    stall := r.stall + n
    s := r.s.setCore e fun c => { c with sloe := c.sloe.map fun o => { o with due := o.due + n + 1 } } }

/-- A read costs the stall of its place (09 R231). -/
def Run.cost (r : Run) (e : Nat) (p : Option Place) : Run := if stallOf e p = 0 then r else r.access e (stallOf e p)

/-- The cycle that the instruction has reached with its stalls. -/
def Run.now (r : Run) (e : Nat) : Nat := (r.core e).cyc + r.stall

/-- A write of a byte of frame memory stalls only while the write buffer is full, and enters it (09 R232, 11 R307; log 109). -/
def Run.buffered (r : Run) (e a : Nat) : Run :=
  let r := r.access e ((r.s.eng e).fullWait (r.now e))
  { r with s := r.s.setEng e fun g => g.enterBuffer e a (r.now e) }

/-- Reads a data byte (10 R259). -/
def Run.data (r : Run) (e a : Nat) : Byte × Run :=
  let p := (r.s.eng e).place a
  (r.s.readData e a, if p.isNone then r.fail 0x10 else r.cost e p)

/-- Reads a source operand. -/
def Run.source (r : Run) (e : Nat) (mode : BitVec 4) (field : BitVec 16) : Byte × Run :=
  match mode.toNat with
  | 0 => (byteOf field.toNat, r)
  | 8 => (r.s.special e (field.toNat % 256), { r with s := r.s.snapSpecial e (field.toNat % 256) })
  | _ => let p := r.addr e mode field; p.2.data e p.1

/-- Writes a data byte: into 0x1000 to 0x1FFF not at all, nor where XMODE refuses it (10 R259, 09 R252). -/
def Run.store (r : Run) (e a : Nat) (v : Byte) : Run :=
  match (r.s.eng e).place a with
  | none => r.fail 0x10
  | some p =>
    if !(r.s.eng e).accepts p then r.fail 0x11
    else
      match p with
      | .frame f => let r := r.buffered e f; { r with s := r.s.later e 3 p v }
      | _ => { r with s := r.s.later e 3 p v }

/-- A direct write of a special register: a plain product that becomes visible in the same slot comes first (10 R268),
and a repetition leaves RC alone (11 R305). -/
def Run.setSpecial (r : Run) (e n : Nat) (v : Byte) : Run :=
  if r.rep && n = 3 then r
  else
    { r with s := r.s.setCore e fun c =>
        let now := c.prods.any fun p => p.due ≤ c.slot + 1 && !p.mac
        (if now then c.takeProducts (c.slot + 1) else c).setSpecial n v }

/-- Writes the destination operand. -/
def Run.dest (r : Run) (e : Nat) (mode : BitVec 4) (field : BitVec 16) (v : Byte) : Run :=
  if mode = 8 then r.setSpecial e (field.toNat % 256) v
  else let p := r.addr e mode field; p.2.store e p.1 v

/-- The flag changes of an instruction whose destination is not FL (10 R262). -/
def Run.flags (r : Run) (e : Nat) (fl : Byte) : Run := { r with s := r.s.setCore e fun c => { c with fl := fl } }

/-- Whether the destination is FL. -/
def toFl (w : Enc) : Bool := w.dm = 8 && w.d.toNat % 256 = 0

/-- Writes a result with its flags; where FL is the destination, the flag changes are discarded. -/
def Run.result (r : Run) (e : Nat) (w : Enc) (x : Res) : Run :=
  let r := if toFl w then r else r.flags e x.fl
  r.dest e w.dm w.d x.val

/-- The target of a branch (10 R265): `slot` is the address of the delay slot. -/
def Run.target (r : Run) (e : Nat) (w : Enc) (slot : BitVec 16) : BitVec 16 :=
  match w.am.toNat with
  | 0 => slot + (w.a.setWidth 8).signExtend 16
  | 2 => w.a
  | _ => BitVec.ofNat 16 (r.ptr e (w.a.toNat % 256))

end Sys2Proof.Machine
end

