-- ==== Sys2Proof/Machine/Issue.lean ====
section
/-!
DEFINITION. The issue of one Frarid-8 instruction: its boundary, its encoding checks, its slot, delay slots, repeat
prefixes and traps (spec/10 R263 to R289, spec/11 R294, R306).
-/

namespace Sys2Proof.Machine

/-- The return address of the CALL before a delay slot is pushed: it is `next`, the address after that slot (10 R269; log 44). -/
def State.pushReturn (s : State) (e : Nat) (next : BitVec 16) : State :=
  match (s.eng e).core.delay with
  | .call _ hi lo due => s.setEng e fun g => { g with
      late := Late.place_ ⟨due, .ram lo, byteOf next.toNat, false⟩
        (Late.place_ ⟨due, .ram hi, byteOf (next.toNat / 256), false⟩ g.late) }
  | _ => s

/-- What comes after an instruction: the next address, or what a control instruction before it decided (10 R269, R284). -/
def State.proceed (s : State) (e : Nat) (next : BitVec 16) : State :=
  match (s.eng e).core.delay with
  | .none => s.setCore e fun c => { c with pc := next }
  | .flow t leave =>
    let s := s.setCore e fun c => { c with pc := t.getD next, delay := .none }
    if leave then s.setEng e fun g => { g with xmode := none } else s
  | .call t _ _ _ => s.setCore e fun c => { c with pc := t, delay := .none }
  | .reti pc fl rc =>
    s.setCore e fun c => { c with
      pc := pc, fl := fl &&& 0x7F, rc := rc, delay := .none, depth := c.depth - 1
      trapAt := if c.trapAt = some c.depth then none else c.trapAt
      pre := if fl.msb then some ⟨pc, rc.toNat, true, true, none⟩ else none }

/-- What comes after an instruction of length `len`. -/
def State.follow (s : State) (e len : Nat) : State :=
  let next := (s.eng e).core.pc + BitVec.ofNat 16 len
  (s.pushReturn e next).proceed e next

/-- An instruction whose length nothing states: the return address that the CALL before it pushes is open (log 44). -/
def State.pushOpen (s : State) (e : Nat) : State :=
  ({ s with free := s.free + 1 }).pushReturn e ((Config.freeValue s.free).setWidth 16)

/-- The lowest execution cause (11 R294). -/
def leastCause (l : List Nat) : Option Nat := l.foldl (fun a c => some (min c (a.getD c))) none

/-- Neither part of a pair executes: RC and the snapshots are those before the prefix (11 R294). -/
def Core.unprefixed (c : Core) : Core :=
  match c.pre with
  | some p => if p.begun then c else { c with rc := c.held.1, cycSnap := c.held.2.1, tbsSnap := c.held.2.2 }
  | none => c

/-- The RETI of the trap handler has its delay slot here, which still lies in the handler (10 R286). -/
def Core.lastOfHandler (c : Core) : Bool :=
  match c.delay with
  | .reti _ _ _ => c.trapAt = some c.depth
  | _ => false

/-- The RETI before a delay slot has its effect though the slot traps: FL, RC and the vector depth are those that it popped
(10 R284; log 44). -/
def Core.returned (c : Core) : Core :=
  match c.delay with
  | .reti _ fl rc => { c with fl := fl &&& 0x7F, rc := rc, depth := c.depth - 1 }
  | _ => c

/-- An encoding trap: no effect; the return PC is the address of the instruction, or of its prefix (10 R289, 11 R294). A pair
takes the slot of its prefix. What stands before a delay slot has its effect: a CALL pushes its return address, and `len` is
the length of what stands in the slot, 0 where no length is given; a RETI has returned (log 44). -/
def State.encodingTrap (s : State) (e cause : Nat) (pc : BitVec 16) (len : Nat) : State :=
  let c := (s.eng e).core
  let s := if len = 0 then s.pushOpen e else s.pushReturn e (c.pc + BitVec.ofNat 16 len)
  let s := s.setCore e fun c =>
    let c := if c.lastOfHandler then c else c.returned
    { c.unprefixed with pc := pc, delay := .none, pre := none, fwd := [] }
  (s.pass e (if c.pre.isSome then 0 else 1) 0).takeTrap e cause pc pc false

/-- One instruction that no prefix governs executes in its slot; an execution trap returns to what follows it, a REPI that the
RETI before this delay slot resumes among it.
An engine that its own OUT restarts (09 R255) is at 0x0000 with its slots counted anew. -/
def State.single (s : State) (e len : Nat) (body : Run → Run) : State :=
  let pc := (s.eng e).core.pc
  let r := body ⟨s, [], 0, [], false⟩
  if (r.s.eng e).core.slot ≠ (s.eng e).core.slot then r.s
  else
  let s := r.s.pass e 1 r.stall
  match leastCause r.causes with
  | none => s.follow e len
  | some cause =>
    if (s.eng e).core.lastOfHandler then s.takeTrap e cause pc pc false
    else
      let s := s.follow e len
      s.takeTrap e cause pc (s.eng e).core.pc (s.eng e).core.pre.isSome

/-- One repetition: RC counts down, pointer bytes are forwarded to the next one (10 R271, R272). -/
def State.repetition (s : State) (e : Nat) (body : Run → Run) : State × Option Nat :=
  let r := body ⟨s, (s.eng e).core.fwd, 0, [], true⟩
  let s := r.s.setCore e fun c => { c with rc := c.rc - 1, fwd := r.fwd }
  (s.pass e 1 r.stall, leastCause r.causes)

/-- `n` repetitions under REP, ended by a trap. -/
def State.repeated (e : Nat) (body : Run → Run) : Nat → State → State × Option Nat
  | 0, s => (s, none)
  | n + 1, s =>
    let p := s.repetition e body
    match p.2 with
    | none => State.repeated e body n p.1
    | some c => (p.1, some c)

/-- The repetitions are over. -/
def State.endPrefix (s : State) (e len : Nat) : State :=
  s.setCore e fun c => { c with pre := none, fwd := [], pc := c.pc + BitVec.ofNat 16 len }

/-- A governed instruction executes: all repetitions of a REP, one of a REPI (10 R271 to R273; log 28). -/
def State.governed (s : State) (e : Nat) (p : Prefix) (len : Nat) (body : Run → Run) : State :=
  let pc := (s.eng e).core.pc
  if p.count = 0 then s.endPrefix e len
  else if p.inter then
    let q := s.repetition e body
    let more := (q.1.eng e).core.rc ≠ 0
    let s := if more then q.1.setCore e fun c => { c with pre := some { p with begun := true } } else q.1.endPrefix e len
    match q.2 with
    | none => s
    | some c => s.takeTrap e c pc (s.eng e).core.pc more
  else
    let q := State.repeated e body p.count s
    let s := q.1.endPrefix e len
    match q.2 with
    | none => s
    | some c => s.takeTrap e c pc (s.eng e).core.pc false

/-- The boundary before an instruction: a halt that is asked for takes effect, a breakpoint halts the engine, and an event that is due takes its vector; else
the instruction issues (10 R281, R282; 09 R255). A BRK that halted the engine issues before an event is taken (11 R306). -/
def State.atBoundary (s : State) (e : Nat) (go : State → State) : State :=
  let g := s.eng e
  if !s.canIssue e then s
  else if g.state = .run && g.core.outsideRep && s.flag (R.ENG_CTL_HALT e) then s.haltEng e
  else if s.stopsAt e then (s.haltEng e).set (R.ENG_CTL_HALT e) 1
  else
    let s := s.setEng e fun g => { g with pass := false, brk := false }
    match (if g.state = .run && g.core.permitted && !g.brk then g.eventVector else none) with
    | some v => s.interrupt e v
    | none => (go s).boundary e

/-- Issues an instruction that is neither a prefix nor a control instruction. -/
def State.issue (s : State) (e : Nat) (sh : Shape) (w : Enc) (body : Run → Run) : State :=
  s.atBoundary e fun s =>
    let c := (s.eng e).core
    match c.pre with
    | some p =>
      if !sh.gov then s.encodingTrap e 0x08 p.pc (sh.len w)
      else
        match firstError p.bad (sh.check w) with
        | some err => s.encodingTrap e err.2 p.pc (sh.len w)
        | none => s.governed e p (sh.len w) body
    | none =>
      match sh.check w with
      | some err => s.encodingTrap e err.2 c.pc (sh.len w)
      | none => s.single e (sh.len w) body

/-- Issues a control instruction: `act` gives the run and what stands in its delay slot (10 R269, R270). -/
def State.issueFlow (s : State) (e : Nat) (sh : Shape) (w : Enc) (act : Run → BitVec 16 → Run × Delay) : State :=
  s.atBoundary e fun s =>
    let c := (s.eng e).core
    match c.pre with
    | some p => s.encodingTrap e 0x08 p.pc (sh.len w)
    | none =>
      if c.delay ≠ .none then s.encodingTrap e 0x07 c.pc (sh.len w)
      else
        match sh.check w with
        | some err => s.encodingTrap e err.2 c.pc (sh.len w)
        | none =>
          let slot := c.pc + BitVec.ofNat 16 (sh.len w)
          let q := act ⟨s, [], 0, [], false⟩ slot
          (q.1.s.pass e 1 q.1.stall).setCore e fun c => { c with pc := slot, delay := q.2 }

/-- Issues a prefix (10 R270, R271): its errors of step 4 on wait for the governed instruction (11 R294). -/
def State.issuePrefix (s : State) (e : Nat) (w : Enc) (inter : Bool) : State :=
  s.atBoundary e fun s =>
    let c := (s.eng e).core
    match c.pre with
    | some p => s.encodingTrap e 0x08 p.pc (Shape.prefix_.len w)
    | none =>
      if c.delay ≠ .none then s.encodingTrap e 0x06 c.pc (Shape.prefix_.len w)
      else
        let bad := Shape.prefix_.check w
        let q := if bad.isNone then (Run.mk s [] 0 [] false).source e w.am w.a else (0, ⟨s, [], 0, [], false⟩)
        let s := q.2.s.pass e 1 q.2.stall
        s.setCore e fun c' => { c' with
          pc := c.pc + BitVec.ofNat 16 (Shape.prefix_.len w), rc := if bad.isNone then q.1 else c'.rc, fwd := []
          held := (c.rc, c.cycSnap, c.tbsSnap)
          pre := some ⟨c.pc, if bad.isNone then q.1.toNat else 0, inter, false, bad⟩ }

/-- Issues a reserved or slot-2 opcode (11 R291, R294). -/
def State.issueIllegal (s : State) (e : Nat) (op : Byte) : State :=
  s.atBoundary e fun s =>
    let c := (s.eng e).core
    match c.pre with
    | some p => s.encodingTrap e (if 0x80 ≤ op.toNat then 0x08 else 0x01) p.pc 0
    | none => s.encodingTrap e (if op.toNat / 16 = 0xE then 0x09 else 0x01) c.pc 0

/-- The instruction at the PC, of length `len`, traps with a cause (10 R286 to R289, 11 R294). -/
def State.trapped (s : State) (e cause len : Nat) : State :=
  let c := (s.eng e).core
  if cause < 0x10 then s.encodingTrap e cause ((c.pre.map Prefix.pc).getD c.pc) len
  else
    match c.pre with
    | some p => s.governed e p len fun r => r.fail cause
    | none => s.single e len fun r => r.fail cause

/-- A write to a port as one slot; under XMODE a port that is not accepted traps with WPROT, which ends a delay slot (09 R252;
log 26). A STEP ends with it (09 R255). -/
def State.portSlot (s : State) (e n : Nat) (v : Byte) : State :=
  let g := s.eng e
  let s :=
    if g.accepts (.port n) then (s.writePort e n v).pass e 1 (s.portWait e n g.core.cyc)
    else
      let s := (s.pass e 1 0).pushOpen e
      if g.core.lastOfHandler then s.takeTrap e 0x11 g.core.pc g.core.pc false
      else
        let s := s.proceed e g.core.pc
        s.takeTrap e 0x11 g.core.pc (s.eng e).core.pc (s.eng e).core.pre.isSome
  s.boundary e

end Sys2Proof.Machine
end

