-- ==== Sys2Proof/Machine/EngineCommands.lean ====
section
/-!
DEFINITION. The commands of one engine that are no instruction: one access to a port, waking, vectors, reservations, and the
arrival of results (spec/09 R232, R233, R245, R246, R252; spec/10 R274 to R289; spec/11 R308, R311).
-/

namespace Sys2Proof.Machine

/-! ### Commands of one port access; each takes the slot of its IN or OUT (log 26) -/

/-- ENGINE_TSTART. -/
def execEngineTstart (e : Fin 32) (s : State) : Host.Outcome State Fault Refusal :=
  onlyIf (s.canIssue e) s (s.portSlot e 0x22 1)

/-- ENGINE_TDONE. -/
def execEngineTdone (e : Fin 32) (v : Byte) (s : State) : Host.Outcome State Fault Refusal :=
  onlyIf (s.canIssue e) s (s.portSlot e 0x23 v)

/-- ENGINE_SLEEP. -/
def execEngineSleep (e : Fin 32) (s : State) : Host.Outcome State Fault Refusal :=
  onlyIf (s.canIssue e) s (s.portSlot e 0x2A 1)

/-- ENGINE_PARK. -/
def execEnginePark (e : Fin 32) (s : State) : Host.Outcome State Fault Refusal :=
  onlyIf (s.canIssue e) s (s.portSlot e 0x2A 2)

/-- ENGINE_WAKE (09 R245, R246): a sleeping engine on a doorbell or an enabled cause, a parked one that is active again. -/
def execEngineWake (e : Fin 32) (s : State) : Host.Outcome State Fault Refusal :=
  let g := s.eng e
  let due := (g.state = .sleep && g.fevt &&& (g.fevten ||| 8) ≠ 0)
    || (g.state = .parked && decide (e.val ∈ s.disp.active))
  onlyIf (s.inRun && due) s (s.setEng e fun g => { g with state := .run })

/-- FEVT_CLEAR: bit 2 is not cleared by writing. -/
def execFevtClear (e : Fin 32) (v : Byte) (s : State) : Host.Outcome State Fault Refusal :=
  onlyIf (s.canIssue e) s (s.portSlot e 0x28 v)

/-- WINDOW_SET: port WIN(k + 1). -/
def execWindowSet (e : Fin 32) (k : Fin 7) (v : Byte) (s : State) : Host.Outcome State Fault Refusal :=
  onlyIf (s.canIssue e) s (s.portSlot e (0x11 + k) v)

/-- DBGOUT_WRITE. -/
def execDbgoutWrite (e : Fin 32) (v : Byte) (s : State) : Host.Outcome State Fault Refusal :=
  onlyIf (s.canIssue e) s (s.portSlot e 0x3C v)

/-- VICTIM_READ; what the read returns goes to the IN's destination. -/
def execVictimRead (e : Fin 32) (s : State) : Host.Outcome State Fault Refusal :=
  onlyIf (s.canIssue e) s (((s.readVictim e).2.pass e 1 0).boundary e)

/-! ### Commands of vectors, reservations and results -/

/-- INTERRUPT_ENTRY (10 R281 to R283). -/
def execInterruptEntry (e : Fin 32) (s : State) : Host.Outcome State Fault Refusal :=
  match (s.eng e).eventVector with
  | some v => onlyIf (s.inRun && (s.eng e).state = .run && (s.eng e).core.permitted) s (s.interrupt e v)
  | none => .next s

/-- The causes that a trap reports (10 R288). -/
def trapCauses : List Nat := [1, 2, 3, 4, 5, 6, 7, 8, 9, 0x10, 0x11, 0x12, 0x13, 0x14]

/-- TRAP_ENTRY (10 R286 to R289): the instruction at the PC traps; `nxt` is the address behind it. -/
def execTrapEntry (e : Fin 32) (cause : Byte) (nxt : BitVec 16) (s : State) : Host.Outcome State Fault Refusal :=
  onlyIf (s.canIssue e && decide (cause.toNat ∈ trapCauses)) s
    ((s.trapped e cause.toNat (nxt - (s.eng e).core.pc).toNat).boundary e)

/-- RESERVATION_TIMEOUT (10 R278): the cycles up to 64 after the LDRS pass as stalls. -/
def execReservationTimeout (e : Fin 32) (s : State) : Host.Outcome State Fault Refusal :=
  match (s.eng e).core.rsv with
  | some (_, at_) => onlyIf s.inRun s ((s.pass e 0 (at_ + 64 - (s.eng e).core.cyc)).dropRsv e)
  | none => .next s

/-- RESERVATION_BREAK (10 R278): another requester, an engine or (32) any other, writes a byte of frame memory. -/
def execReservationBreak (requester : Fin 33) (a : BitVec 20) (v : Byte) (s : State) : Host.Outcome State Fault Refusal :=
  onlyIf s.inRun s (s.frameWrite requester a.toNat [v])

/-- MUL_RESULT: the slots up to the arrival of the oldest pending product pass (10 R274; log 27). -/
def execMulResult (e : Fin 32) (s : State) : Host.Outcome State Fault Refusal :=
  match (s.eng e).core.prods with
  | p :: _ => onlyIf s.inRun s (s.pass e (p.due - (s.eng e).core.slot) 0)
  | [] => .next s

/-- DIV_RESULT (10 R276). -/
def execDivResult (e : Fin 32) (s : State) : Host.Outcome State Fault Refusal :=
  match (s.eng e).core.quot with
  | some (due, _) => onlyIf s.inRun s (s.pass e (due - (s.eng e).core.slot) 0)
  | none => .next s

/-- QUINCE_RESULT (11 R308). -/
def execQuinceResult (e : Fin 32) (s : State) : Host.Outcome State Fault Refusal :=
  match (s.eng e).core.quince with
  | some q => onlyIf (s.inRun && (s.eng e).core.qbusy) s (s.pass e (q.2 - (s.eng e).core.slot) 0)
  | none => .next s

/-- SLOE_RESULT (11 R311). -/
def execSloeResult (e : Fin 32) (s : State) : Host.Outcome State Fault Refusal :=
  match (s.eng e).core.sloe with
  | some o => onlyIf s.inRun s (s.pass e 0 (o.due - (s.eng e).core.cyc))
  | none => .next s

end Sys2Proof.Machine
end

