-- ==== Sys2Proof/Machine/EngineDebug.lean ====
section
/-!
DEFINITION. The debug registers of the engine pages: halt, step, breakpoints, restart, the window on local RAM and the
debug FIFO (spec/09_engine_array_and_work_ring.md R255 and the ENG registers).
-/

namespace Sys2Proof.Machine

/-- STATE is HALTED or STOPPED. -/
def State.engIdle (s : State) (e : Nat) : Bool := (s.eng e).state = .halted || (s.eng e).state = .stopped

/-- CTL.HALT = 1: the engine stops at its next boundary, which is now unless it is inside a REP; one that sleeps or is
parked stops at once (R255; log 37). -/
def State.askHalt (s : State) (e : Nat) : State :=
  if (s.eng e).state = .sleep || (s.eng e).state = .parked then s.haltEng e else s.boundary e

/-- CTL.HALT = 0: a halted engine goes on in the state in which it was halted. -/
def State.resume (s : State) (e : Nat) : State :=
  s.setEng e fun g => if g.state = .halted then { g with state := g.prior, step := false, pass := true } else g

/-- The task that a restarted engine holds: of a halted one it is LOST, the one that a stopped one has taken is left to
WAVE_TIMEOUT as a task that no engine holds, number 32 (R243, R248, R255). -/
def State.forgetTask (s : State) (e : Nat) : State :=
  match s.heldTask e with
  | some t => if (s.eng e).state = .halted then s.loseTask t else s.setTask t.tid (.taken 32)
  | none => s

/-- What an engine has stored is in its local RAM and in frame memory (R232, R255). -/
def State.storesLand (s : State) (e : Nat) : State :=
  let l := (s.eng e).late.filter fun w => match w.place with | .ram _ => !w.quince | _ => false
  l.foldl (fun s w => s.commit e w) (s.drain e)

/-- CTL.RESTART of a halted or stopped engine: it runs from 0x0000 with its local RAM, its counters and its debug FIFO
(R255, R248, 10 R290; log 37). -/
def State.restart (s : State) (e : Nat) : State :=
  let s := (s.forgetTask e).storesLand e
  let s := (s.ceases Kind.engDoubleTrap e).set (R.ENG_CTL_HALT e) 0
  s.setEng e fun g => { Engine.reset e with
    ram := g.ram, dbg := g.dbg, drops := g.drops, tasks := g.tasks, busy := g.busy, stall := g.stall, kind := g.kind
    tid := g.tid, aborted := g.aborted, state := .run }

/-- A write of ENGn.CTL; the Bool tells a rejected RESTART. -/
def State.engCtl (s : State) (e w : Nat) : State × Bool :=
  let put (s : State) (f : Fld) : State := s.set f (f.of w)
  let s := [R.ENG_CTL_HALT e, R.ENG_CTL_BP0EN e, R.ENG_CTL_BP1EN e, R.ENG_CTL_BRKEN e].foldl put s
  if bit w 5 && s.engIdle e then (s.restart e, false)
  else if !bit w 0 then (s.resume e, bit w 5)
  else if bit w 1 && (s.eng e).state = .halted then (s.setEng e fun g => { g with step := true }, bit w 5)
  else (s.askHalt e, bit w 5)

/-- The four bytes of local RAM at DMAD; 0 unless the engine is halted or stopped. -/
def State.dmdat (s : State) (e : Nat) : Nat :=
  if s.engIdle e then ofBytes (Memory.readList (s.eng e).ram (4 * s.get (R.ENG_DMAD e)) 4) else 0

/-- A write of DMDAT; the Bool tells a rejected one. -/
def State.setDmdat (s : State) (e w : Nat) : State × Bool :=
  if s.engIdle e then
    (s.setEng e fun g => { g with ram := Memory.writeList g.ram (4 * s.get (R.ENG_DMAD e)) (toBytes 4 w) }, false)
  else (s, true)

/-- ENGn.DBG. -/
def State.dbgWord (s : State) (e : Nat) : Nat :=
  let g := s.eng e
  match g.dbg with
  | b :: _ => b.toNat ||| 0x100 ||| (g.drops <<< 16)
  | [] => g.drops <<< 16

/-- A delivered read of ENGn.DBG pops its oldest byte. -/
def State.dbgPop (s : State) (e : Nat) : State := s.setEng e fun g => { g with dbg := g.dbg.tail }

/-- The number of a state in ENGn.STAT. -/
def EngState.code : EngState → Nat
  | .reset => 0
  | .run => 1
  | .sleep => 2
  | .parked => 3
  | .halted => 4
  | .stopped => 5

/-- ENGn.STAT. -/
def State.engStat (s : State) (e : Nat) : Nat :=
  let g := s.eng e
  g.state.code ||| (b2n g.inExt <<< 3) ||| (b2n g.core.rsv.isSome <<< 4) ||| (b2n g.task <<< 5)
    ||| (g.kind <<< 8) ||| (g.tid <<< 16)

/-- ENGn.TRAP. -/
def State.engTrap (s : State) (e : Nat) : Nat :=
  let c := (s.eng e).core
  c.cause ||| (b2n c.double <<< 8) ||| (c.trapPc.toNat <<< 16)

/-- A register of an engine page that the engine computes. -/
def State.engRead (s : State) (e off : Nat) : Nat :=
  match off with
  | 0x24 => s.engStat e
  | 0x28 => (s.eng e).core.pc.toNat
  | 0x34 => s.engTrap e
  | 0x3C => s.dmdat e
  | 0x40 => (s.eng e).tasks
  | 0x44 => (s.eng e).busy
  | 0x48 => (s.eng e).stall
  | 0x4C => s.dbgWord e
  | _ => 0

/-- BREAKPOINT_HIT: an engine at an enabled breakpoint halts before it issues. -/
def execBreakpointHit (e : Fin 32) (s : State) : Host.Outcome State Fault Refusal :=
  onlyIf (s.inRun && s.stopsAt e) s
    ((s.haltEng e).set (R.ENG_CTL_HALT e) 1)

end Sys2Proof.Machine
end

