-- ==== Sys2Proof/Machine/Frame.lean ====
section
/-!
DEFINITION. The frame: FRAME_START with its seven actions, SCAN_END, and the acquisition frames (spec/01 R20, R21, R29;
spec/04 R106 to R113; spec/05 R138; spec/06 R142 to R149; spec/14 R366 to R371; spec/16 R424 to R426).
-/

namespace Sys2Proof.Machine

/-! ### Sampling (00 R9, R10; 14 R368) -/

/-- Whether a field key belongs to the DRIVE, SCAN or NOISE page, whose fields a cascade shares. -/
def sharedKey (k : Nat) : Bool := k / 0x20000 = 0x14 || k / 0x20000 = 0x15 || k / 0x20000 = 0x16

/-- Register values with the shared fields of an FPARAM packet in their places. -/
def overlay (regs shared : List (Nat × Nat)) : List (Nat × Nat) :=
  shared.foldl (fun m p => aput p.1 p.2 m) (regs.filter fun p => !sharedKey p.1)

/-- What FRAME_START samples: the registers, and in a cascade ROOT's shared fields as FPARAM carried them. Where FPARAM has
not come, the shared fields stay as they are (14 R368; log 107). -/
def State.sampled (s : State) : List (Nat × Nat) :=
  match s.inCascade, s.lf.fp with
  | true, some p => overlay s.regs p.fields
  | true, none => overlay s.regs (s.force.filter fun p => sharedKey p.1)
  | false, _ => s.regs

/-! ### What the frame runs -/

/-- The excitation, the table and the kind of test of a frame. K, repetitions and divider are held minus 1. -/
structure Plan where
  vtx : Nat
  k : Nat
  reps : Nat
  fdiv : Nat
  fidx : Nat
  table : Nat
  test : Nat
  deriving DecidableEq, Repr

/-- The frequency index of the next frame (04 R106; 06 R157, R159, R160). Before any frame the policy starts from FIDX. -/
def State.nextIndex (s : State) : Nat :=
  if s.inForce R.NOISE_CTL_HOPEN = 0 then s.inForce R.DRIVE_EXC_FIDX
  else
    match s.scan.deferred with
    | some f => f
    | none =>
      if s.flag R.NOISE_STAT_PEND then s.get R.NOISE_STAT_FNEXT
      else if s.scan.period = 0 then s.inForce R.DRIVE_EXC_FIDX
      else s.fcur

/-- The table of the next frame; 4 is the built-in one, which a full or quick test leaves for its frames (06 R145, R147,
17 R447). -/
def State.nextTable (s : State) : Nat :=
  if s.st.kind = 1 || s.st.kind = 2 then tmapTable s.tmapForce 3
  else if s.scan.builtin then 4
  else tmapTable s.tmapForce s.mode

/-- The table in force; 4 is the built-in one. -/
def State.tableNow (s : State) : Nat := if s.flag R.SCAN_TSTAT_BUILTIN then 4 else s.get R.SCAN_STAT_TACT

/-- The frame's plan from the fields in force and the operating point. -/
def State.ownPlan (s : State) : Plan :=
  ⟨s.askVtx, s.askK - 1, s.askReps - 1, s.ndiv - 1, s.nextIndex, s.nextTable, s.st.kind⟩

/-- The plan of a frame for which no FPARAM has come: everything that FPARAM carries stays as it is (14 R369; log 107). -/
def State.keptPlan (s : State) : Plan :=
  ⟨s.get R.DRIVE_STAT_VTXACT, s.get R.DRIVE_STAT_KACT, s.get R.DRIVE_STAT_REPSACT,
    s.scan.period / max 1 (s.inForce R.SCAN_PERIOD_P) - 1, s.fcur, s.tableNow, s.st.kind⟩

/-- No FPARAM has come for the frame that starts (14 R369). -/
def State.unled (s : State) : Bool := s.inCascade && s.lf.fp.isNone

/-- The frame's plan: in a cascade the one that FPARAM carried (14 R368). -/
def State.plan (s : State) : Plan :=
  match s.inCascade, s.lf.fp with
  | true, some p => ⟨p.vtx, p.k, p.reps, p.fdiv, p.fidx, p.table, p.test⟩
  | true, none => s.keptPlan
  | false, _ => s.ownPlan

/-- The words of table `t`; a member runs ROOT's tables (06 R147, 14 R364). -/
def State.planWords (s : State) (t : Nat) : List Nat :=
  if t = 4 then builtinTable s.ntx
  else if s.inCascade && s.panel.pos ≠ 0 then untilEnd (s.lf.tables.getD t [])
  else untilEnd (s.tableWords t)

/-! ### The frames before -/

/-- The scan phase that the next FRAME_START finds incomplete is abandoned (04 R113). A test frame that is cut off runs
again and leaves no gap. -/
def State.scanOverrun (s : State) : State :=
  if s.scan.phase = .ended || s.scan.phase = .idle then s
  else
    let w := stimWords s.scan.words
    let s := if s.scan.test then
        { s with st := { s.st with stims := s.st.stims.filter fun t => t.1 < s.st.frame * w } }
      else { s with pipe := { s.pipe with gap := true } }
    let s := s.eventFault Kind.scanOverrun 0 (s.scan.frame % 65536)
    let s := (s.set R.DRIVE_STAT_BURST 0).set R.DRIVE_STAT_SETTLING 0
    ({ s with scan := { s.scan with phase := .idle } }).setGenBusy

/-- Whether the FRAME_START of frame `n` takes the buffers of frame `m` back (01 R21). -/
def bufferTaken (n m : Nat) : Bool := 2 ≤ (n + 0x100000000 - m % 0x100000000) % 0x100000000

/-- One frame is abandoned under R21. -/
def State.pipeFault (s : State) (frame : Nat) : State :=
  (s.eventFault Kind.pipeOverrun 0 (frame % 65536)).sat R.PIPE_CNT_OVERRUN

/-- The frame being processed has no task left, though its Q2 records may still wait for the members' parts. -/
def State.tasksOver (s : State) (fi : FrameInfo) : Bool := s.disp.ended && (s.nextWave fi s.disp.wave).isNone

/-- The low halves of the counters of the frames whose buffers the FRAME_START of frame `n` takes back while engines still
run a task of them, though they are processed no more (09 R236: the engines hold the buffer until the last task ends). -/
def State.heldOver (s : State) (n : Nat) : List Nat :=
  let cur := match s.disp.cur with
    | some fi => fi.frame % 65536
    | none => 65536
  ((s.disp.tasks.map Task.frame).filter fun f => (f + 2) % 65536 = n % 65536 && f ≠ cur).eraseDups

/-- Frames whose raw buffer the FRAME_START of frame `n` gives back to the decoders are abandoned (01 R21, 09 R236). -/
def State.pipeOverrun (s : State) (n : Nat) : State :=
  let s := (s.heldOver n).foldl State.pipeFault s
  let s := match s.disp.cur with
    | some fi => if bufferTaken n fi.frame && !s.tasksOver fi then (s.abandonFrame fi).pipeFault fi.frame else s
    | none => s
  let late := s.disp.ready.filter fun fi => bufferTaken n fi.frame
  let s := late.foldl (fun s fi => s.pipeFault fi.frame) s
  if late.isEmpty then s
  else { s with
    disp := { s.disp with ready := s.disp.ready.filter fun fi => !bufferTaken n fi.frame }
    pipe := { s.pipe with gap := true } }

/-! ### The steps of FRAME_START (01 R29) -/

/-- A member whose TB differs by more than 1 µs from that of FPARAM reloads it (14 R367). -/
def State.reloadTb (s : State) : State :=
  match s.inCascade, s.lf.fp with
  | true, some p =>
    if s.panel.pos = 0 || tbDiff p.tb s.pow.tb ≤ 1 || tbDiff s.pow.tb p.tb ≤ 1 then s
    else ({ s with pow := { s.pow with tb := p.tb % tbMod } }).timeGap 2
  | _, _ => s

/-- The counter of the frame that starts: one more than the last. The packets of a frame carry bits 15:0 of ROOT's counter, and
a member takes them from FPARAM (14 R360, R380; log 63). -/
def State.nextFrame (s : State) : Nat :=
  let n := (s.scan.frame + 1) % 0x100000000
  match s.follows, s.lf.fp with
  | true, some p => n / 65536 * 65536 + p.frame.toNat
  | _, _ => n

/-- AFECLK cycles from the falling SYNC edge to FRAME_START, 400 ns (14 R366), rounded down (log 112). -/
def syncDelay : Nat := 38

/-- When the frame starts: TB, and what lies beyond it in AFECLK cycles. The first FRAME_START comes `dt` µs from now; the others
follow the period, and in a cascade the falling SYNC edge. -/
def State.startTime (s : State) (dt : Nat) : Nat × Nat :=
  match s.inCascade, s.lf.sync with
  | true, some e => (e.1 + (e.2 + syncDelay) / 96, (e.2 + syncDelay) % 96)
  | _, _ =>
    let c := s.scan.startFrac + s.scan.period
    if s.scan.fresh then (s.pow.tb + dt, 0) else (s.scan.startTb + c / 96, c % 96)

/-- Step 1: the counter, and TB captured. -/
def State.frameTime (s : State) (dt : Nat) : State :=
  let at_ := s.startTime dt
  let t := s.advanceTo at_.1
  let frac := if t.pow.tb = at_.1 % tbMod then at_.2 else 0
  let t := t.reloadTb
  { t with scan := { t.scan with frame := s.nextFrame, startTb := t.pow.tb, startFrac := frac, clk := 0 } }

/-- The frequency dividers in force, by index. -/
def State.dividers (s : State) : List Nat := (List.range 32).map s.divider

/-- The Q2 fields in force (12 R333). -/
def State.q2Fields (s : State) : List Nat :=
  [R.QUEUE_Q2PLANES_PLANES, R.QUEUE_Q2PLANES_RATE, R.QUEUE_Q2ORG_X0, R.QUEUE_Q2ORG_Y0, R.QUEUE_Q2SIZE_W,
    R.QUEUE_Q2SIZE_H, R.QUEUE_Q2DEC_DECX, R.QUEUE_Q2DEC_DECY].map fun f => s.inForce f

/-- The F-class fields take values; what depends on a change of them is noted (06 R149, 12 R333). -/
def State.takeForce (s : State) (l : List (Nat × Nat)) : State :=
  let s' : State := { s with force := l }
  let moved := (List.range 32).filter fun i => decide (s.divider i ≠ s'.divider i)
  let s' : State := moved.foldl (fun t i => t.setNfValid i false) s'
  if s.q2Fields = s'.q2Fields then s' else { s' with host := { s'.host with q2Told := false } }

/-- Step 2: F-class fields are sampled. -/
def State.sampleFields (s : State) : State := s.takeForce s.sampled

/-- The masks of the frame: this device's own electrodes, and what FPARAM says of the other positions (04 R119; 14 R370,
R378, R380). A shadow interval counts down at ROOT. The nodes of a device whose position enters it become NEW. -/
def State.takeMasks (s : State) : State :=
  let s := { s with scan := { s.scan with
      txOff := (List.range 160).filter s.masked
      rxOff := (List.range 96).filter fun c => s.masked (0x100 + c) } }
  match s.inCascade, s.lf.fp with
  | true, some p =>
    let own := s.panel.pos
    let shadow := if own = 0 then s.link.shadow.map fun q => if q.1 ∈ p.lost then q else (q.1, q.2 - 1)
      else p.shadow.map fun k => (k, 1)
    let enters := decide (own ∈ p.shadow) && !s.link.shadow.any fun q => q.1 = own
    let s := { s with panel := { s.panel with lost := p.lost, flt := p.flt }, link := { s.link with shadow := shadow } }
    if enters then s.newNodes else s
  | _, _ => s

/-- The frame is a0 of an acquisition without a reference record: every channel runs at gain code 0 (07 R176). -/
def State.bareSeed (s : State) : Bool := s.base.acq = some 0 && s.reference.isNone

/-- Step 4: excitation and gains take effect, and the frame's scale tag is fixed (04 R108, 05 R125, R138). In a cascade a
choice of index made after FPARAM was sent waits for the next one (14 R368). -/
def State.takeExcitation (s : State) (p : Plan) : State :=
  let old := s.scan.tag
  let changed := s.scan.fresh || p.vtx ≠ s.get R.DRIVE_STAT_VTXACT || p.k ≠ s.get R.DRIVE_STAT_KACT
    || p.reps ≠ s.get R.DRIVE_STAT_REPSACT || p.fidx ≠ s.fcur
  let s := if p.vtx = s.get R.DRIVE_STAT_VTXACT then s
    else
      let t := (s.set R.DRIVE_STAT_VTXACT p.vtx).set R.DRIVE_STAT_VTXGOOD 0
      { t with scan := { t.scan with dropout := false } }
  let s := (s.set R.DRIVE_STAT_KACT p.k).set R.DRIVE_STAT_REPSACT p.reps
  let hop := s.inForce R.NOISE_CTL_HOPEN ≠ 0 && s.scan.deferred.isNone && s.flag R.NOISE_STAT_PEND && p.fidx ≠ s.fcur
  let s := if hop then s.wrap R.NOISE_CNT_HOPS else s
  let s := if p.fidx ≠ s.fcur then s.setFreq p.fidx else s.sat R.NOISE_STAT_DWELLCNT
  let kept := s.inCascade && s.nextIndex ≠ p.fidx
  let wanted := s.scan.deferred
  let s := if kept then s.applyCoefs else (s.setNext s.fcur false).applyCoefs
  let gains := (List.range 96).map fun c => if s.bareSeed then 0 else s.gainCode c
  let tag : Tag := ⟨if p.vtx = 0 then s.scan.lastVtx else p.vtx, gains, (List.range 96).map fun c => s.coef c⟩
  { s with scan := { s.scan with
      tag := tag, deferred := if kept then wanted else none, settleDue := changed || tag.gains ≠ old.gains
      period := s.inForce R.SCAN_PERIOD_P * (p.fdiv + 1) } }

/-- The mode and the table in force, with the MODE event of a change: at once where no report follows (08 R226, 06 R148). -/
def State.takeTable (s : State) (p : Plan) (oldMode : Nat) : State :=
  let mode := if p.test ≠ 0 then 3 else s.mode
  let table := if p.table = 4 then tmapTable s.tmapForce s.mode else p.table
  let s := ((s.set R.SCAN_STAT_MODEACT mode).set R.SCAN_STAT_TACT table).setFlag R.SCAN_TSTAT_BUILTIN (p.table = 4)
  if s.mode = oldMode || s.scan.period = 0 || !s.isRoot then s
  else if p.test ≠ 0 then s.modeEvent s.mode oldMode s.scan.modeSrc table
  else { s with pipe := { s.pipe with modes := s.pipe.modes ++ [(s.mode, oldMode, s.scan.modeSrc, table)] } }

/-- Step 7: the sequencers start the frame's first scan word. A frame for which no FPARAM has come drives nothing, and nothing
of it is processed (14 R369). -/
def State.startWords (s : State) (p : Plan) (unled : Bool) : State :=
  let words := if unled then [] else s.planWords p.table
  let table : State := { s with scan := { s.scan with words := words } }
  let s := if unled then s else s.setFlag R.CAL_STAT_BGBLOCK (!table.listenLong)
  let s := ((s.set R.SCAN_STAT_INSCAN 1).set R.SCAN_STAT_SCANNING 1).set R.DRIVE_STAT_BURST 0
  let s := { s with
    scan := { s.scan with
      words := words, fresh := false, test := p.test ≠ 0, stim := s.st.frame * stimWords words
      settled := false, hopped := false, eDone := false, eRun := 0, ePeak := 0, burst := 0, gap := 0, seqs := []
      built := 0, windows := [], slot := [], ovChips := List.replicate 96 0, ovl := [], clamped := []
      winVoid := false, waits := false, abandoned := unled, staging := List.replicate 256 0
      blank := { s.scan.blank with voids := 0, passVoids := [], us := 0 } }
    cal := { s.cal with slot := [] }
    link := { s.link with windows := [], e := 0 }
    lf := { s.lf with hop := none } }
  (s.enterWord 256 0).setGenBusy

/-- The first frame after scanning stood still: electrodes enabled meanwhile make their nodes NEW, and disabled ones make
theirs MASKED (06 R149). -/
def State.freshNodes (s : State) : State :=
  if !s.scan.fresh then s
  else
    let on := s.scan.enabled
    let s := s.eachNode s.nodes fun s d c =>
      let s := s.maskNode d c
      let hit := (match s.pinOf d with
        | some p => decide (p ∈ on)
        | none => false) || decide (0x100 + c ∈ on)
      if hit && s.nodeLive d c then s.setFlags d c (s.flagsAt d c &&& Flag.noref ||| Flag.new) else s
    { s with scan := { s.scan with enabled := [] } }

/-- A VTX that has dropped out is told once in each frame that drives with it (02 R45). -/
def State.dropFrame (s : State) : State :=
  let s := { s with scan := { s.scan with dropTold := false } }
  if s.scan.dropout && s.get R.DRIVE_STAT_VTXACT ≠ 0 then s.dropsOut else s

/-- The frame's FPARAM and SYNC edge are used up; a member counts a frame without FPARAM (14 R369). -/
def State.linkFrame (s : State) : State :=
  { s with lf := { s.lf with
      fp := none, sync := none
      miss := if s.unled then aput s.panel.pos (aget 0 s.panel.pos s.lf.miss + 1) s.lf.miss else s.lf.miss } }

/-- ROOT's test of the frame is the one that FPARAM has named: a request that came after it waits for the next frame, and a test
that was aborted after it ends with this one (06 R148; 17 R447, R448). -/
def State.rootTest (s : State) (kind : Nat) : State :=
  let t := s.selectTest s.mode
  if t.st.kind = kind then t
  else if s.st.kind = kind then s
  else let t := s.freshTest kind; { t with st := { t.st with abort := true } }

/-- Test frames: which test the frame belongs to (17 R447). In a cascade FPARAM tells. -/
def State.takeTest (s : State) : State :=
  match s.inCascade, s.lf.fp with
  | true, some p =>
    if s.panel.pos = 0 then s.rootTest p.test else if p.test ≠ s.st.kind then s.freshTest p.test else s
  | true, none => s
  | false, _ => s.selectTest s.mode

/-- FRAME_START (01 R29). `dt`: µs to the first frame; `meas`: what the governor monitor measured (16 R424). -/
def State.frameStart (s : State) (dt : Nat) (meas : GovMeas) : State :=
  let s := (s.scanOverrun.pipeOverrun s.nextFrame).frameTime dt
  let oldMode := s.mode
  let s := (((s.sampleFields.blankFrame).publish meas).takeTest).govFrame
  let p := s.plan
  let s := (s.takeTable p oldMode).deviceWrites State.baseCommands
  let s := (s.takeExcitation p).dropFrame
  let s := s.deviceWrites fun s => s.takeMasks.freshNodes.seedAll
  let s := (s.hwStrobe 1).takeNact s.nact
  let s := (List.range 32).foldl (fun s e => s.setFevt e fevtFrame) s
  (s.startWords p s.unled).linkFrame

/-- Whether a FRAME_START may come: scanning runs and the scan domain has not voted to stop. In a cascade a SYNC edge
precedes it, and drive is not stopped for want of a path or a clock (14 R365, R366, R378). -/
def State.frameMay (s : State) : Bool :=
  s.inRun && !s.flt.safe && !s.sup.lockout && s.scan.started && !s.scan.stopping && s.pow.voting.isNone
    && (!s.inCascade || (s.lf.sync.isSome && !s.lf.mute))

/-! ### The end of the scan phase -/

/-- The first eight windows as pairs of the NOISE plane (12 R332). -/
def noisePairs (l : List (Option (Nat × Nat))) : List Byte :=
  (List.range 8).flatMap fun i =>
    match l.getD i none with
    | some (f, m) => [byteOf f, byteOf m]
    | none => [0xFF, 0]

/-- The devices that contribute to a frame, by position, as ROOT knows at SCAN_END (08 R222). -/
def State.present (s : State) : Nat :=
  (List.range s.panel.ndev).foldl (fun a k =>
    if k ∈ s.panel.lost || s.link.shadow.any (fun q => q.1 = k && q.2 ≠ 0) then a else a ||| (1 <<< k)) 0

/-- The header flags that the scan phase decides (08 R222). -/
def State.scanFlags (s : State) : Nat :=
  b2n s.scan.hopped + 2 * b2n s.scan.settled + 4 * b2n (s.blankx && !s.inCascade)
    + 8 * b2n (s.govEn && s.inForce R.GOV_CTL_MINPT < s.point) + 0x20 * b2n s.degraded
    + 0x400 * b2n (!s.flag R.CLOCK_TBSTAT_VALID) + 0x800 * b2n (s.get R.DRIVE_STAT_VTXACT = 0)

/-- Whether the frame's words hold a SELF pass over the receive electrodes, or over the drive lines. -/
def State.selfPass (s : State) (rx : Bool) : Bool :=
  s.scan.words.any fun w => match decodeWord w with
    | .self axis _ _ _ => axis = 2 || (axis = 0) = rx
    | _ => false

/-- What the engines and the report need of the frame that ended its scan phase. -/
def State.frameInfo (s : State) : FrameInfo where
  frame := s.scan.frame
  tb := s.scan.startTb
  tag := s.scan.tag
  flags := s.scanFlags
  force := s.force
  mode := s.mode
  govEn := s.govEn
  oppt := if s.govEn then s.point else 0
  kpt := s.kpt
  thrsc := s.inForce R.SCAN_GLOVE_THRSC
  fidx := s.fcur
  vtx := s.get R.DRIVE_STAT_VTXACT
  scanUs := s.get R.SCAN_TIMING_LASTUS
  voids := s.get R.DRIVE_BSTAT_VOIDS
  nf := s.get R.NOISE_STAT_NFCUR
  rxPass := s.selfPass true
  txPass := s.selfPass false
  hasMutual := s.get R.DRIVE_STAT_VTXACT ≠ 0
  ovl := s.scan.ovl
  table := s.get R.SCAN_STAT_TACT
  devs := if s.inCascade then s.present else 1
  noise := ((List.range 32).map fun i => byteOf (s.get (R.NOISE_NF i))) ++ toBytes 4 (s.get R.NOISE_NFVALID)
    ++ noisePairs s.scan.windows
  masks := s.masks

/-- SCAN_END with what follows it at once: a test frame is judged, a frame to be processed waits for its DISPATCH, an
acquisition frame for ACQUISITION, and a stop of scanning goes on. -/
def State.afterScan (s : State) : State :=
  let s := s.scanEnd
  let s := if s.scan.abandoned then (if s.scan.test then s else { s with pipe := { s.pipe with gap := true } })
    else if s.scan.test then s.testFrameEnd
    else if s.base.acq.isSome then s
    else
      let t := s.sendCuffs s.frameInfo 0
      { t with disp := { t.disp with ready := t.disp.ready ++ [t.frameInfo] } }
  s.tryStop

/-! ### Acquisition (07 R176, 03 R65 step 9) -/

/-- The first acquisition after a reset is complete: STAGE becomes DONE, the straps are told, and a device strapped to
start in WATCH asks for it (03 R65; log 33). -/
def State.bootDone (s : State) : State :=
  if s.get R.DEVICE_BOOT_STAGE ≠ 6 then s
  else
    let s := (s.set R.DEVICE_BOOT_STAGE 7).tellStraps
    let b := s.get R.DEVICE_STRAPS_BOOTSEL
    if 2 ≤ b && b ≤ 4 then s.startVote .watch false false else s

/-- An acquisition frame is decoded (07 R176). -/
def State.acquired (s : State) (i : Nat) : State :=
  let s := s.deviceWrites (State.acqFrame · i)
  if i = 7 then s.bootDone else s

/-! ### Commands -/

/-- FRAME_START (01 R29). -/
def execFrameStart (dt : Nat) (meas : GovMeas) (s : State) : Host.Outcome State Fault Refusal :=
  onlyIf s.frameMay s (s.frameStart dt meas)

/-- SCAN_END (04 R107). Beside tasks of an older frame the copies wait, and come with the next SCAN_END (09 R247; log 62). -/
def execScanEnd (s : State) : Host.Outcome State Fault Refusal :=
  onlyIf (s.inRun && !s.flt.safe && s.scan.phase = .done) s (s.whenFree s.afterScan)

/-- ACQUISITION (07 R176), `us` µs after FRAME_START: the frame that has ended its scan phase is the next acquisition frame. -/
def execAcquisition (us : Nat) (s : State) : Host.Outcome State Fault Refusal :=
  match s.base.acq with
  | some i =>
    onlyIf (s.inRun && !s.flt.safe && s.scan.phase = .ended && !s.scan.test && !s.scan.abandoned
      && s.base.acqFrame ≠ s.scan.frame) s ((s.advanceTo (s.scan.startTb + us)).acquired i)
  | none => .next s

end Sys2Proof.Machine
end

