-- ==== Sys2Proof/Machine/Link.lean ====
section
/-!
DEFINITION. The Halgon link: discovery, packets, ports, SYNC, frame parameters, emergency hops across devices, losing and
regaining devices, and what arrives for a frame (spec/14_cascade_and_halgon_link.md R358 to R380).
-/

namespace Sys2Proof.Machine

/-! ### Panel, positions and ports -/

/-- This device is a member of a cascade, by its strap or as configured. -/
def State.isMember (s : State) : Bool := !s.flag R.DEVICE_STRAPS_ROOT

/-- The map of ROOT's registers (R358). -/
def State.mapRegs (s : State) : List (Nat × Nat) :=
  (List.range (s.get R.LINK_CFG_NDEV)).map fun k => (s.get (R.LINK_MAP_NTX k), s.get (R.LINK_MAP_NRX k))

/-- The position of the first failing map entry (R359): the one at which the drive lines exceed 512, or 0 where there is
no drive line, or where NDEV has been written below 2 since the boot saw it. -/
def mapFault (m : List (Nat × Nat)) : Option Nat :=
  if m.length < 2 || sumNat (m.map Prod.fst) = 0 then some 0
  else (List.range m.length).find? fun k => 512 < sumNat ((m.take (k + 1)).map Prod.fst)

/-- The error counters of a port: 0 UP, 1 DN. -/
def portCode (p : Nat) : Fld := if p = 0 then R.LINK_ERRUP_CODE else R.LINK_ERRDN_CODE
def portCrc (p : Nat) : Fld := if p = 0 then R.LINK_ERRUP_CRC else R.LINK_ERRDN_CRC
def portLost (p : Nat) : Fld := if p = 0 then R.LINK_ERRUP_LOSTPK else R.LINK_ERRDN_LOSTPK
def portDown (p : Nat) : Fld := if p = 0 then R.LINK_ERRUP_DOWN else R.LINK_ERRDN_DOWN

/-- The state of the cascade in LINK.STAT.STATE. -/
def linkTrain : Nat := 1
def linkDiscover : Nat := 2
def linkConfig : Nat := 3
def linkRun : Nat := 4
def linkAlone : Nat := 5

/-- Positions other than ROOT's. -/
def State.others (s : State) : List Nat := (List.range s.panel.ndev).filter (· ≠ s.panel.pos)

/-- Neighbour positions and own position in the LINK page. -/
def State.neighbours (s : State) (pos ndev : Nat) : State :=
  ((s.set R.LINK_STAT_POS pos).set R.LINK_PORT_NBRUP ((pos + ndev - 1) % ndev)).set R.LINK_PORT_NBRDN ((pos + 1) % ndev)

/-- A bitmap of positions. -/
def posBits (l : List Nat) : Nat := l.foldl (fun a k => a ||| (1 <<< k)) 0

/-- Whether the ring is closed. ROOT tells NO_RING where it opens after discovery has closed it; NO_RING is live until it is
closed again (17 R432, R433; log 115). -/
def State.setRing (s : State) (b : Bool) : State :=
  let t := s.setFlag R.LINK_STAT_RING b
  if b then t.ceases Kind.noRing 0
  else if s.flag R.LINK_STAT_RING && s.inCascade && s.panel.pos = 0 && s.get R.LINK_STAT_STATE = linkRun then
    t.onset Kind.noRing 0 0 (posBits (0 :: s.link.confd.filter (· ∉ s.link.lost)))
  else t

/-- Bursts stop: the burst that runs is not finished, and its frame is discarded (R365, R378). -/
def State.stopBursts (s : State) : State :=
  if s.scan.phase = .idle || s.scan.phase = .ended then s
  else
    let s := (s.set R.DRIVE_STAT_BURST 0).set R.DRIVE_STAT_SETTLING 0
    ({ s with scan := { s.scan with phase := .done, abandoned := true }, cal := { s.cal with slot := [] } }).setGenBusy

/-! ### Discovery at ROOT (R359, R362, R363) -/

/-- A device in HOVER that becomes a ring member enters NORMAL and posts the change (06 R162). -/
def State.leaveHover (s : State) : State :=
  if s.get R.SCAN_CTL_MODE ≠ 2 then s
  else (s.takeMode 0 2).modeEvent 0 2 2 (tmapTable s.tmap 0)

/-- A member whose ROOT has restarted takes part as at boot: what it was doing is given up, and it acquires (R380). -/
def State.beginAgain (s : State) : State :=
  let s := match s.disp.cur with
    | some fi => s.abandonFrame fi
    | none => s
  let s := { s with
    disp := { s.disp with ready := [] }, scan := { s.scan with started := false, stopping := false, phase := .idle } }
  (s.set R.SCAN_STAT_INSCAN 0).setGenBusy.noTracks.scanAgain false

/-- The panel comes into force and scanning starts: with the acquisition of the boot, or as after a wake (03 R65 step 9,
16 R411, R414). `acquire`: the cascade acquires, as it does where its ROOT has restarted or where not every device has kept its
baselines. -/
def State.cascadeStarts (s : State) (acquire : Bool) : State :=
  let s := { s with pow := { s.pow with rootWake := false } }.leaveHover
  if s.get R.DEVICE_BOOT_STAGE = 5 then s.acquire
  else if s.scan.started then (if acquire then s.beginAgain else s)
  else s.scanAgain (!acquire)

/-- ROOT's cascade acquires: at its boot, and after a wake where it or a member that it has reached has lost its baselines
(16 R414). -/
def State.acquires (s : State) : Bool :=
  s.get R.DEVICE_BOOT_STAGE = 5 || (!s.scan.started && (!s.pow.retain || s.link.reached.any fun p => decide (p ∈ s.lf.bare)))

/-- ROOT's map fails: every other position is lost, each with its DEV_LOST, and its lines are not counted (R359, R378; log 35). -/
def State.mapFails (s : State) (k : Nat) : State :=
  let m := s.mapRegs
  let n := m.length
  let own := m.getD 0 (0, 0)
  let s := (s.onset Kind.cascadeCfg 0 0 k).set R.LINK_STAT_STATE linkAlone
  let all := (List.range n).drop 1
  let s := { s with
    panel := ⟨own :: List.replicate (n - 1) (0, 0), 0, n, [], all, []⟩
    link := { s.link with lost := all } }
  let s := all.foldl (fun s p => s.onset Kind.devLost p 0 p) s
  (s.neighbours 0 n).cascadeStarts s.acquires

/-- Training starts for a panel. -/
def State.train (s : State) (map : List (Nat × Nat)) : State :=
  let s := ((s.set R.LINK_STAT_STATE linkTrain).set R.LINK_PORT_UPST 1).set R.LINK_PORT_DNST 1
  let s := (List.range 8).foldl (fun s p => s.ceases Kind.devLost p) (s.setRing false)
  { s with
    lf := { s.lf with bare := [] }
    panel := ⟨map, 0, map.length, [], [], []⟩
    link := { s.link with reached := [], confd := [], lost := [], shadow := [], discTb := s.pow.tb } }

/-- ROOT runs alone since its map failed, and so it does after a wake. -/
def State.staysAlone (s : State) : State :=
  let all := (List.range s.panel.map.length).drop 1
  let s := { s.set R.LINK_STAT_STATE linkAlone with
    panel := { s.panel with lost := all }, link := { s.link with lost := all } }
  (s.neighbours 0 s.panel.ndev).cascadeStarts s.acquires

/-- The map in force gives no other position a line. -/
def aloneMap (m : List (Nat × Nat)) : Bool := (m.drop 1).all fun q => q = (0, 0)

/-- Training starts. After a reset the map, NDEV and the discovery limit are read, and the map is checked; after a wake those that
the reset read stand (R358, 16 R414). -/
def State.discStart (s : State) : State :=
  if s.get R.DEVICE_BOOT_STAGE = 7 then (if aloneMap s.panel.map then s.staysAlone else s.train s.panel.map)
  else
    let s := { s with link := { s.link with discLimit := s.get R.LINK_TMO_DISC } }
    match mapFault s.mapRegs with
    | some k => s.mapFails k
    | none => s.train s.mapRegs

/-- ENUM goes out on both ports. -/
def State.sendEnum (s : State) : State := (s.set R.LINK_STAT_STATE linkDiscover).send (.enum none 0 s.panel.ndev)

/-- The position of a device so many hops from ROOT, over the port of ROOT's on which it lies: NDEV - j over UP (R357, R363). -/
def hopPosition (ndev : Nat) (viaUp : Bool) (hops : Nat) : Nat := if viaUp then ndev - hops else hops

/-- The drive lines whose TXEN bit is 0, by global index: ROOT's own and those that the members' answers named. -/
def State.offLines (s : State) : List Nat :=
  ((List.range s.ownTx).filter fun p => !s.txEn p).map (s.txBase s.panel.pos + ·) ++ s.panel.off

/-- What CONFIG carries to a position (R362). -/
def State.configFor (s : State) (p : Nat) : LinkConfig :=
  ⟨s.panel.map, p, s.offLines, (List.range 4).map s.tableWords, s.pow.tb, s.flag R.LINK_STAT_RING, s.acquires⟩

/-- A member has answered ENUM. In a running cascade it is a lost position that has come back, and is configured again
(R380). -/
def State.reach (s : State) (viaUp : Bool) (p : Nat) (off : List Nat) (retained : Bool) : State :=
  let base := s.txBase p
  let s := { s with
    lf := { s.lf with
      heard := aput p (if viaUp then 0 else 1) s.lf.heard
      bare := if retained then s.lf.bare.filter (· ≠ p) else addOnce p s.lf.bare }
    panel := { s.panel with
      off := (s.panel.off.filter fun d => !(base ≤ d && d < base + (s.panel.map.getD p (0, 0)).1)) ++ off.map (base + ·) }
    link := { s.link with reached := addOnce p s.link.reached } }
  if s.get R.LINK_STAT_STATE = linkRun || s.get R.LINK_STAT_STATE = linkAlone then s.send (.config (s.configFor p)) else s

/-- CONFIG goes to every member reached (R362). -/
def State.sendConfigs (s : State) : State :=
  s.link.reached.foldl (fun s p => s.send (.config (s.configFor p))) (s.set R.LINK_STAT_STATE linkConfig)

/-- The ring has closed: ENUM has returned on ROOT's UP port. -/
def State.ringClosed (s : State) : State :=
  if s.get R.LINK_STAT_STATE = linkDiscover then (s.setRing true).sendConfigs else s.setRing true

/-- Discovery ends: positions not reached or not configured are lost from the first frame (R363). -/
def State.discDone (s : State) : State :=
  let lost := s.others.filter fun p => p ∉ s.link.confd
  let s := { s with link := { s.link with lost := lost } }
  let s := lost.foldl (fun s p => s.onset Kind.devLost p 0 p) s
  let s := ((s.set R.LINK_STAT_STATE linkRun).setFlag R.LINK_STAT_SYNCOK true).ceases Kind.syncFault 0
  (s.neighbours 0 s.panel.ndev).cascadeStarts s.acquires

/-- Whether ROOT's discovery may begin: boot step 10, or a wake that has lost the configuration (16 R414). -/
def State.discMay (s : State) : Bool :=
  s.inRun && !s.flt.safe && !s.isMember && s.get R.LINK_STAT_STATE = 0 && !s.scan.started
    && (s.get R.DEVICE_BOOT_STAGE = 5 || (s.get R.DEVICE_BOOT_STAGE = 7 && s.inCascade))

/-- The discovery limit has passed: what has not been configured by then is lost (R363; log 115). -/
def State.discOver (s : State) : Bool := 10000 * s.link.discLimit ≤ tbDiff s.pow.tb s.link.discTb

/-- DISCOVERY (R362). -/
def execDiscovery (step : DiscStep) (s : State) : Host.Outcome State Fault Refusal :=
  let st := s.get R.LINK_STAT_STATE
  let root := s.inRun && !s.flt.safe && !s.isMember
  match step with
  | .start => onlyIf s.discMay s s.discStart
  | .enumerate =>
    onlyIf (root && st = linkTrain && (s.get R.LINK_PORT_UPST = 2 || s.get R.LINK_PORT_DNST = 2)) s s.sendEnum
  | .reach viaUp hops off retained =>
    let p := hopPosition s.panel.ndev viaUp hops.val
    onlyIf (root && (st = linkDiscover || st = linkRun || st = linkAlone) && 0 < hops.val && hops.val < s.panel.ndev) s
      (s.reach viaUp p (off.filter (· < (s.panel.map.getD p (0, 0)).1)) retained)
  | .done => onlyIf (root && st = linkConfig && (s.discOver || s.link.reached.all fun p => decide (p ∈ s.link.confd))) s s.discDone

/-- A member takes the position that ENUM gives it, and forwards ENUM by its other port (R362, R363). One whose configuration is
in force keeps working until CONFIG comes. -/
def State.takeEnum (s : State) (port hops ndev : Nat) : State :=
  let s := { s with lf := { s.lf with heard := aput 0 port s.lf.heard } }
  let s := if s.inCascade then s
    else (s.set R.LINK_STAT_POS (hopPosition ndev (port = 1) hops)).set R.LINK_STAT_STATE linkDiscover
  s.send (.enum (some (1 - port)) hops ndev)

/-- ENUM (R362), which brings the hops that it has made and the number of devices. `own`: ROOT's own ENUM has come round the ring; else a
member records its position, and a ROOT that receives another ROOT's ENUM, or has sent its own to one, stays in DISCOVER. -/
def execEnum (own : Bool) (x : Arrival (Fin 8 × Fin 9)) (s : State) : Host.Outcome State Fault Refusal :=
  let ok := s.inRun && !s.flt.safe
  if s.isMember then
    onlyIf (ok && !own && 0 < x.what.1.val && x.what.1.val < x.what.2.val) s (s.takeEnum x.port.val x.what.1.val x.what.2.val)
  else if own then onlyIf (ok && !s.isLive Kind.rootConflict) s s.ringClosed
  else
    let t := s.onset Kind.rootConflict 0 0 0
    let st := s.get R.LINK_STAT_STATE
    onlyIf ok s (if st = linkTrain || st = linkConfig then t.set R.LINK_STAT_STATE linkDiscover else t)

/-- CONFIG (R362): the member takes what it carries, switches its PLL reference and acknowledges. -/
def State.takeConfig (s : State) (c : LinkConfig) : State :=
  let n := c.map.length
  let s := (List.range n).foldl (fun s k =>
    (s.set (R.LINK_MAP_NTX k) (c.map.getD k (0, 0)).1).set (R.LINK_MAP_NRX k) (c.map.getD k (0, 0)).2) s
  let s := (((s.neighbours c.pos n).set R.LINK_STAT_STATE linkRun).setRing c.ring).set R.LINK_STAT_SYNCOK 1
  let s := s.ceases Kind.syncFault 0
  let up := s.get R.LINK_PORT_UPST = 2
  let s := (s.set R.LINK_STAT_LOCKED 1).ceases Kind.noRoot 0
  let s := if up then s.ceases Kind.clkRef 0 else s
  let s := { s with
    panel := ⟨c.map, c.pos, n, c.off, [], []⟩
    lf := { s.lf with mute := false, tables := c.tables, tbLoad := some c.tb } }
  (s.send .configAck).cascadeStarts c.acquire

/-- CONFIG. -/
def execConfig (c : LinkConfig) (s : State) : Host.Outcome State Fault Refusal :=
  onlyIf (s.inRun && !s.flt.safe && s.isMember && 5 ≤ s.get R.DEVICE_BOOT_STAGE && s.get R.DEVICE_BOOT_STAGE ≠ 8
    && 2 ≤ c.map.length && c.map.length ≤ 8 && c.pos ≠ 0 && c.pos < c.map.length) s (s.takeConfig c)

/-- Discovery seeks the ring: the ports train, or ENUM is out. -/
def State.seeking (s : State) : Bool := s.get R.LINK_STAT_STATE = linkTrain || s.get R.LINK_STAT_STATE = linkDiscover

/-- ENUM_REPEAT (R363): ROOT repeats ENUM 10 ms later while the ring has not closed. -/
def execEnumRepeat (s : State) : Host.Outcome State Fault Refusal :=
  onlyIf (s.inRun && !s.isMember && s.seeking && !s.flag R.LINK_STAT_RING && !s.isLive Kind.rootConflict) s
    ((s.addTb 10000).sendEnum)

/-- NO_RING (R363): the discovery limit of LINK.TMO.DISC has passed since step 1, whether a port has come up or not. -/
def execNoRing (s : State) : Host.Outcome State Fault Refusal :=
  let t := s.advanceTo (s.link.discTb + 10000 * s.link.discLimit)
  onlyIf (s.inRun && !s.isMember && s.seeking && !s.flag R.LINK_STAT_RING && !s.isLive Kind.rootConflict) s ((t.onset Kind.noRing 0 0 (posBits (0 :: t.link.reached))).sendConfigs)

/-- NO_ROOT (R363): a member without CONFIG 200 ms after its step 8. -/
def execNoRoot (s : State) : Host.Outcome State Fault Refusal :=
  onlyIf (s.inRun && !s.flt.safe && s.isMember && s.get R.LINK_STAT_STATE < linkRun && 5 ≤ s.get R.DEVICE_BOOT_STAGE
    && s.get R.DEVICE_BOOT_STAGE ≠ 8) s ((s.advanceTo (s.link.discTb + 200000)).onset Kind.noRoot 0 0 0)

/-! ### Losing and regaining devices (R369, R377 to R380) -/

/-- ROOT declares a position lost (R378). 03 R66 does not say what a loss does to a suspect collection that is open: it stays open, and
ROOT's own boundary regions are judged when another list comes (DESIGN CHOICE, log 118). -/
def State.devLost (s : State) (p : Nat) : State :=
  if s.panel.pos ≠ 0 || p = 0 || s.panel.ndev ≤ p || p ∈ s.link.lost then s
  else
    let s := s.onset Kind.devLost p 0 p
    let s := { s with
      lf := { s.lf with wishes := adel p s.lf.wishes }
      link := { s.link with
      lost := p :: s.link.lost, shadow := s.link.shadow.filter (·.1 ≠ p), confd := s.link.confd.filter (· ≠ p)
      reached := s.link.reached.filter (· ≠ p) } }
    if s.scan.phase = .idle || s.scan.phase = .ended || s.scan.abandoned then s else s.abandonAll

/-- A lost position is configured again: its shadow interval begins with the next frame (R380). -/
def State.rejoin (s : State) (p : Nat) : State :=
  { s with link := { s.link with
      lost := s.link.lost.filter (· ≠ p), shadow := s.link.shadow ++ [(p, s.inForce R.LINK_TMO_REJOIN + 1)] } }

/-- ROOT counts one more frame in which a position failed; after eight in a row it is lost (R369, R375). -/
def failCount (p : Nat) (l : List (Nat × Nat)) : List (Nat × Nat) := aput p (aget 0 p l + 1) l

/-- A member is cut off from ROOT: it stops its bursts and parks its outputs (R366, R378, R380; 15 R401; log 66). -/
def State.cutOff (s : State) : State := s.stopBursts.parkOutputs

/-- LEAVING (R377, R380): a member leaves; where ROOT leaves, every member stops its bursts. A member passes it on. -/
def execLeaving (x : Arrival (Fin 8)) (s : State) : Host.Outcome State Fault Refusal :=
  onlyIf (s.inRun && s.inCascade && x.what.val ≠ s.panel.pos) s
    (if s.panel.pos = 0 then s.devLost x.what.val
     else (if x.what.val = 0 then s.cutOff else s).passOn x.port.val)

/-- DEV_LOST (R377, R378): no path reaches the position any more. -/
def execDevLost (pos : Fin 8) (s : State) : Host.Outcome State Fault Refusal :=
  onlyIf (s.inRun && s.inCascade && s.panel.pos = 0) s (s.devLost pos.val)

/-- DEV_RETURN (R380): the shadow frames of a position are over. -/
def execDevReturn (pos : Fin 8) (s : State) : Host.Outcome State Fault Refusal :=
  onlyIf (s.inRun && s.inCascade && s.panel.pos = 0 && s.link.shadow.any fun q => q.1 = pos.val && q.2 = 0) s
    ((({ s with link := { s.link with shadow := s.link.shadow.filter (·.1 ≠ pos.val) } }).ceases Kind.devLost pos.val
      ).eventFault Kind.devReturn 0 pos.val)

/-! ### Ports (R361, R365) -/

/-- The reference of a member's PLL after a port has gone down (R365): the DN port's clock, or its own crystal, with which
it drives no burst. -/
def State.newReference (s : State) : State :=
  if !s.flag R.LINK_STAT_LOCKED then s
  else if s.get R.LINK_PORT_UPST = 2 then s
  else if s.get R.LINK_PORT_DNST = 2 then s.onset Kind.clkRef 0 0 1
  else
    let s := ((s.ceases Kind.clkRef 0).onset Kind.clkRef 0 0 2).set R.LINK_STAT_LOCKED 0
    ({ s with lf := { s.lf with mute := true } }).cutOff

/-- LINK_DOWN (R361). -/
def execLinkDown (port : Fin 2) (s : State) : Host.Outcome State Fault Refusal :=
  let t := (s.set (portState port.val) 0).sat (portDown port.val)
  onlyIf (s.inRun && s.get (portState port.val) ≠ 0) s
    (((t.onset Kind.linkDown port.val 0 port.val).setRing false).newReference)

/-- LINK_UP (R361); LINK_UP is raised for a port that had gone down. -/
def execLinkUp (port : Fin 2) (s : State) : Host.Outcome State Fault Refusal :=
  let t := s.set (portState port.val) 2
  let t := if (Kind.linkDown, port.val) ∈ s.flt.live then (t.ceases Kind.linkDown port.val).eventFault Kind.linkUp 0 port.val
    else t
  onlyIf (s.inRun && s.get (portState port.val) ≠ 2 && s.cascadeWired) s t

/-! ### SYNC (R366, R367) -/

/-- When the SYNC edge falls: TB, and AFECLK cycles beyond it. ROOT pulls SYNC low 400 ns before its own FRAME_START: of the first
frame at the time that FPARAM has announced, of the others one period after the last. At a member the edge comes from outside,
`dt` µs from now (R366). -/
def State.syncEdge (s : State) (dt : Nat) : Nat × Nat :=
  let c := s.scan.startFrac + s.scan.period
  if s.panel.pos ≠ 0 then (s.pow.tb + dt, 0)
  else if !s.scan.fresh then
    (if syncDelay ≤ c then (s.scan.startTb + (c - syncDelay) / 96, (c - syncDelay) % 96) else (s.scan.startTb, 0))
  else
    match s.lf.fp with
    | some f => (f.tb, 0)
    | none => (s.pow.tb + dt, 0)

/-- The edge is time-stamped, and the frame starts after it. TB that CONFIG brought is loaded (R362). -/
def State.takeSync (s : State) (dt : Nat) : State :=
  let e := s.syncEdge dt
  let t := s.advanceTo e.1
  let frac := if t.pow.tb = e.1 % tbMod then e.2 else 0
  let t := match s.lf.tbLoad with
    | some tb => { t with pow := { t.pow with tb := tb % tbMod, frac := 0 } }
    | none => t
  { t with lf := { t.lf with sync := some (t.pow.tb, frac), tbLoad := none } }

/-- SYNC_PULSE (R366): ROOT pulls SYNC low once for each of its FRAME_STARTs. -/
def execSyncPulse (dt : Nat) (s : State) : Host.Outcome State Fault Refusal :=
  onlyIf (s.inRun && !s.flt.safe && s.inCascade
    && (s.panel.pos ≠ 0 || (s.scan.started && !s.scan.stopping && s.lf.sync.isNone))) s (s.takeSync dt)

/-- SYNC_FAULT (R366, R377): every member is lost. -/
def execSyncFault (s : State) : Host.Outcome State Fault Refusal :=
  let t := ((s.set R.LINK_STAT_SYNCOK 0).sat R.LINK_ERRC_SYNCERR).onset Kind.syncFault 0 0 0
  onlyIf (s.inRun && !s.flt.safe && s.inCascade && s.panel.pos = 0) s (s.others.foldl State.devLost t)

/-- FRAME_START_MISSING (R366, R378): 2T after the FRAME_START that came last, a member stops its bursts; cut off from ROOT's
frames, it parks its outputs (15 R401; log 66). -/
def execFrameStartMissing (s : State) : Host.Outcome State Fault Refusal :=
  let t := s.advanceTo (s.scan.startTb + (s.scan.startFrac + 2 * s.scan.period) / 96)
  onlyIf (s.inRun && !s.flt.safe && s.inCascade && s.panel.pos ≠ 0 && s.scan.started) s
    (t.sat R.LINK_ERRC_SYNCERR).cutOff

/-! ### Frame parameters (R368, R369) -/

/-- The masked drive lines of this device, by global index. -/
def State.ownMasked (s : State) : List Nat :=
  ((List.range s.ownTx).filter s.masked).map (s.txBase s.panel.pos + ·)

/-- What ROOT sends for the next frame: the test and the point that its FRAME_START will take. -/
def State.buildFparam (s : State) : Fparam :=
  let t := (({ s with force := s.regs }).selectTest (s.get R.SCAN_CTL_MODE)).govFrame
  let p := t.ownPlan
  { frame := BitVec.ofNat 16 (s.scan.frame + 1)
    point := t.point
    tb := if s.scan.fresh then (s.pow.tb + 100) % tbMod
      else (s.scan.startTb + (s.scan.startFrac + s.scan.period) / 96) % tbMod
    table := p.table
    fidx := p.fidx
    vtx := p.vtx
    k := p.k
    reps := p.reps
    fdiv := p.fdiv
    settle := t.inForce R.DRIVE_EXC_SETTLE
    test := p.test
    fields := s.regs.filter fun q => sharedKey q.1
    lost := s.link.lost
    shadow := (s.link.shadow.filter fun q => 1 < q.2).map (·.1)
    flt := s.lf.flts.flatMap (·.2) ++ s.ownMasked }

/-- FPARAM (R368): ROOT samples the shared fields and sends them. -/
def State.sendFparam (s : State) : State :=
  let f := s.buildFparam
  { s with lf := { s.lf with fp := some f, acks := [] } }.send (.fparam f)

/-- FPARAM: for each frame; and while ROOT's HOLD holds scanning, which it tells every device (06 R149). -/
def execFparam (s : State) : Host.Outcome State Fault Refusal :=
  onlyIf (s.inRun && !s.flt.safe && s.inCascade && s.panel.pos = 0
    && (if s.scan.started then s.lf.fp.isNone || s.scan.stopping || s.scan.fresh
        else s.flag R.SCAN_CTL_HOLD && s.get R.LINK_STAT_STATE = linkRun)) s s.sendFparam

/-- A member follows ROOT's HOLD (06 R149). -/
def State.followHold (s : State) (f : Fparam) : State :=
  let on := decide (aget 0 R.SCAN_CTL_HOLD.key f.fields ≠ 0)
  let s := { s with lf := { s.lf with held := on } }
  if on then
    (if s.scan.started then ({ s with scan := { s.scan with stopping := true } }).tryStop else s)
  else if s.scan.started then s
  else s.startScan

/-- A member takes FPARAM and acknowledges it (R369). -/
def State.takeFparam (s : State) (f : Fparam) : State :=
  let s := s.followHold f
  { s with lf := { s.lf with fp := some f, miss := [] } }.send (.fparamAck s.ownMasked s.govWish.1 s.govWish.2)

/-- FPARAM_RECEIVE: the packet is taken, passed on and acknowledged. TB is reloaded at the FRAME_START (R367). -/
def execFparamReceive (x : Arrival Fparam) (s : State) : Host.Outcome State Fault Refusal :=
  onlyIf (s.inRun && !s.flt.safe && s.inCascade && s.panel.pos ≠ 0) s
    ((({ s with lf := { s.lf with heard := aput 0 x.port.val s.lf.heard } }).passOn x.port.val).takeFparam x.what)

/-- The reachable members that have not acknowledged FPARAM. -/
def State.missingAcks (s : State) : List Nat :=
  s.others.filter fun p => decide (p ∉ s.link.lost) && decide (p ∉ s.lf.acks)

/-- One member's acknowledgement is missing: LINK_LATE, and after eight frames in a row it is lost. -/
def State.ackMissing (s : State) (p : Nat) : State :=
  let s := (s.eventFault Kind.linkLate 0 p)
  let s := { s with lf := { s.lf with miss := failCount p s.lf.miss } }
  if 8 ≤ aget 0 p s.lf.miss then s.devLost p else s

/-- LINK_LATE (R369), in the frame whose FPARAM a member has not acknowledged. -/
def execLinkLate (s : State) : Host.Outcome State Fault Refusal :=
  onlyIf (s.inRun && !s.flt.safe && s.inCascade && s.panel.pos = 0 && s.scan.phase ≠ .idle && s.scan.phase ≠ .ended
    && !s.scan.abandoned && s.lf.fp.isNone && !s.missingAcks.isEmpty) s
    (s.missingAcks.foldl State.ackMissing s.abandonAll)

/-! ### Emergency hops (R376) -/

/-- E_ORDERED_SET: ROOT keeps the largest e of the chip that ended last; a member passes the larger value on. -/
def execEOrderedSet (chip : Nat) (e : Byte) (s : State) : Host.Outcome State Fault Refusal :=
  let now := s.flag R.DRIVE_STAT_BURST && s.scan.settle = 0 && s.scan.sub = chip + 1
  let t := if s.panel.pos = 0 then (if now then { s with link := { s.link with e := max s.link.e e.toNat } } else s)
    else s.send (.noise chip (if now then max e.toNat (s.get R.NOISE_EMEAS_E) else e.toNat))
  onlyIf (s.inRun && !s.flt.safe && s.inCascade) s t

/-- HOP_ORDERED_SET: it is passed on, and the switch to its index comes at the end of chip `chip` of the burst that runs. -/
def execHopOrderedSet (x : Arrival (Fin 32)) (chip : Nat) (s : State) : Host.Outcome State Fault Refusal :=
  let t := s.passOn x.port.val
  onlyIf (s.inRun && !s.flt.safe && s.inCascade && s.panel.pos ≠ 0) s
    (if s.flag R.DRIVE_STAT_BURST && s.scan.sub ≤ chip then
      { t with lf := { t.lf with hop := some (x.what.val, chip + 1 - s.scan.sub) } }
     else t)

/-! ### What arrives for a frame (R372 to R375) -/

/-- Stores a cuff part: side 0 in bank 0, side 1 in bank 3 (R373). -/
def State.storeCuff (s : State) (side part : Nat) (values : List Int) (words : List Nat) : State :=
  let bank := if side = 0 then 0 else 0xC0000
  let s := s.frameWrite byDevice (bank + 0x2B000 + 0x800 * part) (values.flatMap fun v => toBytes 2 (unsigned16 v))
  if part = 0 then s.frameWrite byDevice (bank + 0x2A0C0) (words.flatMap (toBytes 4)) else s

/-- A part is there. -/
def State.cuffThere (s : State) (side part : Nat) : State :=
  match side, part with
  | 0, 0 => { s with link := { s.link with sigLo := true } }
  | 0, _ => { s with link := { s.link with filtLo := true } }
  | _, 0 => { s with link := { s.link with sigHi := true } }
  | _, _ => { s with link := { s.link with filtHi := true } }

/-- The wait for a side's signal part is over. -/
def State.cuffWaited (s : State) (side : Nat) : Bool := if side = 0 then s.link.lateLo else s.link.lateHi

/-- CUFF_ARRIVAL (R373) of the signal or the filter part of frame `frame`. A signal part counts until the wait is over, a
filter part until the FRAME_START of the frame that follows its own. -/
def execCuffArrival (side : Fin 2) (signal : Bool) (frame : BitVec 16) (values : List Int) (words : List Word) (s : State) :
    Host.Outcome State Fault Refusal :=
  let part := if signal then 0 else 1
  onlyIf (s.inRun && !s.flt.safe && s.cuffLink side.val && frame.toNat = s.scan.frame % 65536
      && !(signal && s.cuffWaited side.val)) s
    ((s.storeCuff side.val part (values.take (2 * s.ntx)) ((words.take 2).map BitVec.toNat)).cuffThere side.val part)

/-- CUFF_LATE (R373): the signal part of a side has not come by LINK.TMO.CUFF after SCAN_END. -/
def execCuffLate (side : Fin 2) (s : State) : Host.Outcome State Fault Refusal :=
  let there := if side.val = 0 then s.link.sigLo else s.link.sigHi
  let t := s.advanceTo (s.scan.startTb + (s.scan.startFrac + s.scan.clk) / 96 + s.inForce R.LINK_TMO_CUFF)
  let t := if side.val = 0 then { t with link := { t.link with lateLo := true } }
    else { t with link := { t.link with lateHi := true } }
  onlyIf (s.inRun && !s.flt.safe && s.cuffLink side.val && s.scan.phase = .ended && !s.disp.ready.isEmpty && !there
    && !s.cuffWaited side.val) s (t.cuffAbsent side.val)

/-- SUBBLOB_LIST_ARRIVAL (R374) for the frame being processed. -/
def execSubblobListArrival (pos : Fin 8) (frame : BitVec 16) (recs : List SubRec) (rest : ListRest) (s : State) :
    Host.Outcome State Fault Refusal :=
  match s.disp.cur with
  | some fi =>
    let t := (List.range (min rest.dropped 65536)).foldl (fun s _ => s.sat R.PIPE_CNT_DROPPED) s
    onlyIf (s.inRun && !s.flt.safe && s.inCascade && s.panel.pos = 0 && fi.frame % 65536 = frame.toNat
        && !s.link.listsDone && s.disp.wave < 7 && !(s.pipe.lists.any fun q => q.1 = pos.val)) s
      { t with
        pipe := { t.pipe with
          lists := t.pipe.lists ++ [(pos.val, (recs.take 64).map (SubRec.toSub pos.val))]
          listFlags := t.pipe.listFlags ||| (b2n rest.suspect <<< 6) ||| (b2n rest.ovl <<< 7) }
        lf := { t.lf with late := adel pos.val t.lf.late } }
  | none => .next s

/-- A member's list is late: its DEVS bit goes, and after eight frames in a row it is lost (R375). -/
def State.listLate (s : State) (p : Nat) : State :=
  let s := (s.sat R.LINK_ERRC_LLATE)
  let s := { s with
    lf := { s.lf with late := failCount p s.lf.late }
    disp := { s.disp with cur := s.disp.cur.map fun fi => { fi with devs := if bit fi.devs p then fi.devs - 2 ^ p else fi.devs } } }
  if 8 ≤ aget 0 p s.lf.late then s.devLost p else s

/-- LIST_TIMEOUT (R375): LINK.TMO.LIST after its wave 6 is complete, TRACK goes on without the late lists. -/
def execListTimeout (s : State) : Host.Outcome State Fault Refusal :=
  match s.disp.cur with
  | some fi =>
    let late := s.others.filter fun p => s.reaches p && !(s.pipe.lists.any fun q => q.1 = p)
    let wait := 10 * ({ s with force := fi.force }).inForce R.LINK_TMO_LIST
    let t := s.advanceTo (s.disp.endTb + wait)
    let t := { t with link := { t.link with listsDone := true } }
    onlyIf (s.inRun && !s.flt.safe && s.inCascade && s.panel.pos = 0 && s.disp.ended
      && s.nextWave fi s.disp.wave = some 7 && !s.link.listsDone && !late.isEmpty) s (late.foldl State.listLate t)
  | none => .next s

/-! ### Packets (R360, R361) -/

/-- A CONFIG acknowledgement: of discovery, or of a lost position that returns (R362, R380). -/
def State.configAcked (s : State) (p : Nat) : State :=
  if p ∉ s.link.reached then s
  else
    let back := s.get R.LINK_STAT_STATE ≠ linkConfig && decide (p ∈ s.link.lost)
    let s := { s with link := { s.link with confd := addOnce p s.link.confd } }
    if back then s.rejoin p else s

/-- ABANDON of a frame that has not reached its SCAN_END (R369). -/
def State.abandonTold (s : State) (frame : Nat) : State :=
  if frame % 65536 = s.scan.frame % 65536 && s.scan.phase ≠ .idle && s.scan.phase ≠ .ended then
    { s with scan := { s.scan with abandoned := true } }
  else s

/-- A remote access ends (R381): 0 OK, 1 NOREACH, 2 TIMEOUT, 3 ALIGN, 4 STATE. -/
def State.remoteEnds (s : State) (result : Nat) : State :=
  let s := (s.set R.LINK_RSTAT_BUSY 0).set R.LINK_RSTAT_RESULT result
  { s with lf := { s.lf with remote := none } }

/-- The answer to the remote access that runs. -/
def State.remoteAnswer (s : State) (p : Nat) (data : Word) : State :=
  match s.lf.remote with
  | some (op, q, _, all) =>
    if p = q || all then (if op = 1 then s.set R.LINK_RRDATA data.toNat else s).remoteEnds 0 else s
  | none => s

/-- The answers of a member's vote at ROOT: its domains have stopped, or it has aborted the entry, which then ends on every
device (16 R414). -/
def State.memberStopped (s : State) (p : Nat) : State := { s with pow := { s.pow with members := addOnce p s.pow.members } }
def State.memberRefuses (s : State) (p : Nat) : State := s.abortVote 8 p

/-- A packet that ROOT sends to every device (R360, R372). -/
def isBroadcast : Packet → Bool
  | .abandon _ => true
  | .verdict _ => true
  | .lift _ => true
  | .stale _ => true
  | .captureCheck => true
  | .captureVerdict _ => true
  | .power _ => true
  | .powerAbort _ => true
  | .ring _ => true
  | .access _ _ _ all => all
  | _ => false

/-- The member that a packet comes from, at ROOT. -/
def senderOf : Packet → Nat
  | .configAck p => p.val
  | .fparamAck p _ _ _ => p.val
  | .listen p _ _ => p.val
  | .q2 p _ _ => p.val
  | .remoteDone p _ => p.val
  | .suspects p _ => p.val
  | .captureResult p _ => p.val
  | .captureDone p _ => p.val
  | .powerStopped p => p.val
  | .powerAbort p => p.val
  | _ => 0

/-- A packet has come over a port: the way to its sender is known to work; a member passes a broadcast on (R360). -/
def State.heardOn (s : State) (port : Nat) (p : Packet) : State :=
  let sender := if s.panel.pos = 0 then senderOf p else 0
  let s := if s.panel.pos = 0 && sender = 0 then s else { s with lf := { s.lf with heard := aput sender port s.lf.heard } }
  if s.follows && isBroadcast p then s.passOn port else s

/-- The effect of an intact packet on this device, but for a remote access, which goes through the fabric. -/
def State.packet (s : State) (port : Nat) : Packet → State
  | .configAck p => if s.isMember then s else s.configAcked p.val
  | .fparamAck p flt down upOk =>
    if s.panel.pos ≠ 0 then s
    else { s with lf := { s.lf with
      acks := addOnce p.val s.lf.acks, flts := aput p.val flt s.lf.flts, miss := adel p.val s.lf.miss
      wishes := aput p.val (b2n down + 2 * b2n upOk) s.lf.wishes } }
  | .abandon f => if s.panel.pos = 0 then s else s.abandonTold f
  | .listen _ frame m =>
    if s.panel.pos = 0 && frame.toNat = s.scan.frame % 65536 && s.scan.phase ≠ .ended && s.scan.phase ≠ .idle then
      { s with link := { s.link with windows := s.link.windows ++ m } }
    else s
  | .q2 p frame vals =>
    match s.disp.cur with
    | some fi =>
      let t := { s with link := { s.link with
        q2from := addOnce p.val s.link.q2from, q2vals := vals.foldl (fun (m : List (Nat × Nat)) (q : Nat × Nat) => aput q.1 q.2 m) s.link.q2vals } }
      if s.panel.pos = 0 && fi.frame % 65536 = frame.toNat then t.within fi fun t => t.tryQ2 else s
    | none => s
  | .event type src p0 p1 p2 flags => if s.panel.pos = 0 then s.event type src p0 p1 p2 flags else s
  | .remoteDone p data => if s.panel.pos = 0 then s.remoteAnswer p.val data else s
  | .suspects p nodes => if s.leads then s.addSuspects p.val nodes else s
  | .verdict unions => if s.follows then s.takeVerdict unions else s
  | .lift nodes => if s.inCascade then s.takeLift nodes else s
  | .stale parts => if s.follows then s.takeStale parts else s
  | .captureCheck => if s.follows then s.captureOrdered else s
  | .captureResult p order => if s.leads then s.captureAnswer p.val order else s
  | .captureVerdict order => if s.follows then s.captureVerdict order else s
  | .captureDone p result => if s.leads then s.captureTold p.val result else s
  | .blanking => if s.panel.pos = 0 && s.scan.phase ≠ .idle && s.scan.phase ≠ .ended && !s.scan.abandoned then s.abandonAll else s
  | .power retain => if s.panel.pos = 0 || s.pow.voting.isSome then s else s.startVote .halt retain false
  | .powerStopped p => if s.panel.pos = 0 then s.memberStopped p.val else s
  | .powerAbort p => if s.panel.pos = 0 then s.memberRefuses p.val else s.abortVote 8 0
  | .ring closed => s.setRing closed
  | .other dest => if dest.val = s.panel.pos then s else s.send (.packet (1 - port))
  | .access _ _ _ _ => s

/-- What a port receives: a packet that is accepted, or one that is discarded with a NAK (R361). -/
def State.receive (s : State) (port : Nat) : Rx → State
  | .good p => (s.heardOn port p).packet port p
  | .code => ((s.sat (portCode port)).sat (portCrc port)).send (.nak port)
  | .crc => (s.sat (portCrc port)).send (.nak port)

/-- A NAK of a packet that has been sent `sends` times: it is sent again until it has been sent three times (R361). -/
def State.resend (s : State) (port sends : Nat) : State :=
  if sends < 3 then s.send (.packet port) else s.sat (portLost port)

/-- REMOTE_TIMEOUT (R381): the access has not completed 1 ms after its start. -/
def execRemoteTimeout (s : State) : Host.Outcome State Fault Refusal :=
  onlyIf (s.inRun && s.flag R.LINK_RSTAT_BUSY) s ((s.advanceTo (s.lf.remoteTb + 1000)).remoteEnds 2)

/-- A write of LINK.RCMD (R381): 0 NOP, 1 READ, 2 WRITE, 3 RESET. -/
def State.remoteCommand (s : State) (op pos addr : Nat) (all : Bool) : State :=
  if s.panel.pos ≠ 0 || s.isMember then s.set R.LINK_RSTAT_RESULT 4
  else if s.flag R.LINK_RSTAT_BUSY then s.set R.LINK_RSTAT_REFUSED 1
  else if op = 0 then s
  else if op ≠ 3 && addr % 4 ≠ 0 then s.remoteEnds 3
  else if !(op = 3 && all) && (s.panel.ndev ≤ pos || pos ∈ s.link.lost) then s.remoteEnds 1
  else
    let s := s.set R.LINK_RSTAT_BUSY 1
    { s with lf := { s.lf with remote := some (op, pos, addr, op = 3 && all), remoteTb := s.pow.tb } }.send
      (.access op (if op = 3 && all then 0xF else pos) addr (if op = 2 then s.get R.LINK_RWDATA else 0))

end Sys2Proof.Machine
end

