-- ==== Sys2Proof/Machine/Nightcap.lean ====
section
/-!
DEFINITION. Nightcap: zone scans in WATCH, zone baselines, gestures (spec/16_power_states_and_governor.md R415 to R419).
-/

namespace Sys2Proof.Machine

/-- Zone `z` of a scan: the baseline is the mean of the first 4 scans; then touch, release, and a released zone's step
toward its count every 8 scans (R416). `n`: scans since commit, this one included. -/
def NZone.next (zth zhyst n count : Nat) (z : NZone) : NZone :=
  if count = 0xFFFF then { z with faulty := true, touched := false }
  else if z.faulty then z
  else if n < 4 then { z with sum := z.sum + count }
  else if n = 4 then { z with sum := z.sum + count, base := (roundDiv (z.sum + count : Nat) 4).toNat }
  else
    let d := (z.base : Int) - count
    let touched := if (zth : Int) ≤ d then true else if d < (zth : Int) - zhyst then false else z.touched
    let base := if touched || n % 8 ≠ 0 || z.base = count then z.base else if z.base < count then z.base + 1 else z.base - 1
    { z with touched := touched, base := base }

/-- What a gesture's step does in a scan: nothing, a match, or a return of the pointer to 0. -/
inductive NStep where
  | stay | matched | restart
  deriving DecidableEq, Repr

/-- A step that must match between TMIN and TMAX (R418). `t`: µs since the step before matched. -/
def timedStep (first : Bool) (tmin tmax t : Nat) (m : Bool) : NStep :=
  if first then (if m then .matched else .stay)
  else if m then
    (if t < 25000 * tmin || (tmax ≠ 0 && 25000 * tmax < t) then .restart else .matched)
  else if tmax ≠ 0 && 25000 * tmax ≤ t then .restart
  else .stay

/-- One step word against the zones that are touched now and those that became touched in this scan (R417, R418). -/
def gestureStep (word : Nat) (first : Bool) (t touched new : Nat) : NStep :=
  let mask := bits word 18 3
  let tmin := bits word 31 26
  let tmax := bits word 25 19
  match bits word 2 0 with
  | 0 => timedStep first tmin tmax t (new &&& mask != 0)
  | 1 => timedStep first tmin tmax t (touched &&& mask == 0)
  | 2 => if touched &&& mask ≠ mask then .restart else if first || 25000 * tmin ≤ t then .matched else .stay
  | 3 => .matched
  | _ => .stay

/-- One gesture in a scan: its pointer, and whether it is detected. An ACCEPT that is reached is a detection. -/
def State.gestureScan (s : State) (g touched new : Nat) (n : NGest) : NGest × Bool :=
  let w := s.get (R.NIGHTCAP_STEP g n.ptr)
  match gestureStep w (n.ptr = 0) (tbDiff s.pow.tb n.matchTb) touched new with
  | .stay => (n, false)
  | .restart => ({ n with ptr := 0 }, false)
  | .matched =>
    let p := n.ptr + 1
    let hit := bits w 2 0 = 3 || (p < 16 && bits (s.get (R.NIGHTCAP_STEP g p)) 2 0 = 3)
    ({ n with ptr := if p < 16 then p else 0, matchTb := s.pow.tb }, hit)

/-- The gestures after a detection of gesture g: its zones and TB are kept, and every pointer is 0 (R418, R419). -/
def detected (l : List NGest) (g touched tb : Nat) : List NGest :=
  (upd l g fun n => { n with detZones := touched, detTb := tb }).map fun (n : NGest) => { n with ptr := 0 }

/-- A detection (R419, 13 R354). -/
def State.detect (s : State) (g touched : Nat) : State :=
  let s := (s.set R.NIGHTCAP_DET (s.get R.NIGHTCAP_DET ||| (1 <<< g))).set R.NIGHTCAP_LASTG g
  let s := s.eventFault Kind.ncapGesture 0 g
  let s := { s with night := { s.night with gests := detected s.night.gests g touched s.pow.tb } }
  let s := if s.flag R.TWOWIRE_WMSG_EN then { s with twi := { s.twi with wmsg := s.twi.wmsg ++ [g] } } else s
  if bit (s.get R.PWR_WAKEEN) 2 then s.wake 2 else s

/-- A mask of the zones for which a condition holds. -/
def zoneMask (l : List NZone) (p : NZone → Bool) : Nat :=
  (List.range 16).foldl (fun a z => if p (l.getD z ⟨0, 0, false, false⟩) then a ||| (1 <<< z) else a) 0

/-- One Nightcap scan of the enabled zones. -/
def State.zoneScan (s : State) (counts : List Nat) : State :=
  let n := s.night.scans + 1
  let before := zoneMask s.night.zones NZone.touched
  let zones := (List.range 16).map fun z =>
    let old := s.night.zones.getD z ⟨0, 0, false, false⟩
    if bit (s.get R.NIGHTCAP_ZEN) z then
      old.next (s.get R.NIGHTCAP_CTL_ZTH) (s.get R.NIGHTCAP_CTL_ZHYST) n (counts.getD z 0xFFFF) else old
  let s := { s with night := { s.night with scans := n, zones := zones } }
  if n ≤ 4 then s
  else
    let touched := zoneMask zones NZone.touched
    let new := touched &&& (0xFFFF ^^^ before)
    let res := (List.range 8).map fun g =>
      let old := s.night.gests.getD g ⟨0, 0, 0, 0⟩
      if bit (s.get R.NIGHTCAP_GEN) g then s.gestureScan g touched new old else (old, false)
    let s := { s with night := { s.night with gests := res.map Prod.fst } }
    match res.findIdx? Prod.snd with
    | some g => s.detect g touched
    | none => s

/-! ### Commands -/

/-- TB of the next scan: RATE scans a second, counted from the commit in whole microseconds (log 112). -/
def State.nextScanTb (s : State) : Nat := (s.night.scanTb + 1000000 / max 1 (s.get R.NIGHTCAP_CTL_RATE)) % tbMod

/-- The slice of a zone: its lines lie within one (R415). -/
def State.zoneSlice (s : State) (z : Nat) : Nat := s.get (R.NIGHTCAP_ZONE_FIRST z) / 40

/-- The enabled zones. -/
def State.zonesOn (s : State) : List Nat := (List.range 16).filter (bit (s.get R.NIGHTCAP_ZEN))

/-- The count of zone z: one counting conversion of TIME × 8 µs on channel 0 of its slice, of the lines of the zone joined, with
SLICE.CTL and BULKS as they stand (R415; 05 R134, R135). -/
def State.zoneCount (s : State) (caps : List Nat) (z : Nat) : Nat :=
  let k := s.zoneSlice z
  countOf (caps.getD z 0) (s.get (R.SLICE_CH_BULKS k 0)) (s.get (R.SLICE_CTL_VS k)) (s.get (R.SLICE_CTL_CTH k))
    (s.get (R.SLICE_CTL_CMAX k)) (passRoom (s.get R.NIGHTCAP_CTL_TIME) (s.get (R.SLICE_CTL_SDIV k)))

/-- How long a scan lasts, in µs: zones of different slices convert in parallel, those of one slice one after the other (R415). -/
def State.nightcapUs (s : State) : Nat :=
  8 * s.get R.NIGHTCAP_CTL_TIME
    * ((List.range 4).map fun k => (s.zonesOn.filter fun z => s.zoneSlice z = k).length).foldl max 0

/-- NIGHTCAP_SCAN (R415): the next scan in WATCH, with the self-capacitance, in fF, of the joined lines of every zone;
its first conversion starts `us` after its time, when PD3 and PD4 have come up, which the spec does not time (log 112). -/
def execNightcapScan (us : Nat) (caps : List Nat) (s : State) : Host.Outcome State Fault Refusal :=
  let t := s.advanceTo (s.nextScanTb + us + s.nightcapUs)
  onlyIf (s.asleep && s.pow.state = .watch && !s.pow.waking) s
    (({ t with night := { t.night with scanTb := s.nextScanTb } }).zoneScan ((List.range 16).map (s.zoneCount caps)))

end Sys2Proof.Machine
end

