-- ==== Sys2Proof/Machine/Tasks.lean ====
section
/-!
DEFINITION. The vendor program's tasks and the extension tasks, each run whole by an engine that takes it from the work
ring (spec/09 R235, R241 to R243, R251; spec/07 R169; spec/08 R197 to R226).
-/

namespace Sys2Proof.Machine

/-- The index of the slot that engine e takes from queue q: the tail of its own queue, or the head of another one while
its own is empty (09 R241, R242). -/
def State.takeIndex (s : State) (e q : Nat) : Option Nat :=
  if q = e then (s.live q).getLast?
  else if (s.live e).isEmpty then (s.live q).head? else none

/-- Engine e may take a task: it runs, holds none, and is not asked to park (09 R246). -/
def State.mayTake (s : State) (e : Nat) : Bool :=
  let g := s.eng e
  s.inRun && !s.flt.safe && g.state = .run && g.xmode.isNone && !g.task && (s.heldTask e).isNone
    && g.fevt &&& fevtPark = 0

/-- Engine e takes the task in slot i of queue q and starts it: pop or steal, release of the slot, TID staging and
TSTART (09 R241, R242). -/
def State.takeTask (s : State) (e q i : Nat) : State :=
  let tid := s.slotTid q i
  let before := s.live q
  let s := if q = e then s.frameWrite e (ctlLine q + 1) [byteOf i] else s.frameWrite e (ctlLine q) [byteOf (i + 1)]
  let s := (s.takeGone e q before).frameWrite e (slotAddr q i) [0]
  (s.setEng e fun g => { g with tidStage := tid }).tstart e

/-- The task that engine e would take from queue q, where it is of a kind. -/
def State.nextTask (s : State) (e q : Nat) (kind : Nat → Bool) : Option (Nat × Task × FrameInfo) :=
  match s.takeIndex e q, s.disp.cur with
  | some i, some fi =>
    match s.taskOf (s.slotTid q i) with
    | some t => if s.mayTake e && kind t.kind && t.frame = fi.frame % 65536 then some (i, t, fi) else none
    | none => none
  | _, _ => none

/-- Engine e takes a vendor task of a kind from queue q, does its work, and ends it DONE. -/
def State.vendorTask (s : State) (e q kind : Nat) (work : Task → FrameInfo → State → State) : State :=
  match s.nextTask e q (· = kind) with
  | some (i, t, fi) =>
    let s := s.takeTask e q i
    ((s.within fi (work t fi)).breakChanged s e).tdone e 0
  | none => s

/-- TILE_A: stages 1 and 2 of a tile. -/
def execTileA (e q : Fin 32) (s : State) : Host.Outcome State Fault Refusal :=
  done s (s.vendorTask e q 1 fun t fi s => s.tileA fi t)

/-- TILE_B: stages 3 and 4 of a tile. -/
def execTileB (e q : Fin 32) (s : State) : Host.Outcome State Fault Refusal :=
  done s (s.vendorTask e q 2 fun t fi s => s.tileB fi t)

/-- EXTRACT: stage 5 of a slice. -/
def execExtract (e q : Fin 32) (s : State) : Host.Outcome State Fault Refusal :=
  done s (s.vendorTask e q 3 fun t fi s => s.extract fi t.slice)

/-- TRACK: stages 6 to 8. -/
def execTrack (e q : Fin 32) (s : State) : Host.Outcome State Fault Refusal :=
  done s (s.vendorTask e q 4 fun _ fi s => s.track fi)

/-- REPORT_COMMIT, `us` µs after the frame's FRAME_START: the report, and the critical-path times (08 R221, 09 R254). -/
def State.reportCommit (s : State) (fi : FrameInfo) (us : Nat) : State :=
  let s := s.advanceTo ((fi.tb + us) % tbMod)
  let s := s.report fi us
  let last := min 0xFFFF (tbDiff s.pow.tb s.disp.dispTb)
  (s.set R.WORKRING_CRIT_LASTUS last).set R.WORKRING_CRIT_PEAKUS (max last (s.get R.WORKRING_CRIT_PEAKUS))

/-- REPORT: stages 9 to 11. -/
def execReport (e q : Fin 32) (us : BitVec 16) (s : State) : Host.Outcome State Fault Refusal :=
  done s (s.vendorTask e q 5 fun _ fi s => s.reportCommit fi us.toNat)

/-- HOUSE: self-count baselines of the slice, kept with its first strip; the Q2 planes are committed when wave 10 ends. -/
def execHouse (e q : Fin 32) (s : State) : Host.Outcome State Fault Refusal :=
  done s (s.vendorTask e q 6 fun t fi s => if t.row0 = 0 then s.selfHouse fi.frame t.slice else s)

/-- The call of an extension entry (09 R251): descriptor at 0x0100, granules in WIN4 to WIN7, IE = 1, XMODE = 1, and the
address to return to on the stack. -/
def State.callExtension (s : State) (e : Nat) (t : Task) (x : ExtEntry) : State :=
  s.setEng e fun g =>
    let c := g.core
    let hi := (c.sp.toNat + 255) % 256
    let lo := (c.sp.toNat + 254) % 256
    let ram := Memory.writeList g.ram 0x100 { t with tid := g.tid }.bytes
    let ram := Memory.write (Memory.write ram hi (byteOf (c.pc.toNat / 256))) lo (byteOf c.pc.toNat)
    { g with
      ram := ram, win := g.win.take 3 ++ x.win
      xmode := some (c.sp - 2, c.depth)
      core := { c with pc := BitVec.ofNat 16 x.entry, sp := c.sp - 2, fl := c.fl ||| 0x20 } }

/-- EXTENSION_TASK: engine e takes the task and calls its entry; the task's own instructions and its TDONE follow. -/
def execExtensionTask (e q : Fin 32) (s : State) : Host.Outcome State Fault Refusal :=
  match s.nextTask e q (0x10 ≤ ·) with
  | some (i, t, _) =>
    match s.disp.ext[t.kind - 0x10]? with
    | some x => done s ((s.takeTask e q i).callExtension e t x)
    | none => .next s
  | none => .next s

end Sys2Proof.Machine
end

