-- ==== Sys2Proof/Machine/Fabric.lean ====
section
/-!
DEFINITION. The register pages: which registers stand at an address, what a read returns, and their common header
(spec/18_register_page_index.md R454 to R461, spec/00_scope.md R8 to R12). Machine/FabricWrite.lean has the writes.
-/

namespace Sys2Proof.Machine

/-! ### Pages (R454, R455, R461) -/

/-- The pages that a block owns. -/
def pageAssigned (p : Nat) : Bool :=
  p ≤ 8 || (0x10 ≤ p && p ≤ 0x16) || (0x18 ≤ p && p ≤ 0x1C) || (0x20 ≤ p && p ≤ 0x22) || (0x30 ≤ p && p ≤ 0x50)
    || (0x60 ≤ p && p ≤ 0x63) || p = 0xF0

/-- The first page of a page's block. -/
def firstPage (p : Nat) : Nat :=
  if 0x10 ≤ p && p ≤ 0x13 then 0x10 else if 0x30 ≤ p && p < 0x50 then 0x30 else if 0x60 ≤ p && p ≤ 0x63 then 0x60 else p

/-- PID of a page. -/
def pagePid (p : Nat) : Nat := 0x10000 + 0x100 * (p - firstPage p) + firstPage p

/-- The fields of a page's own registers, but for those that a selector reaches. -/
def plainFields (p : Nat) : List Fld :=
  match p with
  | 0x00 => deviceFields
  | 0x01 => pwrFields
  | 0x02 => clockFields
  | 0x03 => nvsFields
  | 0x04 => faultFields
  | 0x05 => hostportFields
  | 0x06 => twowireFields
  | 0x07 => irqFields
  | 0x08 => linkFields
  | 0x14 => driveFields
  | 0x15 => scanFields
  | 0x16 => noiseFields
  | 0x18 => baseFields
  | 0x19 => calFields
  | 0x1A => pipeFields
  | 0x1B => queueFields
  | 0x1C => [R.VCTRL_SEL]
  | 0x20 => aoutFields
  | 0x21 => nightcapFields
  | 0x22 => govFields
  | 0x50 => workringFields
  | 0xF0 => testFields
  | p =>
    if 0x10 ≤ p && p ≤ 0x13 then sliceFields (p - 0x10)
    else if 0x30 ≤ p && p < 0x50 then engFields (p - 0x30)
    else if 0x60 ≤ p && p ≤ 0x63 then [R.SCANTABLE_WBASE (p - 0x60)]
    else []

/-- The fields that VCTRL.SEL or NIGHTCAP.GSEL reaches, as it stands (08 R217, 16 R417). -/
def State.selectedFields (s : State) (p : Nat) : List Fld :=
  if p = 0x1C then controlFields (s.get R.VCTRL_SEL)
  else if p = 0x21 then gestureFields (s.get R.NIGHTCAP_GSEL)
  else []

/-- The word of a scan table that a register of its window reaches; none beyond word 255 (06 R143). -/
def State.windowWord (s : State) (p off : Nat) : List Fld :=
  if 0x60 ≤ p && p ≤ 0x63 && 0x40 ≤ off then
    let k := s.get (R.SCANTABLE_WBASE (p - 0x60)) + (off - 0x40) / 4
    if k < 256 then [R.SCANTABLE_WORD (p - 0x60) k] else []
  else []

/-- The fields of the register at an offset. -/
def State.fieldsAt (s : State) (p off : Nat) : List Fld :=
  ((headerFields p ++ plainFields p ++ s.selectedFields p).filter (·.off = off)) ++ s.windowWord p off

/-! ### PSTAT (R457) -/

/-- PSTAT.RUN of a page. The table that MODE and TMAP name counts as selected, and is locked, also while the built-in table runs, which
06 R145 and R147 leave open (DESIGN CHOICE, log 119). -/
def State.running (s : State) (p : Nat) : Bool :=
  if p = 0x06 then s.flag R.TWOWIRE_CSTAT_BUSY
  else if p = 0x08 then s.get R.DEVICE_BOOT_STAGE = 6 || s.get R.DEVICE_BOOT_STAGE = 7
  else if p = 0x22 then s.gov.running
  else if 0x60 ≤ p && p ≤ 0x63 then
    s.selected = p - 0x60
      || (s.flag R.SCAN_STAT_SCANNING && s.get R.SCAN_STAT_TACT = p - 0x60 && !s.flag R.SCAN_TSTAT_BUILTIN)
  else s.flag R.SCAN_STAT_SCANNING

/-- PSTAT.BUSY of a page. -/
def State.busyBit (s : State) (p : Nat) : Bool :=
  match p with
  | 0x03 => s.flag R.NVS_STAT_BUSY
  | 0x04 => s.flag R.FAULT_STSTAT_BUSY
  | 0x06 => s.flag R.TWOWIRE_CSTAT_BUSY
  | 0x08 => s.flag R.LINK_RSTAT_BUSY
  | 0x15 => s.flag R.SCAN_TSTAT_BUSY
  | 0x19 => s.flag R.CAL_STAT_BUSY
  | _ => false

/-- PSTAT.LIVE of a page: a condition of the page's source is live. COMP_CLAMP, FE_OVERLOAD and REG_WRERR are events. -/
def State.liveBit (s : State) (p : Nat) : Bool := s.flt.live.any fun q => (kindRow q.1).src = pageSource p

/-- PSTAT. -/
def State.pstat (s : State) (p : Nat) : Nat :=
  b2n (s.running p) ||| (b2n (s.busyBit p) <<< 1) ||| (s.get (R.PSTAT_WRERR p) <<< 2) ||| (b2n (s.liveBit p) <<< 3)

/-! ### Reads (00 R8) -/

/-- The readable part of fields. -/
def State.readFields (s : State) (l : List Fld) : Nat :=
  l.foldl (fun a f => if f.acc = .wo then a else a ||| (s.get f <<< f.lsb)) 0

/-- Word `i` of a log record; 0 where there is none. -/
def recWord (r : Option LogRec) (i : Nat) : Nat :=
  match r with
  | some r => ofBytes ((r.bytes.drop (4 * i)).take 4)
  | none => 0

/-- The FAULT registers that the device computes (17 R432, R434 to R438, R447). -/
def State.readFault (s : State) (off g : Nat) : Nat :=
  if off = 0x24 then s.faultSummary
  else if 0x30 ≤ off && off < 0x40 then recWord s.flt.first ((off - 0x30) / 4)
  else if 0x40 ≤ off && off < 0x60 then s.faultStatus ((off - 0x40) / 4)
  else if 0x60 ≤ off && off < 0x80 then s.faultLive ((off - 0x60) / 4)
  else if off = 0x84 then s.logStat
  else if 0x88 ≤ off && off < 0x98 then recWord (s.flt.log[s.get R.FAULT_LOGIDX]?) ((off - 0x88) / 4)
  else if off = 0xAC then g ||| (aget 0 (s.get R.FAULT_STAUX_LINE) s.st.counts % 65536)
  else g

/-- TWOWIRE.STAT: the flag of the safe state, the busy bus, and the target address once the straps are sampled. The bus is busy
with this device's own transfers: those that it leads on a bus it has joined, and those to it (log 113). -/
def State.readTwi (s : State) (g : Nat) : Nat :=
  g ||| (b2n s.flt.safe <<< 3)
    ||| (b2n (s.flag R.TWOWIRE_STAT_ADDRESSED
      || (s.flag R.TWOWIRE_STAT_JOINED && (s.flag R.TWOWIRE_CSTAT_BUSY || s.flag R.TWOWIRE_CSTAT_WBUSY))) <<< 4)
    ||| (if s.flag R.DEVICE_STRAPS_SAMPLED then (0x3C + s.get R.DEVICE_STRAPS_ADDR) <<< 8 else 0)

/-- A mask of the numbers below `n` for which a condition holds. -/
def maskOf (n : Nat) (p : Nat → Bool) : Nat := (List.range n).foldl (fun a k => if p k then a ||| (1 <<< k) else a) 0

/-- LINK.STAT: DEGRADED, and the lost and shadowed positions. -/
def State.readLink (s : State) (g : Nat) : Nat :=
  g ||| (b2n s.degraded <<< 4)
    ||| (maskOf 8 (fun k => decide (k ∈ s.link.lost) || decide (k ∈ s.panel.lost) || s.link.shadow.any fun q => q.1 = k) <<< 16)

/-- The selected coefficient and its factory value; its window (07 R186, R187). They read 0 for a reserved item, and, as
their reset value says, before the boot has loaded calibration data. -/
def State.readCal (s : State) (off g : Nat) : Nat :=
  let item := s.get R.CAL_CSEL_ITEM
  let k := coefId item (s.get R.CAL_CSEL_INDEX)
  let w := Config.coefWindow item (s.get R.CAL_CSEL_INDEX)
  let held := itemSize item ≠ 0 && !s.coefs.used.isEmpty
  if off = 0x24 then g ||| (b2n s.bgRuns <<< 1)
  else if !held then g
  else if off = 0x34 then s.coef k % 65536 ||| (s.factory k <<< 16)
  else if off = 0x38 then w.1 % 65536 ||| ((w.2 % 65536) <<< 16)
  else g

/-- PIPE.STAT. -/
def State.pipeStat (s : State) : Nat :=
  s.pipe.tracks.length % 128 ||| (((s.pipe.tracks.filter fun t => t.id ≠ 0).length % 128) <<< 8)
    ||| ((s.pipe.freeIds.length % 256) <<< 16)

/-- The values and owners of the virtual controls. -/
def State.readControl (s : State) (off g : Nat) : Nat :=
  let c (k : Nat) : Nat × Nat × Nat := match s.pipe.controls[k]? with
    | some c => (c.a, c.b, c.owner)
    | none => (0, 0, 0)
  if 0x40 ≤ off && off < 0x80 then
    let v := c ((off - 0x40) / 4)
    v.1 % 65536 ||| ((v.2.1 % 65536) <<< 16)
  else if 0x80 ≤ off && off < 0x90 then
    ofBytes ((List.range 4).map fun b => byteOf (c (off - 0x80 + b)).2.2)
  else g

/-- A task of the frame that is being processed. -/
def State.ofFrame (s : State) (t : Task) : Bool := s.disp.cur.any fun fi => fi.frame % 65536 = t.frame

/-- The WORKRING registers that the dispatcher computes (09 R234, R245, R246, R250). -/
def State.readRing (s : State) (off g : Nat) : Nat :=
  if off = 0x24 then
    s.disp.wave ||| (min 255 ((s.disp.tasks.filter s.ofFrame).length + s.disp.waiting.length) <<< 8) ||| (s.disp.nact <<< 16)
  else if off = 0x28 then maskOf 32 fun e => decide (e ∈ s.disp.active)
  else if off = 0x2C then maskOf 32 fun e => (s.eng e).state = .parked
  else if off = 0x30 then maskOf 32 fun e => (s.eng e).state = .stopped
  else if off = 0x48 then
    maskOf 16 (fun i => (match s.disp.ext[i]? with
      | some x => x.enabled
      | none => false) && decide (i ∉ s.disp.extOff)) ||| (b2n s.disp.extOk <<< 16)
  else g

/-- A register at 0x20 or above, as a read returns it; `g` is what its stored fields give. -/
def State.readBlock (s : State) (p off g : Nat) : Nat :=
  match p with
  | 0x01 => if off = 0x30 then g ||| (b2n s.wakePin <<< 8) else g
  | 0x02 => if off = 0x20 then s.pow.tb % 2 ^ 32 else g
  | 0x04 => s.readFault off g
  | 0x05 => if off = 0x24 then g ||| (b2n s.flt.safe <<< 8) else g
  | 0x06 => if off = 0x24 then s.readTwi g else g
  | 0x07 => if off = 0x20 then s.irqRaw else if off = 0x24 then s.irqPend else g
  | 0x08 => if off = 0x28 then s.readLink g else g
  | 0x18 => if off = 0x34 then g ||| (b2n (!s.suspects.isEmpty) <<< 1) else g
  | 0x19 => s.readCal off g
  | 0x1A => if off = 0x4C then s.pipeStat else g
  | 0x1B =>
    if 0x30 ≤ off && off < 0x40 then
      let q := s.queue ((off - 0x30) / 4)
      q.level ||| (b2n q.isOpen <<< 24)
    else g
  | 0x1C => s.readControl off g
  | 0x20 =>
    if off = 0x30 then g ||| (b2n s.flt.safe <<< 24) ||| (b2n s.vrefOk <<< 26) ||| (b2n s.slewing <<< 27) else g
  | 0x50 => s.readRing off g
  | p => if 0x30 ≤ p && p < 0x50 then g ||| s.engRead (p - 0x30) off else g

/-- The TEST page is there for writes other than TEST.KEY, and for reads (17 R445). -/
def State.testOpen (s : State) : Bool := s.flag R.TEST_STAT_UNLOCKED && !s.flag R.TEST_STAT_FUSED

/-- What a read of the register at offset `off` of page `p` returns. -/
def State.readReg (s : State) (p off : Nat) : Nat :=
  let off := off / 4 * 4
  if !pageAssigned p || (p = 0xF0 && !s.testOpen) then 0
  else if off = 0 then pagePid p
  else if off = 8 then s.pstat p
  else
    let g := s.readFields (s.fieldsAt p off)
    if off < 0x20 then g else s.readBlock p off g

/-- The effect of a read whose data is delivered: a latched TBHI, a popped debug byte (16 R422, 12 R321). -/
def State.readFx (s : State) (p off : Nat) : State :=
  if p = 0x02 && off = 0x20 then s.set R.CLOCK_TBHI (s.pow.tb / 2 ^ 32)
  else if 0x30 ≤ p && p < 0x50 && off = 0x4C then s.dbgPop (p - 0x30)
  else s

/-- A 32-bit read through the fabric, as delivered: its value, and the state after it. -/
def State.fabricRead (s : State) (addr : Nat) : Nat × State :=
  (s.readReg (addr / 256) (addr % 256), s.readFx (addr / 256) (addr % 256 / 4 * 4))

end Sys2Proof.Machine
end

