-- ==== Sys2Proof/Machine/FabricWrite.lean ====
section
/-!
DEFINITION. Register writes through the fabric: the checks of R460, the acceptance of each field, the registers whose
write does something, and the page header with its block reset (spec/18_register_page_index.md R456 to R460,
spec/00_scope.md R8 to R13, spec/01_architecture.md R27).
-/

namespace Sys2Proof.Machine

/-! ### Fields (00 R8, R9, R11) -/

/-- One field takes its part of the word, or rejects it. -/
def putField (run : Bool) (w : Nat) (a : State × Bool) (f : Fld) : State × Bool :=
  match f.acc with
  | .rw => if f.legal (f.of w) && !(f.cls = .k && run) then (a.1.set f (f.of w), a.2) else (a.1, true)
  | .w1c => if f.of w = 0 then a else (a.1.set f (clearBits (a.1.get f) (f.of w)), a.2)
  | _ => a

/-- The fields of a list take their parts of the word; the Bool tells that one rejected its value. -/
def State.putFields (s : State) (run : Bool) (w : Nat) (l : List Fld) : State × Bool := l.foldl (putField run w) (s, false)

/-! ### Registers whose write does something -/

/-- DEVICE.RSTCMD (03 R63): the key comes first, then GO. -/
def State.writeRstcmd (s : State) (w : Nat) : State × Bool :=
  if R.DEVICE_RSTCMD_KEY.of w ≠ 0x5A1D then (s, true)
  else if bit w 0 then (s.deviceReset R.DEVICE_RSTCAUSE_SOFT s.sup.pins, false)
  else (s, false)

/-- PWR.WAKESTAT: an acknowledged timer cause no longer drives WAKE (16 R412). -/
def State.writeWakestat (s : State) (w : Nat) : State :=
  if bit w 3 then { s with pow := { s.pow with timerCause := false } } else s

/-- CLOCK.TBSTAT.ACK. -/
def State.writeTbstat (s : State) (w : Nat) : State :=
  if R.CLOCK_TBSTAT_ACK.of w = 1 then
    (s.set R.CLOCK_TBSTAT_VALID 1).set R.CLOCK_TBSTAT_ACC (s.get R.CLOCK_TBSTAT_SRC) else s

/-- FAULT.CTL: FIRSTCLR and the keyed LOGCLR (17 R435, R436). -/
def State.writeFaultCtl (s : State) (w : Nat) : State × Bool :=
  let s := if bit w 8 then { s with flt := { s.flt with first := none } } else s
  if !bit w 9 then (s, false)
  else if R.FAULT_CTL_KEY.of w ≠ 0x10C5 then (s, true)
  else (({ s with flt := { s.flt with log := [] } }).set R.FAULT_LOGSTAT_OVF 0, false)

/-- FAULT.STATUSi: clears the set bits that are written 1 (17 R437). -/
def State.writeStatus (s : State) (i w : Nat) : State :=
  (List.range 32).foldl (fun s b =>
    if bit w b && s.latched (32 * i + b) ≠ 0 then s.clearStatus (32 * i + b) else s) s

/-- The electrodes that FAULT.STAUX.LINE names. -/
def staLine (v : Nat) : Bool := v < 160 || (0x100 ≤ v && v < 0x160)

/-- HOSTPORT.CFG: one or two dummy cycles too few for the lanes reject the whole write (12 R317). -/
def hostCfgBad (w : Nat) : Bool :=
  (R.HOSTPORT_CFG_LANES.of w = 1 || R.HOSTPORT_CFG_LANES.of w = 2) && R.HOSTPORT_CFG_DUMMY.of w < 2

/-- TWOWIRE.WMSG: EN needs a valid WADDR (13 R354). -/
def State.writeWmsg (s : State) (w : Nat) : State × Bool :=
  let r := s.putFields false w [R.TWOWIRE_WMSG_WADDR, R.TWOWIRE_WMSG_PFX0, R.TWOWIRE_WMSG_PFX1]
  if bit w 0 && !R.TWOWIRE_WMSG_WADDR.legal (r.1.get R.TWOWIRE_WMSG_WADDR) then (r.1, true)
  else (r.1.set R.TWOWIRE_WMSG_EN (w % 2), r.2)

/-- The counters that LINK.ERRCLR clears. -/
def linkCounters : List Fld :=
  [R.LINK_ERRUP_CODE, R.LINK_ERRUP_CRC, R.LINK_ERRUP_LOSTPK, R.LINK_ERRUP_DOWN, R.LINK_ERRDN_CODE, R.LINK_ERRDN_CRC,
    R.LINK_ERRDN_LOSTPK, R.LINK_ERRDN_DOWN, R.LINK_ERRC_LATE, R.LINK_ERRC_LLATE, R.LINK_ERRC_FPAB, R.LINK_ERRC_SYNCERR]

/-- LINK.RCMD (14 R381): position 0 is reserved (log 38). -/
def State.writeRcmd (s : State) (w : Nat) : State × Bool :=
  let op := R.LINK_RCMD_OP.of w
  let pos := R.LINK_RCMD_POS.of w
  let all := bit w 7
  let needs := op = 1 || op = 2 || (op = 3 && !all)
  if needs && pos = 0 then (s, true)
  else (s.remoteCommand op pos (R.LINK_RCMD_ADDR.of w) all, pos = 0)

/-- SCAN.CTL (06 R144, R146, R149, R162). -/
def State.writeScanCtl (s : State) (w : Nat) : State × Bool :=
  let m := R.SCAN_CTL_MODE.of w
  let bad := m = 2 && s.inCascade
  let s := if bad then s else s.writeMode m 0
  let s := if bit w 4 then s.set R.SCAN_TIMING_PEAKUS 0 else s
  let hold := bit w 8
  (if hold = s.flag R.SCAN_CTL_HOLD then s else s.writeHold hold, bad)

/-- CAL.CSEL: a reserved pair is rejected whole (07 R186). -/
def State.writeCsel (s : State) (w : Nat) : State × Bool :=
  let item := R.CAL_CSEL_ITEM.of w
  let i := R.CAL_CSEL_INDEX.of w
  if itemSize item ≤ i then (s, true) else ((s.set R.CAL_CSEL_ITEM item).set R.CAL_CSEL_INDEX i, false)

/-- PIPE.THR: thresholds out of order are rejected whole (08). -/
def pipeThrBad (w : Nat) : Bool :=
  let on := R.PIPE_THR_TON.of w
  let off := R.PIPE_THR_TOFF.of w
  let peak := R.PIPE_THR_TPEAK.of w
  on = 0 || off = 0 || peak = 0 || on < off || peak < on

/-- PIPE.CMD: CANCELALL and CNTCLR (08). -/
def State.writePipeCmd (s : State) (w : Nat) : State :=
  let s := if bit w 0 then { s with pipe := { s.pipe with cancelAll := true } } else s
  if bit w 1 then s.clear [R.PIPE_CNT_DROPPED, R.PIPE_CNT_OVERRUN] else s

/-- QUEUE.QnCTL: WMARK within the capacity; SKIP, then FLUSH (12 R331, R335). -/
def State.writeQctl (s : State) (n w : Nat) : State × Bool :=
  let m := (R.QUEUE_CTL_WMARK n).of w
  let bad := m = 0 || queueCapacity n / 16 < m
  let s := if bad then s else s.set (R.QUEUE_CTL_WMARK n) m
  let s := s.set (R.QUEUE_CTL_OVF n) ((R.QUEUE_CTL_OVF n).of w)
  let s := if bit w 18 then s.setQueue n (s.queue n).skip else s
  (if bit w 17 then s.setQueue n (s.queue n).flush else s, bad)

/-- QUEUE.CNTCLR. -/
def State.writeQclr (s : State) (w : Nat) : State :=
  (List.range 4).foldl (fun s n => if bit w n then s.set (R.QUEUE_SEQ_DROPS n) 0 else s) s

/-- Whether a control's definition breaks the geometry of 08 R217. -/
def State.controlBad (s : State) (c : Nat) : Bool :=
  s.get (R.VCTRL_DEF_TYPE c) ≠ 0 &&
    (s.get (R.VCTRL_RECTB_X1 c) ≤ s.get (R.VCTRL_RECTA_X0 c) || s.get (R.VCTRL_RECTB_Y1 c) ≤ s.get (R.VCTRL_RECTA_Y0 c)
      || (s.get (R.VCTRL_DEF_TYPE c) = 3 && s.get (R.VCTRL_KNOBA_ROUT c) ≤ s.get (R.VCTRL_KNOBA_RIN c)))

/-- A definition register of the selected control: a write that would break the geometry is rejected whole (08 R217). -/
def State.writeControl (s : State) (off w : Nat) : State × Bool :=
  let r := s.putFields (s.running 0x1C) w (s.fieldsAt 0x1C off)
  if off ≤ 0x30 && r.1.controlBad (s.get R.VCTRL_SEL) then (s, true) else r

/-- AOUT.SPAN: each output whose span changes (15 R391, R392). -/
def State.writeSpan (s : State) (w : Nat) : State × Bool :=
  let r := s.putFields false w ((List.range 8).map R.AOUT_SPAN)
  ((List.range 8).foldl (fun t n => if t.get (R.AOUT_SPAN n) = s.get (R.AOUT_SPAN n) then t else t.spanChanged n) r.1, r.2)

/-- AOUT.SLEW: a LIVE output without a limit goes to its active code at once (15 R394). -/
def State.writeSlew (s : State) (w : Nat) : State × Bool :=
  let r := s.putFields false w ((List.range 8).map R.AOUT_SLEW)
  ((List.range 8).foldl (fun t n => if t.outState n = 2 then t.outLive n else t) r.1, r.2)

/-- AOUT.STROBE (15 R386). -/
def State.writeStrobe (s : State) (w : Nat) : State :=
  let s := if bit w 0 then s.strobe 0 else s
  if bit w 1 then s.strobe 1 else s

/-- AOUT.FLT: an output whose bit is cleared is released (15 R399). -/
def State.writeFlt (s : State) (w : Nat) : State :=
  let hit := s.get R.AOUT_FLT_SHORT &&& (w % 256)
  let s := s.set R.AOUT_FLT_SHORT (clearBits (s.get R.AOUT_FLT_SHORT) (w % 256))
  (List.range 8).foldl (fun t n => if bit hit n then t.outReleased n else t) s

/-- NIGHTCAP.CTL: ZHYST below the resulting ZTH (16 R416; log 39). -/
def State.writeNightCtl (s : State) (w : Nat) : State × Bool :=
  let r := s.putFields false w [R.NIGHTCAP_CTL_RATE, R.NIGHTCAP_CTL_TIME, R.NIGHTCAP_CTL_ZTH]
  if R.NIGHTCAP_CTL_ZHYST.of w < r.1.get R.NIGHTCAP_CTL_ZTH then
    (r.1.set R.NIGHTCAP_CTL_ZHYST (R.NIGHTCAP_CTL_ZHYST.of w), r.2) else (r.1, true)

/-- NIGHTCAP.ZONEz: a zone lies within one slice (16 R416). -/
def State.writeZone (s : State) (z w : Nat) : State × Bool :=
  let a := (R.NIGHTCAP_ZONE_FIRST z).of w
  let b := (R.NIGHTCAP_ZONE_LAST z).of w
  if a ≤ b && b < 160 && a / 40 = b / 40 then ((s.set (R.NIGHTCAP_ZONE_FIRST z) a).set (R.NIGHTCAP_ZONE_LAST z) b, false)
  else (s, true)

/-- NIGHTCAP.STEPk of the selected gesture: operations 4 to 7 are reserved (16 R417). -/
def State.writeStep (s : State) (k w : Nat) : State × Bool :=
  let f := R.NIGHTCAP_STEP (s.get R.NIGHTCAP_GSEL) k
  if w % 8 < 4 then (s.set f w, false) else (s.set f (w - w % 8 + s.get f % 8), true)

/-- GOV.CTL, in the order of 16 R425. -/
def State.writeGovCtl (s : State) (w : Nat) : State × Bool :=
  let n0 := s.get R.GOV_CTL_NPTS
  let n := R.GOV_CTL_NPTS.of w
  let badN := s.running 0x22 && n ≠ n0
  let n1 := if badN then n0 else n
  let t := R.GOV_CTL_TOPPT.of w
  let badT := n1 < t
  let t1 := if badT then s.get R.GOV_CTL_TOPPT else t
  let low := n1 < t1
  let s := (s.set R.GOV_CTL_TOPPT t1).set R.GOV_CTL_NPTS (if low then n0 else n1)
  let r := s.putFields false w [R.GOV_CTL_EN, R.GOV_CTL_MINPT, R.GOV_CTL_UPDWELL, R.GOV_CTL_UPMARG]
  (r.1, r.2 || badN || badT || low)

/-- WORKRING.ERRCLR. -/
def State.writeRingClr (s : State) (w : Nat) : State :=
  let s := if bit w 0 then s.clear [R.WORKRING_ERR_LOST, R.WORKRING_ERR_WTMO, R.WORKRING_ERR_EXTOVR, R.WORKRING_ERR_PARKLATE] else s
  if bit w 1 then s.set R.WORKRING_CRIT_PEAKUS 0 else s

/-! ### The TEST page (17 R445, R446) -/

/-- TEST.KEY: the unlock sequence within 1 ms; a wrong or late value restarts it, and may be its first one (log 40). -/
def State.testKeyWrite (s : State) (v : Nat) : State :=
  let put (n tb : Nat) : State := { s with tst := { s.tst with step := n, stepTb := tb } }
  let again : State := if v = 0x7E57 then put 1 s.pow.tb else put 0 0
  let inTime := tbDiff s.pow.tb s.tst.stepTb ≤ 1000
  if s.tst.step = 1 && v = 0x1A3C && inTime then put 2 s.tst.stepTb
  else if s.tst.step = 2 && v = 0x5B9D && inTime then (put 0 0).set R.TEST_STAT_UNLOCKED 1
  else again

/-- TEST.FUSE: the key twice in a row. -/
def State.testFuse (s : State) (v : Nat) : State :=
  let put (b : Bool) : State := { s with tst := { s.tst with fuseOnce := b } }
  if v ≠ 0xF05E then put false
  else if s.tst.fuseOnce then ((put false).set R.TEST_STAT_FUSED 1).set R.TEST_STAT_UNLOCKED 0
  else put true

/-- The sources of fault messages: the assigned pages, the engines as 0x30 (17 R430). -/
def sourceListed (p : Nat) : Bool := pageAssigned p && !(0x31 ≤ p && p < 0x50)

/-- TEST.INJ (R446); the Bool tells a kind or source that is not listed. -/
def State.testInj (s : State) (w : Nat) : State × Bool :=
  let src := R.TEST_INJ_SRC.of w
  let kind := R.TEST_INJ_KIND.of w
  if R.TEST_INJ_GO.of w = 0 then (s, false)
  else if !sourceListed src || !(kindTable.any fun r => r.kind = kind) then (s, true)
  else (s.raise ⟨src, kind, R.TEST_INJ_SEV.of w, s.get R.TEST_INJAD_ADDR, s.get R.TEST_INJAD_DETAIL, true⟩, false)

/-- A write to the TEST page while it is there; anything but a second FUSE write breaks the pair of R445. -/
def State.writeTest (s : State) (off w : Nat) : State × Bool :=
  let t := if off = 0x30 then s else { s with tst := { s.tst with fuseOnce := false } }
  match off with
  | 0x20 => (t.testKeyWrite (w % 65536), false)
  | 0x28 => t.testInj w
  | 0x30 => (t.testFuse (w % 65536), false)
  | _ => t.putFields false w (t.fieldsAt 0xF0 off)

/-! ### One register of a block -/

/-- The counters behind a clear register. -/
def hostCounters : List Fld := [R.HOSTPORT_ERR_BADCMD, R.HOSTPORT_ERR_ALIGN, R.HOSTPORT_ERR_UNDER, R.HOSTPORT_ERR_CUT]
def twiCounters : List Fld := [R.TWOWIRE_ERR_BUSABORT, R.TWOWIRE_ERR_STRETCHTMO, R.TWOWIRE_ERR_ARBLOST, R.TWOWIRE_ERR_BUSCLEAR]
def sliceCounters (k : Nat) : List Fld := [R.SLICE_ERRCNT_OVLCNT k, R.SLICE_ERRCNT_CLPCNT k]

/-- A write of 1 to bit 0 clears a list of counters. -/
def State.clearOn (s : State) (w : Nat) (l : List Fld) : State × Bool := (if bit w 0 then s.clear l else s, false)

/-- The stored fields of a register take their parts of the word. -/
def State.writePlain (s : State) (p off w : Nat) : State × Bool := s.putFields (s.running p) w (s.fieldsAt p off)

/-- Runs what a write does besides setting stored fields. -/
def andThen (r : State × Bool) (f : State → State) : State × Bool := (f r.1, r.2)

/-- A write to the FAULT page. -/
def State.writeFault (s : State) (off w : Nat) : State × Bool :=
  if off = 0x20 then
    let r := s.writePlain 0x04 off w
    let q := r.1.writeFaultCtl w
    (q.1, r.2 || q.2)
  else if 0x40 ≤ off && off < 0x60 then (s.writeStatus ((off - 0x40) / 4) w, false)
  else if off = 0x98 then (s.stCommand (w % 4), false)
  else if off = 0xA8 then
    let r := s.putFields false w [R.FAULT_STAUX_RXMUT]
    if staLine (R.FAULT_STAUX_LINE.of w) then (r.1.set R.FAULT_STAUX_LINE (R.FAULT_STAUX_LINE.of w), r.2) else (r.1, true)
  else if 0xF0 ≤ off then (s.unmaskBits 0x100 ((off - 0xF0) / 4) w, false)
  else s.writePlain 0x04 off w

/-- A write to the AOUT page. -/
def State.writeAout (s : State) (off w : Nat) : State × Bool :=
  match off with
  | 0x24 => (s.writeStrobe w, false)
  | 0x28 => s.writeSpan w
  | 0x2C => s.writeSlew w
  | 0x34 => (s.writeFlt w, false)
  | _ => s.writePlain 0x20 off w

/-- A write to an engine's page (09 R255). -/
def State.writeEng (s : State) (e off w : Nat) : State × Bool :=
  match off with
  | 0x20 => s.engCtl e w
  | 0x38 => if s.engIdle e then s.writePlain (0x30 + e) off w else (s, true)
  | 0x3C => s.setDmdat e w
  | _ => s.writePlain (0x30 + e) off w

/-- A write of word `w` to the register at offset `off`, 0x20 or above, of page `p`; the Bool tells that something of it was
rejected. -/
def State.writeReg (s : State) (p off w : Nat) : State × Bool :=
  match p, off with
  | 0x00, 0x30 => s.writeRstcmd w
  | 0x01, 0x20 =>
    (s.pwrCommand (R.PWR_CMD_OP.of w) (bit w 8) (bit w 9) (R.PWR_CMD_KEY.of w), false)
  | 0x01, 0x30 => andThen (s.writePlain p off w) fun s => s.writeWakestat w
  | 0x02, 0x28 => (s.writeTbstat w, false)
  | 0x03, 0x20 => (s.nvsCommand (R.NVS_CMD_OP.of w) (R.NVS_CMD_KEY.of w), false)
  | 0x03, 0x28 => andThen (s.writePlain p off w) fun s => if bit w 3 then s.set R.NVS_STAT_CORR 0 else s
  | 0x04, off => s.writeFault off w
  | 0x05, 0x20 => if hostCfgBad w then (s, true) else s.writePlain p off w
  | 0x05, 0x2C => s.clearOn w hostCounters
  | 0x06, 0x30 => s.clearOn w twiCounters
  | 0x06, 0x38 => s.twiCommand (R.TWOWIRE_CCMD_OP.of w) (R.TWOWIRE_CCMD_LEN.of w) (R.TWOWIRE_CCMD_TARGET.of w)
  | 0x06, 0x44 => s.writeWmsg w
  | 0x08, 0x3C => s.clearOn w linkCounters
  | 0x08, 0x40 => s.writeRcmd w
  | 0x10, 0x34 => s.clearOn w (sliceCounters 0)
  | 0x11, 0x34 => s.clearOn w (sliceCounters 1)
  | 0x12, 0x34 => s.clearOn w (sliceCounters 2)
  | 0x13, 0x34 => s.clearOn w (sliceCounters 3)
  | 0x14, off =>
    if 0x60 ≤ off && off < 0x74 then (s.unmaskBits 0 ((off - 0x60) / 4) w, false) else s.writePlain p off w
  | 0x15, 0x20 => s.writeScanCtl w
  | 0x15, 0x24 => (s.writeTmap (w % 256), false)
  | 0x15, 0x34 => (if bit w 8 then s.tableCheck (w % 4) else s, false)
  | 0x18, 0x30 => if 3 < w % 16 then (s, true) else (s.baseWrite (w % 16), false)
  | 0x19, 0x30 => s.writeCsel w
  | 0x1A, 0x28 => if pipeThrBad w then (s, true) else s.writePlain p off w
  | 0x1A, 0x54 => (s.writePipeCmd w, false)
  | 0x1B, 0x20 => s.writeQctl 0 w
  | 0x1B, 0x24 => s.writeQctl 1 w
  | 0x1B, 0x28 => s.writeQctl 2 w
  | 0x1B, 0x2C => s.writeQctl 3 w
  | 0x1B, 0x50 => (s.writeQclr w, false)
  | 0x1C, off => if 0x24 ≤ off && off ≤ 0x38 then s.writeControl off w else s.writePlain p off w
  | 0x20, off => s.writeAout off w
  | 0x21, off =>
    if off = 0x20 then s.writeNightCtl w
    else if 0x40 ≤ off && off < 0x80 then s.writeZone ((off - 0x40) / 4) w
    else if 0xC0 ≤ off then s.writeStep ((off - 0xC0) / 4) w
    else s.writePlain p off w
  | 0x22, 0x20 => s.writeGovCtl w
  | 0x50, 0x40 => (s.writeRingClr w, false)
  | 0xF0, off => s.writeTest off w
  | p, off => if 0x30 ≤ p && p < 0x50 then s.writeEng (p - 0x30) off w else s.writePlain p off w

/-- CAL.CMD; a CAPTURE_REF that reaches a cascade member comes through ROOT, over the link (07 R184, R188). -/
def State.writeCal (s : State) (req : Requester) (w : Nat) : State :=
  s.calCommand (req = .link) (R.CAL_CMD_OP.of w) (R.CAL_CMD_ARG.of w)

/-! ### The page header (R456 to R459) -/

/-- Every field of a page, those of every selector included. -/
def allFields (p : Nat) : List Fld :=
  plainFields p ++ (if p = 0x1C then (List.range 16).flatMap controlFields
    else if p = 0x21 then (List.range 8).flatMap gestureFields
    else if 0x60 ≤ p && p ≤ 0x63 then tableFields (p - 0x60) else [])

/-- The word of reset values of the RW fields of a register. -/
def resetWord (l : List Fld) : Nat := l.foldl (fun a f => if f.acc = .rw then a ||| (f.reset <<< f.lsb) else a) 0

/-- The word that BRST writes; the input registers of the outputs reset by APRON (15 R388). -/
def State.brstWord (s : State) (p off : Nat) (l : List Fld) : Nat :=
  if p = 0x20 && 0x40 ≤ off && off < 0x60 then (if s.flag R.DEVICE_STRAPS_APRON then 0x8000 else 0) else resetWord l

/-- BRST of one register, as a write of its reset value; the first rejected offset is kept. -/
def brstReg (p : Nat) (a : State × Option Nat) (off : Nat) : State × Option Nat :=
  let l := a.1.fieldsAt p off
  if !(l.any fun f => f.acc = .rw) then a
  else
    let r := a.1.writeReg p off (a.1.brstWord p off l)
    (r.1, if a.2.isNone && r.2 then some off else a.2)

/-- BRST of the registers at offsets `lo` to `hi`. -/
def brstRange (p lo hi : Nat) (a : State × Option Nat) : State × Option Nat :=
  ((List.range ((hi + 4 - lo) / 4)).map fun k => lo + 4 * k).foldl (brstReg p) a

/-- BRST of the registers behind a selector, for each of its `n` values. -/
def brstSelected (p lo hi n : Nat) (sel : Fld) (a : State × Option Nat) : State × Option Nat :=
  let r := (List.range n).foldl (fun (a : State × Option Nat) (k : Nat) => brstRange p lo hi (a.1.set sel k, a.2)) a
  (r.1.set sel 0, r.2)

/-- BRST of the words of a scan table. -/
def brstTable (p : Nat) (a : State × Option Nat) : State × Option Nat :=
  if a.1.running p then (a.1, some (a.2.getD 0x40)) else (a.1.clear (tableFields (p - 0x60)), a.2)

/-- BRST of the registers at offsets 0x20 to `hi` of a page as one write: 0x20, which starts or stops a block and so decides what its
other registers take, comes last. -/
def State.brstPage (s : State) (p hi : Nat) : State × Option Nat :=
  let r := brstRange p 0x24 hi (s, none)
  let q := brstReg p (r.1, none) 0x20
  (q.1, q.2.or r.2)

/-- BRST of an engine page as one write: DMDAT takes its reset value 0 at the DMAD that stood, then DMAD, the breakpoints and
CTL theirs (log 41). -/
def State.brstEngine (s : State) (p : Nat) : State × Option Nat :=
  let d := s.writeReg p 0x3C 0
  let r := [0x38, 0x30, 0x2C, 0x20].foldl (brstReg p) (d.1, none)
  (r.1, r.2.or (if d.2 then some 0x3C else none))

/-- PCTRL.BRST (R456). The result tells the first rejected offset. -/
def State.blockReset (s : State) (p : Nat) : State × Option Nat :=
  let s := s.clear [R.PCTRL_EN p, R.PIEN_MSG p, R.PIEN_WRERR p, R.PFMASK_NOTE p, R.PFMASK_WARN p]
  if p = 0x1C then brstSelected p 0x24 0x38 16 R.VCTRL_SEL (s, none)
  else if p = 0x21 then brstSelected p 0xC0 0xFC 8 R.NIGHTCAP_GSEL (s.brstPage p 0x7C)
  else if 0x60 ≤ p && p ≤ 0x63 then brstTable p (brstRange p 0x20 0x20 (s, none))
  else if 0x30 ≤ p && p < 0x50 then s.brstEngine p
  else s.brstPage p 0xFC

/-- The pages on which BRST is rejected. -/
def brstBarred (p : Nat) : Bool := p ≤ 4 || p = 0xF0

/-- The scan mode that has come into force without a FRAME_START shows at once, with its MODE event (08 R226; log 117). -/
def State.modeApplied (s : State) (old : Nat) : State :=
  if s.mode = old || s.follows then s
  else
    let table := tmapTable s.tmapForce s.mode
    let s := (s.set R.SCAN_STAT_MODEACT s.mode).set R.SCAN_STAT_TACT table
    if s.scan.period = 0 then s else s.modeEvent s.mode old s.scan.modeSrc table

/-- PCTRL.APPLY (R456): the F-class values written last come into force, as at a FRAME_START. A ring member's own shared fields
have no effect (14 R368). -/
def State.applyPage (s : State) (p : Nat) : State :=
  if s.running p || (s.follows && 0x14 ≤ p && p ≤ 0x16) then s
  else (s.takeForce ((allFields p).foldl (fun m f => if f.cls = .f then aput f.key (s.get f) m else m) s.force)).modeApplied s.mode

/-- A write to the header register at offset `off`; the result tells the first rejected offset. -/
def State.writeHeader (s : State) (p off w : Nat) : State × Option Nat :=
  if off = 4 then
    let s := s.set (R.PCTRL_EN p) (w % 2)
    let r := if !bit w 1 then (s, none) else if brstBarred p then (s, some 4) else s.blockReset p
    (if bit w 2 then r.1.applyPage p else r.1, r.2)
  else if off = 0x18 then
    if (R.PLOCK_KEY p).of w ≠ 0x4C4B then (s, some 0x18)
    else (if bit w 8 then s.set (R.PLOCK_LOCKED p) 1 else s, none)
  else ((s.putFields false w ((headerFields p).filter (·.off = off))).1, none)

/-! ### The fabric (R460, 01 R27) -/

/-- A requester is there: its port or link works and the fabric is powered. -/
def State.mayWrite (s : State) (req : Requester) : Bool :=
  match req with
  | .power => s.up
  | .collector => s.up
  | .host => s.pd1 && s.sup.portReady && s.sup.vioGood
  | .twoWire => s.pd1 && s.sup.portReady && s.sup.vioGood && s.flag R.TWOWIRE_STAT_JOINED
  | .link => s.pd1 && s.inCascade
  | .engine _ => s.inRun && !s.flt.safe

/-- The host port or the two-wire port. -/
def reqOutside : Requester → Bool
  | .host => true
  | .twoWire => true
  | _ => false

/-- The request comes from an engine. -/
def reqEngine : Requester → Bool
  | .engine _ => true
  | _ => false

/-- An extension task runs on the requesting engine. -/
def State.extends (s : State) : Requester → Bool
  | .engine e => (s.eng e).inExt
  | _ => false

/-- Before DONE and outside the loader state (03 R70). -/
def State.early (s : State) : Bool := s.get R.DEVICE_BOOT_STAGE ≠ 7 && s.get R.DEVICE_BOOT_STAGE ≠ 8

/-- The pages that take host and two-wire writes before DONE (03 R70). -/
def earlyPage (p : Nat) : Bool := p = 0 || p = 3 || p = 4 || p = 5 || p = 7

/-- The AOUT registers that ignore every write in the fault safe state (15 R396). -/
def safeIgnored (p off : Nat) : Bool := p = 0x20 && (off = 0x24 || off = 0x28 || (0x40 ≤ off && off < 0x60))

/-- A write that is discarded without effect by R324 or R347 (safe state), 15 R396, R252 (extension task) or the reach of
engines (10 R260). -/
def State.discards (s : State) (req : Requester) (p off : Nat) : Bool :=
  (s.flt.safe && (reqOutside req || req = .link || safeIgnored p off))
    || (reqEngine req && p = 0) || (s.extends req && p ≠ 0x1C && p ≠ 0x20)

/-- An offset that a lock protects (R459). -/
def lockedOffset (off : Nat) : Bool := off = 4 || (0x0C ≤ off && off ≤ 0x14) || 0x20 ≤ off

/-- The write reaches the fields: step 4 of R460; the result tells the first rejected offset. -/
def State.writeFields (s : State) (req : Requester) (p off w : Nat) : State × Option Nat :=
  if off < 0x20 then s.writeHeader p off w
  else if p = 0x19 && off = 0x20 then (s.writeCal req w, none)
  else
    let r := s.writeReg p off w
    (r.1, if r.2 then some off else none)

/-- The TEST page takes TEST.KEY while it is locked (17 R445). -/
def State.testKeyOpen (s : State) : Bool :=
  s.flag R.DEVICE_STRAPS_TESTEN && s.get R.DEVICE_BOOT_STAGE = 7 && !s.flag R.TEST_STAT_FUSED

/-- The electrodes of this device that are enabled: TX pins from 0, receive channels from 0x100. -/
def State.electrodesOn (s : State) : List Nat :=
  (List.range 160).filter s.txEn ++ ((List.range 96).filter fun c => s.flag (R.SLICE_CH_EN (c / 24) (c % 24))).map (0x100 + ·)

/-- A write of a page of the drive or a slice, whose enables change only while scanning stands still: the electrodes that it
enables are noted (06 R149). `old`: the state before. -/
def State.noteEnabled (s : State) (p : Nat) (old : State) : State :=
  if 0x10 ≤ p && p ≤ 0x14 then
    let new := s.electrodesOn.filter fun e => e ∉ old.electrodesOn
    { s with scan := { s.scan with enabled := new.foldl (fun l e => addOnce e l) s.scan.enabled } }
  else s

/-- A 32-bit write that commits through the register fabric: the checks of R460 in their order. -/
def State.fabricWrite (s : State) (req : Requester) (addr w : Nat) : State :=
  let p := addr / 256
  let off := addr % 256 / 4 * 4
  if !s.mayWrite req then s
  else if s.discards req p off then s
  else if reqOutside req && s.early && !earlyPage p then s.set R.DEVICE_BOOT_EARLYWR 1
  else if !pageAssigned p then s
  else if p = 0xF0 && !s.testOpen then
    if s.testKeyOpen && off = 0x20 then s.testKeyWrite (w % 65536) else s
  else if reqEngine req && !s.flag (R.PCTRL_EN p) then s
  else if s.flag (R.PLOCK_LOCKED p) && lockedOffset off then s.wrerr p off
  else
    let r := s.writeFields req p off w
    let t := r.1.noteEnabled p s
    match r.2 with
    | some o => t.wrerr p o
    | none => t

end Sys2Proof.Machine
end

