-- ==== Sys2Proof/Machine/HostPort.lean ====
section
/-!
DEFINITION. The host port's transactions (spec/12_host_port_queues_interrupts.md R316 to R328).
-/

namespace Sys2Proof.Machine

/-- The port answers (01 R34, 02 R50, R51). -/
def State.hostAnswers (s : State) : Bool := s.pd1 && s.sup.portReady && s.sup.vioGood

/-- What the device sends in a transaction. -/
def State.hostSends (s : State) (l : List Byte) : State := { s with host := { s.host with out := l } }

/-- At the end of a transaction its command and address become those of the last one, unless it has reset the device. -/
def State.hostEnds (s : State) (cmd : Nat) (addr : Option Nat) : State :=
  if !s.hostAnswers then s
  else
    let s := s.set R.HOSTPORT_STAT_LASTCMD cmd
    match addr with
    | some a => s.set R.HOSTPORT_STAT_LASTADDR a
    | none => s

/-- The next register of a transaction: after offset 0xFC comes 0x00 of the same page (R319). -/
def nextReg (addr : Nat) : Nat := addr / 256 * 256 + (addr + 4) % 256

/-- Commits every complete register of a data phase, in order (R320). -/
def State.hostCommits : Nat → State → Nat → List Byte → State
  | 0, s, _, _ => s
  | n + 1, s, addr, l =>
    if l.length < 4 then s
    else State.hostCommits n (s.fabricWrite .host addr (ofBytes (l.take 4))) (nextReg addr) (l.drop 4)

/-- The data bytes of a WRITE. -/
def State.hostData (s : State) (addr : Nat) (l : List Byte) : State := s.hostCommits (l.length / 4) addr l

/-- The status echo (R325). -/
def State.echo (s : State) : Byte := byteOf s.irqPend

/-- The queue whose window starts at an address. -/
def windowQueue (addr : Nat) : Option Nat :=
  if addr / 256 = 0x1B && 0x80 ≤ addr % 256 && addr % 256 < 0x90 then some ((addr % 256 - 0x80) / 4) else none

/-- `n` bytes of registers from an address on; `skip` bytes of the first register count as not delivered. A register's effect
comes with the delivery of its last byte (R321, R322). -/
def State.hostFetch : Nat → State → Nat → Nat → Nat → List Byte × State
  | 0, s, _, _, _ => ([], s)
  | k + 1, s, addr, n, late =>
    if n = 0 then ([], s)
    else
      let v := toBytes 4 (s.readReg (addr / 256) (addr % 256))
      let l := (List.replicate (min late 4) 0 ++ v.drop (min late 4)).take n
      let s := if 4 ≤ n && late < 4 then s.readFx (addr / 256) (addr % 256) else s
      let r := State.hostFetch k s (nextReg addr) (n - 4) (late - 4)
      (l ++ r.1, r.2)

/-- The data of a READ at an aligned address: a queue's stream, or registers. Of a queue, a byte that is not ready is sent
as 0x00 and stays at the head (R322, R328; log 42). -/
def State.hostStream (s : State) (addr n late : Nat) : List Byte × State :=
  match windowQueue addr with
  | some q =>
    let r := (s.queue q).deliver (n - late)
    (List.replicate (min late n) 0 ++ r.1, s.setQueue q r.2)
  | none => s.hostFetch (n / 4 + 1) addr n late

/-- HSCK cycles of the echo byte (R322). -/
def echoCycles (lanes : Nat) : Nat := if lanes = 0 then 8 else if lanes = 1 then 4 else 2

/-- DUMMY is too small for the clock: less than 160 ns from the address to the first data bit (R322). -/
def State.underrun (s : State) (kHz : Nat) : Bool :=
  (2 * (s.get R.HOSTPORT_CFG_DUMMY + echoCycles (s.get R.HOSTPORT_CFG_LANES)) + 1) * 1000000 < 320 * kHz

/-- A READ of `n` data bytes, of which the first `late` are not ready in time: none beyond the first register (R322). -/
def State.hostReads (s : State) (addr n late : Nat) : State :=
  let e := s.echo
  let late := min late 4
  if addr % 4 ≠ 0 then (s.sat R.HOSTPORT_ERR_ALIGN).hostSends (e :: List.replicate n 0)
  else
    let r := s.hostStream addr n late
    let t := if late = 0 || n = 0 then r.2 else r.2.sat R.HOSTPORT_ERR_UNDER
    t.hostSends (e :: r.1)

/-- A WRITE of data bytes. -/
def State.hostWrites (s : State) (addr : Nat) (l : List Byte) : State :=
  let s := s.hostSends []
  if addr % 4 ≠ 0 then s.sat R.HOSTPORT_ERR_ALIGN else s.hostData addr l

/-- HOSTPORT.CFG at its reset value (R317). -/
def State.hostCfgReset (s : State) : State := s.clear [R.HOSTPORT_CFG_LANES, R.HOSTPORT_CFG_CAW, R.HOSTPORT_CFG_DUMMY]

/-- A transaction that is cut counts when HCSn rises. -/
def State.hostCut (s : State) : State := if s.hostAnswers then s.sat R.HOSTPORT_ERR_CUT else s

/-- What a command byte selects (R316). -/
inductive HostCommand where
  | write | status | read | laneReset | bad
  deriving DecidableEq, Repr

/-- The command of a command byte; every other byte is a bad command (R316). -/
def hostCommand (code : Byte) : HostCommand :=
  if code = 0x02 then .write
  else if code = 0x04 then .status
  else if code = 0x0A then .read
  else if code = 0xFF then .laneReset
  else .bad

/-- The row of the table that a transaction with a command byte is (R316): its address, the bytes that the host sends, and
the `n` bytes that it clocks out. -/
def hostTransaction (code : Byte) (addr : Addr) (data : List Byte) (n hsckKHz late : Nat) : Instr :=
  match hostCommand code with
  | .write => .hostWrite addr data
  | .status => .hostStatus n
  | .read => .hostRead addr n hsckKHz late
  | .laneReset => .laneReset
  | .bad => .badCommand code

/-! ### Commands -/

/-- HOST_WRITE (R316, R319, R320). -/
def execHostWrite (addr : Addr) (data : List Byte) (s : State) : Host.Outcome State Fault Refusal :=
  onlyIf s.hostAnswers s ((s.hostWrites addr.toNat data).hostEnds 0x02 (some addr.toNat))

/-- HOST_READ (R316, R319, R321, R322) at `hsckKHz`; `late` tells how many bytes are not ready where DUMMY is too small. -/
def execHostRead (addr : Addr) (n hsckKHz late : Nat) (s : State) : Host.Outcome State Fault Refusal :=
  onlyIf s.hostAnswers s
    ((s.hostReads addr.toNat n (if s.underrun hsckKHz then late else 0)).hostEnds 0x0A (some addr.toNat))

/-- HOST_STATUS (R325). -/
def execHostStatus (n : Nat) (s : State) : Host.Outcome State Fault Refusal :=
  onlyIf s.hostAnswers s ((s.hostSends (List.replicate n s.echo)).hostEnds 0x04 none)

/-- LANE_RESET (R317). -/
def execLaneReset (s : State) : Host.Outcome State Fault Refusal :=
  onlyIf s.hostAnswers s ((s.hostCfgReset.hostSends []).hostEnds 0xFF none)

/-- BAD_COMMAND (R316), for a code that no command has. -/
def execBadCommand (code : Byte) (s : State) : Host.Outcome State Fault Refusal :=
  onlyIf (s.hostAnswers && hostCommand code = .bad) s
    (((s.sat R.HOSTPORT_ERR_BADCMD).hostSends []).hostEnds code.toNat none)

/-- TRANSACTION_CUT (R323): the header, or the bytes before the one that is cut. -/
def execTransactionCut (tx : CutTransaction) (s : State) : Host.Outcome State Fault Refusal :=
  onlyIf s.hostAnswers s
    (match tx with
      | .header => (s.hostSends []).hostCut
      | .write addr data => ((s.hostWrites addr.toNat data).hostEnds 0x02 (some addr.toNat)).hostCut
      | .read addr n kHz late =>
        ((s.hostReads addr.toNat n (if s.underrun kHz then late else 0)).hostEnds 0x0A (some addr.toNat)).hostCut
      | .status n => ((s.hostSends (List.replicate n s.echo)).hostEnds 0x04 none).hostCut)

end Sys2Proof.Machine
end

