-- ==== Sys2Proof/Machine/IsaArith.lean ====
section
/-!
DEFINITION. The three-operand instructions of Frarid-8, 0x00 to 0x1A (spec/11 R296).
-/

namespace Sys2Proof.Machine

/-- An instruction d = f(a, b) with flags. -/
def State.alu3 (s : State) (e : Nat) (w : Enc) (f : Byte → Byte → Byte → Res) : State :=
  s.issue e (.plain .d .s .s) w fun r =>
    let a := r.source e w.am w.a
    let b := a.2.source e w.bm w.b
    b.2.result e w (f (r.core e).fl a.1 b.1)

/-- An instruction of two sources without a destination. -/
def State.alu2 (s : State) (e : Nat) (w : Enc) (f : Run → Byte → Byte → Run) : State :=
  s.issue e (.plain .none .s .s) w fun r =>
    let a := r.source e w.am w.a
    let b := a.2.source e w.bm w.b
    f b.2 a.1 b.1

/-- A product leaves for MH:ML, seen from slot i + 4; a MAC is added there (10 R274, R275). -/
def Run.product (r : Run) (e v : Nat) (mac : Bool) : Run :=
  { r with s := r.s.setCore e fun c => { c with prods := c.prods ++ [⟨c.slot + 4, v % 65536, mac⟩] } }

/-- The signed product as 16 bits. -/
def mulSigned (a b : Byte) : Nat := unsigned16 (a.toInt * b.toInt)

/-- A divide is issued: it cancels a pending one, sets DZ and V, and with DZE a divisor of 0 traps (10 R276). -/
def Run.divide (r : Run) (e : Nat) (b : Byte) (v : Bool) (q : Byte × Byte) : Run :=
  let r := { r with s := r.s.setCore e fun c => { c with
    fl := divFlags c.fl b v, quot := some (c.slot + 10, q.1, q.2) } }
  if b = 0 && flag (r.core e).fl flDZE then r.fail 0x13 else r

/-- ADD: d = a + b. -/
def execIsaAdd (e : Fin 32) (w : Enc) (s : State) : Host.Outcome State Fault Refusal :=
  done s (s.alu3 e w fun fl a b => addRes fl a b 0)

/-- ADDC: d = a + b + C. -/
def execIsaAddc (e : Fin 32) (w : Enc) (s : State) : Host.Outcome State Fault Refusal :=
  done s (s.alu3 e w fun fl a b => addRes fl a b (carryIn fl))

/-- SUB: d = a - b. -/
def execIsaSub (e : Fin 32) (w : Enc) (s : State) : Host.Outcome State Fault Refusal :=
  done s (s.alu3 e w fun fl a b => subRes fl a b 0)

/-- SUBC: d = a - b - C with chained Z (R297). -/
def execIsaSubc (e : Fin 32) (w : Enc) (s : State) : Host.Outcome State Fault Refusal :=
  done s (s.alu3 e w fun fl a b => subcRes fl a b)

/-- AND: d = a AND b. -/
def execIsaAnd (e : Fin 32) (w : Enc) (s : State) : Host.Outcome State Fault Refusal :=
  done s (s.alu3 e w fun fl a b => logicRes fl (a &&& b))

/-- OR: d = a OR b. -/
def execIsaOr (e : Fin 32) (w : Enc) (s : State) : Host.Outcome State Fault Refusal :=
  done s (s.alu3 e w fun fl a b => logicRes fl (a ||| b))

/-- XOR: d = a XOR b. -/
def execIsaXor (e : Fin 32) (w : Enc) (s : State) : Host.Outcome State Fault Refusal :=
  done s (s.alu3 e w fun fl a b => logicRes fl (a ^^^ b))

/-- ANDN: d = a AND NOT b. -/
def execIsaAndn (e : Fin 32) (w : Enc) (s : State) : Host.Outcome State Fault Refusal :=
  done s (s.alu3 e w fun fl a b => logicRes fl (a &&& ~~~ b))

/-- MIN: the smaller, unsigned. -/
def execIsaMin (e : Fin 32) (w : Enc) (s : State) : Host.Outcome State Fault Refusal :=
  done s (s.alu3 e w fun fl a b => znRes fl (if a.toNat ≤ b.toNat then a else b))

/-- MAX: the larger, unsigned. -/
def execIsaMax (e : Fin 32) (w : Enc) (s : State) : Host.Outcome State Fault Refusal :=
  done s (s.alu3 e w fun fl a b => znRes fl (if a.toNat ≤ b.toNat then b else a))

/-- MINS: the smaller, signed. -/
def execIsaMins (e : Fin 32) (w : Enc) (s : State) : Host.Outcome State Fault Refusal :=
  done s (s.alu3 e w fun fl a b => znRes fl (if a.toInt ≤ b.toInt then a else b))

/-- MAXS: the larger, signed. -/
def execIsaMaxs (e : Fin 32) (w : Enc) (s : State) : Host.Outcome State Fault Refusal :=
  done s (s.alu3 e w fun fl a b => znRes fl (if a.toInt ≤ b.toInt then b else a))

/-- ADDS: signed saturating sum. -/
def execIsaAdds (e : Fin 32) (w : Enc) (s : State) : Host.Outcome State Fault Refusal :=
  done s (s.alu3 e w fun fl a b => satRes fl (a.toInt + b.toInt))

/-- SUBS: signed saturating difference. -/
def execIsaSubs (e : Fin 32) (w : Enc) (s : State) : Host.Outcome State Fault Refusal :=
  done s (s.alu3 e w fun fl a b => satRes fl (a.toInt - b.toInt))

/-- ADDUS: unsigned saturating sum. -/
def execIsaAddus (e : Fin 32) (w : Enc) (s : State) : Host.Outcome State Fault Refusal :=
  done s (s.alu3 e w fun fl a b => addusRes fl a b)

/-- SUBUS: unsigned saturating difference. -/
def execIsaSubus (e : Fin 32) (w : Enc) (s : State) : Host.Outcome State Fault Refusal :=
  done s (s.alu3 e w fun fl a b => subusRes fl a b)

/-- ABSD: |a - b|, unsigned. -/
def execIsaAbsd (e : Fin 32) (w : Enc) (s : State) : Host.Outcome State Fault Refusal :=
  done s (s.alu3 e w fun fl a b => absdRes fl a b)

/-- ABSDS: |a - b|, signed. -/
def execIsaAbsds (e : Fin 32) (w : Enc) (s : State) : Host.Outcome State Fault Refusal :=
  done s (s.alu3 e w fun fl a b => absdsRes fl a b)

/-- AVG: (a + b + 1) >> 1 in 9 bits. -/
def execIsaAvg (e : Fin 32) (w : Enc) (s : State) : Host.Outcome State Fault Refusal :=
  done s (s.alu3 e w fun fl a b => znRes fl (BitVec.ofNat 8 ((a.toNat + b.toNat + 1) / 2)))

/-- MUL: unsigned product into MH:ML. -/
def execIsaMul (e : Fin 32) (w : Enc) (s : State) : Host.Outcome State Fault Refusal :=
  done s (s.alu2 e w fun r a b => r.product e (a.toNat * b.toNat) false)

/-- MULS: signed product into MH:ML. -/
def execIsaMuls (e : Fin 32) (w : Enc) (s : State) : Host.Outcome State Fault Refusal :=
  done s (s.alu2 e w fun r a b => r.product e (mulSigned a b) false)

/-- MAC: signed product added into MH:ML. -/
def execIsaMac (e : Fin 32) (w : Enc) (s : State) : Host.Outcome State Fault Refusal :=
  done s (s.alu2 e w fun r a b => r.product e (mulSigned a b) true)

/-- DIV: MQ = a / b, MR = a mod b, unsigned. -/
def execIsaDiv (e : Fin 32) (w : Enc) (s : State) : Host.Outcome State Fault Refusal :=
  done s (s.alu2 e w fun r a b => r.divide e b false (divide a b))

/-- DIVS: signed divide; V only for -128 by -1. -/
def execIsaDivs (e : Fin 32) (w : Enc) (s : State) : Host.Outcome State Fault Refusal :=
  done s (s.alu2 e w fun r a b => r.divide e b (a = 0x80 && b = 0xFF) (divideS a b))

end Sys2Proof.Machine
end

