-- ==== Sys2Proof/Machine/IsaControl.lean ====
section
/-!
DEFINITION. The control instructions of Frarid-8, 0x80 to 0x98 (spec/11 R302 to R304, spec/10 R269, R284).
-/

namespace Sys2Proof.Machine

/-- A branch: taken or not, its delay slot follows. -/
def State.branch (s : State) (e : Nat) (w : Enc) (cond : Byte → Bool) : State :=
  s.issueFlow e (.flow .t) w fun r slot =>
    (r, .flow (if cond (r.core e).fl then some (r.target e w slot) else none) false)

/-- A near-page byte of the stack, `k` above SP, as it is visible. -/
def Run.stack (r : Run) (e k : Nat) : Byte := r.s.readPlace e (.ram (((r.core e).sp.toNat + k) % 256))

/-- SP moves up. -/
def Run.unstack (r : Run) (e k : Nat) : Run :=
  { r with s := r.s.setCore e fun c => { c with sp := c.sp + BitVec.ofNat 8 k } }

/-- The RET of an extension task: SP and the vector depth are those of its entry (09 R251). -/
def Engine.leavesExt (g : Engine) : Bool := g.xmode = some (g.core.sp, g.core.depth)

/-- JMP: continue at the target. -/
def execIsaJmp (e : Fin 32) (w : Enc) (s : State) : Host.Outcome State Fault Refusal :=
  done s (s.branch e w fun _ => true)

/-- CALL: push the address after the delay slot, high byte first; continue at the target. -/
def execIsaCall (e : Fin 32) (w : Enc) (s : State) : Host.Outcome State Fault Refusal :=
  done s (s.issueFlow e (.flow .t) w fun r slot =>
    let c := r.core e
    let hi := (c.sp.toNat + 255) % 256
    let lo := (c.sp.toNat + 254) % 256
    ({ r with s := r.s.setCore e fun c => { c with sp := c.sp - 2 } },
      .call (r.target e w slot) hi lo (c.slot + 3)))

/-- RET: pop the return address and continue there. -/
def execIsaRet (e : Fin 32) (w : Enc) (s : State) : Host.Outcome State Fault Refusal :=
  done s (s.issueFlow e (.flow .none) w fun r _ =>
    let t := BitVec.ofNat 16 ((r.stack e 0).toNat + 256 * (r.stack e 1).toNat)
    (r.unstack e 2, .flow (some t) (r.s.eng e).leavesExt))

/-- RETI: pop the frame of R283; it takes effect after the delay slot. -/
def execIsaReti (e : Fin 32) (w : Enc) (s : State) : Host.Outcome State Fault Refusal :=
  done s (s.issueFlow e (.flow .none) w fun r _ =>
    let pc := BitVec.ofNat 16 ((r.stack e 2).toNat + 256 * (r.stack e 3).toNat)
    (r.unstack e 4, .reti pc (r.stack e 1) (r.stack e 0)))

/-- BZ: branch if Z = 1. -/
def execIsaBz (e : Fin 32) (w : Enc) (s : State) : Host.Outcome State Fault Refusal :=
  done s (s.branch e w fun fl => condZ fl)

/-- BNZ: branch if Z = 0. -/
def execIsaBnz (e : Fin 32) (w : Enc) (s : State) : Host.Outcome State Fault Refusal :=
  done s (s.branch e w fun fl => !condZ fl)

/-- BC: branch if C = 1. -/
def execIsaBc (e : Fin 32) (w : Enc) (s : State) : Host.Outcome State Fault Refusal :=
  done s (s.branch e w fun fl => condC fl)

/-- BNC: branch if C = 0. -/
def execIsaBnc (e : Fin 32) (w : Enc) (s : State) : Host.Outcome State Fault Refusal :=
  done s (s.branch e w fun fl => !condC fl)

/-- BN: branch if N = 1. -/
def execIsaBn (e : Fin 32) (w : Enc) (s : State) : Host.Outcome State Fault Refusal :=
  done s (s.branch e w fun fl => condN fl)

/-- BNN: branch if N = 0. -/
def execIsaBnn (e : Fin 32) (w : Enc) (s : State) : Host.Outcome State Fault Refusal :=
  done s (s.branch e w fun fl => !condN fl)

/-- BV: branch if V = 1. -/
def execIsaBv (e : Fin 32) (w : Enc) (s : State) : Host.Outcome State Fault Refusal :=
  done s (s.branch e w fun fl => condV fl)

/-- BNV: branch if V = 0. -/
def execIsaBnv (e : Fin 32) (w : Enc) (s : State) : Host.Outcome State Fault Refusal :=
  done s (s.branch e w fun fl => !condV fl)

/-- BHI: branch if C = 0 and Z = 0. -/
def execIsaBhi (e : Fin 32) (w : Enc) (s : State) : Host.Outcome State Fault Refusal :=
  done s (s.branch e w fun fl => !condLS fl)

/-- BLS: branch if C = 1 or Z = 1. -/
def execIsaBls (e : Fin 32) (w : Enc) (s : State) : Host.Outcome State Fault Refusal :=
  done s (s.branch e w fun fl => condLS fl)

/-- BLT: branch if N ≠ V. -/
def execIsaBlt (e : Fin 32) (w : Enc) (s : State) : Host.Outcome State Fault Refusal :=
  done s (s.branch e w fun fl => condLT fl)

/-- BGE: branch if N = V. -/
def execIsaBge (e : Fin 32) (w : Enc) (s : State) : Host.Outcome State Fault Refusal :=
  done s (s.branch e w fun fl => !condLT fl)

/-- BGT: branch if Z = 0 and N = V. -/
def execIsaBgt (e : Fin 32) (w : Enc) (s : State) : Host.Outcome State Fault Refusal :=
  done s (s.branch e w fun fl => !condLE fl)

/-- BLE: branch if Z = 1 or N ≠ V. -/
def execIsaBle (e : Fin 32) (w : Enc) (s : State) : Host.Outcome State Fault Refusal :=
  done s (s.branch e w fun fl => condLE fl)

/-- DBX: X = X - 1; branch if the new X is not 0 (R304). -/
def execIsaDbx (e : Fin 32) (w : Enc) (s : State) : Host.Outcome State Fault Refusal :=
  done s (s.issueFlow e (.flow .t) w fun r slot =>
    let x := (r.core e).x - 1
    (r.setSpecial e 1 x, .flow (if x = 0 then none else some (r.target e w slot)) false))

end Sys2Proof.Machine
end

