-- ==== Sys2Proof/Machine/IsaCop.lean ====
section
/-!
DEFINITION. The coprocessors of Frarid-8: Quince and Sloe (spec/10 R279, R280; spec/11 R308 to R311).
-/

namespace Sys2Proof.Machine

/-- Distinct numbers of a list. -/
def distinct (l : List Nat) : List Nat := l.foldl (fun a n => if n ∈ a then a else a ++ [n]) []

/-- The 8-byte lines of frame memory that `n` bytes from data address p touch (11 R293). -/
def Engine.lines (g : Engine) (p n : Nat) : List Nat :=
  distinct ((List.range n).filterMap fun i =>
    match g.place (p + i) with
    | some (.frame a) => some (a / 8)
    | _ => none)

/-! ### Quince (R308, R309) -/

/-- A multi-byte source operand with its stalls; the data of a Quince operation never traps (R309; log 29). -/
def Run.wide (r : Run) (e p n : Nat) : Nat × Run :=
  (r.s.readWide e p n, ((r.s.eng e).lines p n).foldl (fun r l => r.cost e (some (.frame (8 * l)))) r)

/-- The places of the bytes written from data address p on, with the bytes. -/
def Engine.placed (g : Engine) (p : Nat) (bytes : List Byte) : List (Place × Byte) :=
  bytes.zipIdx.filterMap fun b => (g.place (p + b.2)).map fun q => (q, b.1)

/-- A write that XMODE refuses is suppressed and, where `traps`, traps with WPROT (09 R252; log 29). -/
def Run.guarded {α : Type} (r : Run) (e : Nat) (traps : Bool) (l : List (Place × α)) : List (Place × α) × Run :=
  let ok := l.filter fun p => (r.s.eng e).accepts p.1
  (ok, if ok.length < l.length && traps then r.fail 0x11 else r)

/-- A Quince operation leaves: it cancels the pending one, and writes its bytes after its latency (10 R280). -/
def Run.quince (r : Run) (e p latency : Nat) (bytes : List Byte) : Run :=
  let g := r.s.eng e
  let due := g.core.slot + latency
  let q := r.guarded e Config.quinceTraps (g.placed p bytes)
  let new := q.1.map fun b => Late.mk due b.1 b.2 true
  { q.2 with s := q.2.s.setEng e fun g => { g with
      core := { g.core with quince := some (g.core.slot, due) }
      late := new.foldl (fun l w => Late.place_ w l) (g.late.filter fun w => !w.quince) } }

/-- A Quince operation of two sources. -/
def State.quince2 (s : State) (e : Nat) (w : Enc) (na nb latency : Nat) (f : Nat → Nat → List Byte) : State :=
  s.issue e (.other .m .m .m) w fun r =>
    let pa := (r.addr e w.am w.a).1
    let pb := (r.addr e w.bm w.b).1
    let a := r.wide e pa na
    let b := a.2.wide e pb nb
    b.2.quince e (r.addr e w.dm w.d).1 latency (f a.1 b.1)

/-- Quotient, remainder and status. -/
def quotBytes (q r : Nat) (dz ovf : Bool) : List Byte := toBytes 2 q ++ toBytes 2 r ++ toBytes 1 (b2n dz + 2 * b2n ovf)

/-- QDIV and QDIVL: an unsigned dividend by a 16-bit divisor (R309). -/
def qdivRes (a b : Nat) : List Byte :=
  if b = 0 then quotBytes 0xFFFF (a % 65536) true false
  else if 0xFFFF < a / b then quotBytes 0xFFFF 0 false true
  else quotBytes (a / b) (a % b) false false

/-- QDIVS (R309). -/
def qdivsRes (a b : Nat) : List Byte :=
  let x := signed16 a
  let y := signed16 b
  if y = 0 then quotBytes 0xFFFF a true false
  else if x = -32768 && y = -1 then quotBytes 0x8000 0 false true
  else quotBytes (unsigned16 (x.tdiv y)) (unsigned16 (x.tmod y)) false false

/-- QATAN: some value within 1 unit of the exact angle (R308; log 8). -/
def qatanRes (a b : Nat) : Nat :=
  let x := signed16 a
  let y := signed16 b
  if x = 0 && y = 0 then 0
  else
    let l := angleNear x y
    l.getD (Config.qatanPick x y % max 1 l.length) 0

/-- QHYP: the integer part of the hypotenuse. -/
def qhypRes (a b : Nat) : Nat :=
  let x := signed16 a
  let y := signed16 b
  isqrt (x * x + y * y).toNat

/-- QDIV. -/
def execIsaQdiv (e : Fin 32) (w : Enc) (s : State) : Host.Outcome State Fault Refusal :=
  done s (s.quince2 e w 2 2 20 qdivRes)

/-- QDIVS. -/
def execIsaQdivs (e : Fin 32) (w : Enc) (s : State) : Host.Outcome State Fault Refusal :=
  done s (s.quince2 e w 2 2 20 qdivsRes)

/-- QDIVL. -/
def execIsaQdivl (e : Fin 32) (w : Enc) (s : State) : Host.Outcome State Fault Refusal :=
  done s (s.quince2 e w 4 2 36 qdivRes)

/-- QSQRT. -/
def execIsaQsqrt (e : Fin 32) (w : Enc) (s : State) : Host.Outcome State Fault Refusal :=
  done s (s.issue e (.other .m .m .none) w fun r =>
    let a := r.wide e (r.addr e w.am w.a).1 4
    a.2.quince e (r.addr e w.dm w.d).1 20 (toBytes 2 (isqrt a.1)))

/-- QATAN. -/
def execIsaQatan (e : Fin 32) (w : Enc) (s : State) : Host.Outcome State Fault Refusal :=
  done s (s.quince2 e w 2 2 24 fun a b => toBytes 2 (qatanRes a b))

/-- QHYP. -/
def execIsaQhyp (e : Fin 32) (w : Enc) (s : State) : Host.Outcome State Fault Refusal :=
  done s (s.quince2 e w 2 2 24 fun a b => toBytes 2 (qhypRes a b))

/-! ### Sloe (R310, R311) -/

/-- The data addresses of the elements of a row. -/
def sloeRow (a stride ncol row : Nat) : List Nat := (List.range ncol).map fun k => (a + row * stride + 2 * k) % 65536

/-- Cycles of the lines among them: stall + 1 for each. -/
def lineCycles (e : Nat) (l : List Nat) : Nat := sumNat (l.map fun a => stallOf e (some (.frame (8 * a))) + 1)

/-- Lines that a row's elements touch, of frame memory or of local RAM. -/
def Engine.rowCycles (g : Engine) (e : Nat) (row : List Nat) : Nat :=
  let bytes := row.flatMap fun a => [a, a + 1]
  let frame := distinct (bytes.filterMap fun a => match g.place a with | some (.frame f) => some (f / 8) | _ => none)
  let ram := distinct (bytes.filterMap fun a => match g.place a with | some (.ram f) => some (f / 8) | _ => none)
  lineCycles e frame + ram.length

/-- Cycles of an operation from its issue, with W its cycles for a destination of `n` bytes at d (R311). -/
def Engine.sloeTime (g : Engine) (e a ncol nrow stride w d n : Nat) : Nat :=
  8 + sumNat ((List.range nrow).map fun row => max ncol (g.rowCycles e (sloeRow a stride ncol row)))
    + w + lineCycles e (g.lines d n)

/-- The data addresses of `n` bytes from p on. -/
def span (p n : Nat) : List Nat := (List.range n).map fun i => (p + i) % 65536

/-- The descriptor of `n` bytes: a byte of it in 0x1000 to 0x1FFF reads as 0 and traps, as any data access (10 R259; R310
exempts elements and destination bytes). The operation that was pending is cancelled. -/
def Run.descriptor (r : Run) (e b n : Nat) : Run :=
  let r := { r with s := r.s.setCore e fun c => { c with sloe := none } }
  if (span b n).any fun a => ((r.s.eng e).place a).isNone then r.fail 0x10 else r

/-- The data addresses of the bytes of the elements. -/
def sloeBytes (a ncol nrow stride : Nat) : List Nat :=
  (List.range nrow).flatMap fun row => (sloeRow a stride ncol row).flatMap fun p => span p 2

/-- A Sloe operation leaves and completes after `cycles` (10 R280). `src` lists the data addresses that it reads; its `n`
result bytes go to d on. -/
def Run.sloe (r : Run) (e : Nat) (op : SloeOp) (ncol d n cycles : Nat) (src : List Nat) : Run :=
  let g := r.s.eng e
  let q := r.guarded e true ((List.range n).filterMap fun i => (g.place (d + i)).map fun p => (p, i))
  let read := src.map fun a => (g.place a, [r.s.readData e a])
  { q.2 with s := { q.2.s with free := q.2.s.free + 1 }.setCore e fun c => { c with
      sloe := some ⟨c.cyc + cycles, c.slot, q.2.s.free, op, ncol, q.1, read⟩ } }

/-- SPEAK. -/
def execIsaSpeak (e : Fin 32) (w : Enc) (s : State) : Host.Outcome State Fault Refusal :=
  done s (s.issue e (.other .m .m .m) w fun r =>
    let a := (r.addr e w.am w.a).1
    let b := (r.addr e w.bm w.b).1
    let d := (r.addr e w.dm w.d).1
    let r := r.descriptor e b 4
    let ncol := r.s.readWide e b 1
    let nrow := r.s.readWide e (b + 1) 1
    let stride := r.s.readWide e (b + 2) 2
    r.sloe e .peak ncol d 6 ((r.s.eng e).sloeTime e a ncol nrow stride 2 d 6) (sloeBytes a ncol nrow stride))

/-- A histogram, added to the counts that are there or to 0. -/
def Run.histogram (r : Run) (e : Nat) (w : Enc) (zero : Bool) : Run :=
  let a := (r.addr e w.am w.a).1
  let b := (r.addr e w.bm w.b).1
  let d := (r.addr e w.dm w.d).1
  let r := r.descriptor e b 8
  let ncol := r.s.readWide e b 1
  let nrow := r.s.readWide e (b + 1) 1
  let stride := r.s.readWide e (b + 2) 2
  let lo := signed16 (r.s.readWide e (b + 4) 2)
  let shift := r.s.readWide e (b + 6) 1
  let nbins := r.s.readWide e (b + 7) 1
  if 15 < shift || !([8, 16, 32].contains nbins) then r.sloe e .peak 0 d 0 8 []
  else
    r.sloe e (.hist zero lo shift nbins) ncol d (2 * nbins)
      ((r.s.eng e).sloeTime e a ncol nrow stride (if zero then nbins else 2 * nbins) d (2 * nbins))
      (sloeBytes a ncol nrow stride ++ if zero then [] else span d (2 * nbins))

/-- SHIST. -/
def execIsaShist (e : Fin 32) (w : Enc) (s : State) : Host.Outcome State Fault Refusal :=
  done s (s.issue e (.other .m .m .m) w fun r => r.histogram e w false)

/-- SHISTZ. -/
def execIsaShistz (e : Fin 32) (w : Enc) (s : State) : Host.Outcome State Fault Refusal :=
  done s (s.issue e (.other .m .m .m) w fun r => r.histogram e w true)

end Sys2Proof.Machine
end

