-- ==== Sys2Proof/Machine/ByteAccess.lean ====
section
/-!
DEFINITION. Byte-wise access to registers by an engine or the two-wire port: snapshots and held bytes
(spec/00_scope.md R13, spec/01_architecture.md R28).
-/

namespace Sys2Proof.Machine

/-- No register: the buffers' address while they hold nothing. -/
def noReg : Nat := 0x10000

/-- A byte of a snapshot. -/
def snapByte (v i : Nat) : Byte := byteOf (v >>> (8 * i))

/-- The snapshot of a register is taken. -/
def ByteBuf.take (b : ByteBuf) (reg v : Nat) : ByteBuf := { b with snapAddr := reg, snap := v }

/-- Byte `i` of a register is held; the held bytes of another register go (R28). -/
def ByteBuf.hold (b : ByteBuf) (reg i : Nat) (v : Byte) : ByteBuf :=
  { b with holdAddr := reg, held := aput i v.toNat (if b.holdAddr = reg then b.held else []) }

/-- The held bytes go. -/
def ByteBuf.drop (b : ByteBuf) : ByteBuf := { b with holdAddr := noReg, held := [] }

/-- The word that byte 3 commits: the bytes written, and for the others those of `now`, which keep the register's value
(R28). -/
def ByteBuf.word (b : ByteBuf) (reg now : Nat) (v : Byte) : Nat :=
  let held := if b.holdAddr = reg then b.held else []
  ofBytes ((List.range 3).map (fun i => byteOf (aget (snapByte now i).toNat i held)) ++ [v])

/-- The bits of fields in a word. -/
def fieldBits (l : List Fld) : Nat := l.foldl (fun a f => a ||| ((2 ^ f.width - 1) <<< f.lsb)) 0

/-- The W1C bits of a register; the device computes those of FAULT.STATUSi (17 R437). -/
def State.ackBits (s : State) (p off : Nat) : Nat :=
  if p = 0x04 && 0x40 ≤ off && off < 0x60 then 0xFFFFFFFF
  else fieldBits ((s.fieldsAt p off).filter fun f => f.acc = .w1c)

/-- The word whose write leaves a register as it is: its present value, with 0 where writing 1 would clear a bit (R28). -/
def State.keptWord (s : State) (reg : Nat) : Nat :=
  clearBits (s.readReg (reg / 256) (reg % 256)) (s.ackBits (reg / 256) (reg % 256))

/-! ### Engines (10 R260) -/

/-- An engine reads the byte of a register page: byte 0 takes the snapshot, with the effect of the read; a byte of a register
of which the engine holds no snapshot is a value that the spec leaves open (log 1). -/
def State.engineIn (s : State) (e a : Nat) : Byte × State :=
  let reg := a / 4 * 4
  let b := (s.eng e).buf
  if a % 4 = 0 then
    let r := s.fabricRead a
    (byteOf r.1, r.2.setEng e fun g => { g with buf := g.buf.take reg r.1 })
  else if b.snapAddr = reg then (snapByte b.snap (a % 4), s)
  else
    let r := s.takeFree
    (byteOf r.1, r.2)

/-- An engine writes a byte of a register page. -/
def State.engineOut (s : State) (e : Fin 32) (a : Nat) (v : Byte) : State :=
  let reg := a / 4 * 4
  let b := (s.eng e).buf
  if a % 4 ≠ 3 then s.setEng e fun g => { g with buf := g.buf.hold reg (a % 4) v }
  else
    (s.setEng e fun g => { g with buf := g.buf.drop }).fabricWrite (.engine e) reg
      (b.word reg (s.keptWord reg) v)

end Sys2Proof.Machine
end

