-- ==== Sys2Proof/Machine/IsaIo.lean ====
section
/-!
DEFINITION. IN and OUT of Frarid-8 (spec/10 R258, R260, spec/11 R305): engine-local ports in I/O page 0, register pages
above.
-/

namespace Sys2Proof.Machine

/-- The stall of an access to a register page (09 R231; log 25). -/
def pageStall : Nat := 24

/-- A register page is read or written. -/
def Run.onPage (r : Run) (s : State) : Run := { r with s := s, stall := r.stall + pageStall }

/-- IN from an I/O address. -/
def Run.input (r : Run) (e a : Nat) : Byte × Run :=
  if a < 0x100 then
    let q := r.s.readPort e a
    (q.1, { r with s := q.2 })
  else
    let q := r.s.engineIn e a
    (q.1, r.onPage q.2)

/-- The register pages that accept writes under XMODE (09 R252). -/
def extensionPage (p : Nat) : Bool := p = 0x1C || p = 0x20

/-- OUT to an I/O address; what XMODE refuses traps with WPROT. -/
def Run.output (r : Run) (e : Fin 32) (a : Nat) (v : Byte) : Run :=
  let g := r.s.eng e
  if a < 0x100 then
    if g.accepts (.port a) then
      { r with s := r.s.writePort e a v, stall := r.stall + r.s.portWait e a (r.now e) }
    else r.fail 0x11
  else if g.inExt && !extensionPage (a / 256) then r.fail 0x11
  else r.onPage (r.s.engineOut e a v)

/-- IN: d = byte at I/O address a. -/
def execIsaIn (e : Fin 32) (w : Enc) (s : State) : Host.Outcome State Fault Refusal :=
  done s (s.issue e (.other .d .io .none) w fun r =>
    let a := r.addr e w.am w.a
    let v := a.2.input e a.1
    v.2.dest e w.dm w.d v.1)

/-- OUT: byte a to I/O address d. -/
def execIsaOut (e : Fin 32) (w : Enc) (s : State) : Host.Outcome State Fault Refusal :=
  done s (s.issue e (.other .io .s .none) w fun r =>
    let a := r.source e w.am w.a
    let d := a.2.addr e w.dm w.d
    d.2.output e d.1 a.1)

end Sys2Proof.Machine
end

