-- ==== Sys2Proof/Machine/IsaMove.lean ====
section
/-!
DEFINITION. Moves, unary operations, compares, the stack, shifts and rotates of Frarid-8, 0x40 to 0x66 (spec/11 R298 to R300).
-/

namespace Sys2Proof.Machine

/-- An instruction d = f(a) with flags. -/
def State.unary (s : State) (e : Nat) (w : Enc) (f : Byte → Byte → Res) : State :=
  s.issue e (.plain .d .s .none) w fun r =>
    let a := r.source e w.am w.a
    a.2.result e w (f (r.core e).fl a.1)

/-- A compare: flags only. -/
def State.compare (s : State) (e : Nat) (w : Enc) (f : Byte → Byte → Byte → Res) : State :=
  s.alu2 e w fun r a b => r.flags e (f (r.core e).fl a b).fl

/-- MOV: d = a. -/
def execIsaMov (e : Fin 32) (w : Enc) (s : State) : Host.Outcome State Fault Refusal :=
  done s (s.unary e w fun fl a => ⟨a, fl⟩)

/-- NOT: d = NOT a. -/
def execIsaNot (e : Fin 32) (w : Enc) (s : State) : Host.Outcome State Fault Refusal :=
  done s (s.unary e w fun fl a => logicRes fl (~~~ a))

/-- NEG: d = 0 - a. -/
def execIsaNeg (e : Fin 32) (w : Enc) (s : State) : Host.Outcome State Fault Refusal :=
  done s (s.unary e w fun fl a => subRes fl 0 a 0)

/-- ABS: d = |a|. -/
def execIsaAbs (e : Fin 32) (w : Enc) (s : State) : Host.Outcome State Fault Refusal :=
  done s (s.unary e w fun fl a => absRes fl a)

/-- INC: d = a + 1. -/
def execIsaInc (e : Fin 32) (w : Enc) (s : State) : Host.Outcome State Fault Refusal :=
  done s (s.unary e w fun fl a => addRes fl a 1 0)

/-- DEC: d = a - 1. -/
def execIsaDec (e : Fin 32) (w : Enc) (s : State) : Host.Outcome State Fault Refusal :=
  done s (s.unary e w fun fl a => subRes fl a 1 0)

/-- SGN: sign extension of bit 7. -/
def execIsaSgn (e : Fin 32) (w : Enc) (s : State) : Host.Outcome State Fault Refusal :=
  done s (s.unary e w fun fl a => znRes fl (if a.msb then 0xFF else 0))

/-- SWAP: nibbles exchanged. -/
def execIsaSwap (e : Fin 32) (w : Enc) (s : State) : Host.Outcome State Fault Refusal :=
  done s (s.unary e w fun fl a => znRes fl (a.rotateLeft 4))

/-- CLZ: leading zero bits. -/
def execIsaClz (e : Fin 32) (w : Enc) (s : State) : Host.Outcome State Fault Refusal :=
  done s (s.unary e w fun fl a => znRes fl (BitVec.ofNat 8 (clz a)))

/-- POPC: one bits. -/
def execIsaPopc (e : Fin 32) (w : Enc) (s : State) : Host.Outcome State Fault Refusal :=
  done s (s.unary e w fun fl a => znRes fl (BitVec.ofNat 8 (popc a)))

/-- LDI: d = a byte of instruction space; one extra cycle (R307). -/
def execIsaLdi (e : Fin 32) (w : Enc) (s : State) : Host.Outcome State Fault Refusal :=
  done s (s.issue e (.plain .d .ia .none) w fun r =>
    let p := r.addr e w.am w.a
    ({ p.2 with stall := p.2.stall + 1 }).dest e w.dm w.d (Memory.read s.iram p.1))

/-- CMP: flags of a - b. -/
def execIsaCmp (e : Fin 32) (w : Enc) (s : State) : Host.Outcome State Fault Refusal :=
  done s (s.compare e w fun fl a b => subRes fl a b 0)

/-- CMPC: flags of a - b - C with chained Z. -/
def execIsaCmpc (e : Fin 32) (w : Enc) (s : State) : Host.Outcome State Fault Refusal :=
  done s (s.compare e w fun fl a b => subcRes fl a b)

/-- TST: flags of a AND b. -/
def execIsaTst (e : Fin 32) (w : Enc) (s : State) : Host.Outcome State Fault Refusal :=
  done s (s.compare e w fun fl a b => logicRes fl (a &&& b))

/-- PUSH: SP = SP - 1, and the near-page byte there is a (R299). -/
def execIsaPush (e : Fin 32) (w : Enc) (s : State) : Host.Outcome State Fault Refusal :=
  done s (s.issue e (.plain .none .s .none) w fun r =>
    let a := r.source e w.am w.a
    let sp := (r.core e).sp - 1
    (a.2.store e sp.toNat a.1).setSpecial e 2 sp)

/-- POP: d = the near-page byte at SP, SP = SP + 1 (R299). -/
def execIsaPop (e : Fin 32) (w : Enc) (s : State) : Host.Outcome State Fault Refusal :=
  done s (s.issue e (.plain .d .none .none) w fun r =>
    let sp := (r.core e).sp
    let a := r.data e sp.toNat
    (a.2.setSpecial e 2 (sp + 1)).dest e w.dm w.d a.1)

/-- SHL: shift or rotate of a by b (R300). -/
def execIsaShl (e : Fin 32) (w : Enc) (s : State) : Host.Outcome State Fault Refusal :=
  done s (s.alu3 e w fun fl a b => shlRes fl a b)

/-- SHR: shift or rotate of a by b (R300). -/
def execIsaShr (e : Fin 32) (w : Enc) (s : State) : Host.Outcome State Fault Refusal :=
  done s (s.alu3 e w fun fl a b => shrRes fl a b)

/-- SAR: shift or rotate of a by b (R300). -/
def execIsaSar (e : Fin 32) (w : Enc) (s : State) : Host.Outcome State Fault Refusal :=
  done s (s.alu3 e w fun fl a b => sarRes fl a b)

/-- ROL: shift or rotate of a by b (R300). -/
def execIsaRol (e : Fin 32) (w : Enc) (s : State) : Host.Outcome State Fault Refusal :=
  done s (s.alu3 e w fun fl a b => rolRes fl a b)

/-- ROR: shift or rotate of a by b (R300). -/
def execIsaRor (e : Fin 32) (w : Enc) (s : State) : Host.Outcome State Fault Refusal :=
  done s (s.alu3 e w fun fl a b => rorRes fl a b)

/-- RLC: shift or rotate of a by b (R300). -/
def execIsaRlc (e : Fin 32) (w : Enc) (s : State) : Host.Outcome State Fault Refusal :=
  done s (s.alu3 e w fun fl a b => rlcRes fl a b)

/-- RRC: shift or rotate of a by b (R300). -/
def execIsaRrc (e : Fin 32) (w : Enc) (s : State) : Host.Outcome State Fault Refusal :=
  done s (s.alu3 e w fun fl a b => rrcRes fl a b)

end Sys2Proof.Machine
end

