-- ==== Sys2Proof/Machine/Opcodes.lean ====
section
/-!
DEFINITION. The opcode map of Frarid-8 and the decoding of an instruction's bytes into the command that runs it (spec/11
R291, R292, R296 to R310; spec/10 R263, R265).
-/

namespace Sys2Proof.Machine

/-- One defined opcode: its byte, the classes of its positions, and the command of the instruction. -/
structure Opcode where
  byte : Nat
  shape : Shape
  cmd : Fin 32 → Enc → Instr

/-- The arithmetic block, 0x00 to 0x1A: d, a, b; the multiplier and the divider have no destination. -/
def arithOpcodes : List Opcode :=
  let alu := Shape.plain .d .s .s
  let mul := Shape.plain .none .s .s
  [⟨0x00, alu, .isaAdd⟩, ⟨0x01, alu, .isaAddc⟩, ⟨0x02, alu, .isaSub⟩, ⟨0x03, alu, .isaSubc⟩, ⟨0x04, alu, .isaAnd⟩,
   ⟨0x05, alu, .isaOr⟩, ⟨0x06, alu, .isaXor⟩, ⟨0x07, alu, .isaAndn⟩, ⟨0x08, alu, .isaMin⟩, ⟨0x09, alu, .isaMax⟩,
   ⟨0x0A, alu, .isaMins⟩, ⟨0x0B, alu, .isaMaxs⟩, ⟨0x0C, alu, .isaAdds⟩, ⟨0x0D, alu, .isaSubs⟩, ⟨0x0E, alu, .isaAddus⟩,
   ⟨0x0F, alu, .isaSubus⟩, ⟨0x10, mul, .isaMul⟩, ⟨0x11, mul, .isaMuls⟩, ⟨0x12, mul, .isaMac⟩, ⟨0x13, mul, .isaDiv⟩,
   ⟨0x14, mul, .isaDivs⟩, ⟨0x18, alu, .isaAbsd⟩, ⟨0x19, alu, .isaAbsds⟩, ⟨0x1A, alu, .isaAvg⟩]

/-- Moves, compares, the stack, shifts and rotates, 0x40 to 0x66. -/
def moveOpcodes : List Opcode :=
  let un := Shape.plain .d .s .none
  let cmp := Shape.plain .none .s .s
  let sh := Shape.plain .d .s .s
  [⟨0x40, un, .isaMov⟩, ⟨0x41, un, .isaNot⟩, ⟨0x42, un, .isaNeg⟩, ⟨0x43, un, .isaAbs⟩, ⟨0x44, un, .isaInc⟩,
   ⟨0x45, un, .isaDec⟩, ⟨0x46, un, .isaSgn⟩, ⟨0x47, un, .isaSwap⟩, ⟨0x48, un, .isaClz⟩, ⟨0x49, un, .isaPopc⟩,
   ⟨0x4A, .plain .d .ia .none, .isaLdi⟩, ⟨0x50, cmp, .isaCmp⟩, ⟨0x51, cmp, .isaCmpc⟩, ⟨0x52, cmp, .isaTst⟩,
   ⟨0x54, .plain .none .s .none, .isaPush⟩, ⟨0x55, .plain .d .none .none, .isaPop⟩, ⟨0x60, sh, .isaShl⟩,
   ⟨0x61, sh, .isaShr⟩, ⟨0x62, sh, .isaSar⟩, ⟨0x63, sh, .isaRol⟩, ⟨0x64, sh, .isaRor⟩, ⟨0x65, sh, .isaRlc⟩,
   ⟨0x66, sh, .isaRrc⟩]

/-- The control instructions, 0x80 to 0x98. -/
def flowOpcodes : List Opcode :=
  let t := Shape.flow .t
  [⟨0x80, t, .isaJmp⟩, ⟨0x81, t, .isaCall⟩, ⟨0x82, .flow .none, .isaRet⟩, ⟨0x83, .flow .none, .isaReti⟩, ⟨0x88, t, .isaBz⟩,
   ⟨0x89, t, .isaBnz⟩, ⟨0x8A, t, .isaBc⟩, ⟨0x8B, t, .isaBnc⟩, ⟨0x8C, t, .isaBn⟩, ⟨0x8D, t, .isaBnn⟩, ⟨0x8E, t, .isaBv⟩,
   ⟨0x8F, t, .isaBnv⟩, ⟨0x90, t, .isaBhi⟩, ⟨0x91, t, .isaBls⟩, ⟨0x92, t, .isaBlt⟩, ⟨0x93, t, .isaBge⟩, ⟨0x94, t, .isaBgt⟩,
   ⟨0x95, t, .isaBle⟩, ⟨0x98, t, .isaDbx⟩]

/-- I/O, atomics, prefixes, the coprocessors and BRK, 0xA0 to 0xFF. -/
def systemOpcodes : List Opcode :=
  let q := Shape.other .m .m .m
  [⟨0xA0, .other .none .none .none, .isaNop⟩, ⟨0xA1, .other .d .io .none, .isaIn⟩, ⟨0xA2, .other .io .s .none, .isaOut⟩,
   ⟨0xB0, .other .d .a .none, .isaLdrs⟩, ⟨0xB1, .other .a .s .none, .isaStcd⟩, ⟨0xB8, .prefix_, .isaRep⟩,
   ⟨0xB9, .prefix_, .isaRepi⟩, ⟨0xC0, q, .isaQdiv⟩, ⟨0xC1, q, .isaQdivs⟩, ⟨0xC2, q, .isaQdivl⟩,
   ⟨0xC3, .other .m .m .none, .isaQsqrt⟩, ⟨0xC4, q, .isaQatan⟩, ⟨0xC5, q, .isaQhyp⟩, ⟨0xD0, q, .isaSpeak⟩,
   ⟨0xD1, q, .isaShist⟩, ⟨0xD2, q, .isaShistz⟩, ⟨0xFF, .other .none .none .none, .isaBrk⟩]

/-- The opcode map (11 R291). -/
def opcodeMap : List Opcode := arithOpcodes ++ moveOpcodes ++ flowOpcodes ++ systemOpcodes

/-- The operand of a position from the bytes that follow, and what follows it (10 R263). -/
def takeOperand (p : Pos) (mode : Nat) (l : List Byte) : BitVec 16 × List Byte :=
  let n := operandLen p mode
  (BitVec.ofNat 16 (ofBytes (l.take n)), l.drop n)

/-- The instruction that bytes spell on engine e; an opcode that is not defined is the command that traps. Bytes beyond those
given read as 0. -/
def decodeIsa (e : Fin 32) : List Byte → Option Instr
  | op :: m1 :: m2 :: l =>
    match opcodeMap.find? fun o => o.byte = op.toNat with
    | some o =>
      let dm := m1.extractLsb' 4 4
      let am := m1.extractLsb' 0 4
      let bm := m2.extractLsb' 4 4
      let d := takeOperand o.shape.d dm.toNat l
      let a := takeOperand o.shape.a am.toNat d.2
      let b := takeOperand o.shape.b bm.toNat a.2
      some (o.cmd e ⟨dm, am, bm, m2.extractLsb' 0 4, d.1, a.1, b.1⟩)
    | none => some (.isaIllegalOpcode e op)
  | _ => none

/-- The instruction at the PC of engine e: at most 9 bytes of instruction space, which wraps (10 R258). -/
def State.fetchIsa (s : State) (e : Fin 32) : Option Instr :=
  decodeIsa e ((List.range 9).map fun i => Memory.read s.iram (((s.eng e).core.pc.toNat + i) % 65536))

end Sys2Proof.Machine
end

