-- ==== Sys2Proof/Machine/IsaSystem.lean ====
section
/-!
DEFINITION. NOP, the atomics, the repeat prefixes, BRK and the reserved opcodes of Frarid-8 (spec/11 R291, R305, R306;
spec/10 R271, R277).
-/

namespace Sys2Proof.Machine

/-- NOP: 3 bytes, no effect. -/
def execIsaNop (e : Fin 32) (w : Enc) (s : State) : Host.Outcome State Fault Refusal :=
  done s (s.issue e (.other .none .none .none) w fun r => r)

/-- The execution causes of an atomic instruction below 0x2000, which has no effect: ATOMADDR, and those that its other
accesses meet (10 R277, 11 R294). -/
def Run.atomFault (r tried : Run) : Run := { r with causes := 0x12 :: tried.causes }

/-- The reservation of engine e covers a frame address, and its 64 cycles have not passed at a cycle (10 R277, R278). -/
def Core.covers (c : Core) (a now : Nat) : Bool :=
  match c.rsv with
  | some (l, at_) => l = a / 8 && now < at_ + 64
  | none => false

/-- The queue whose control line holds a frame address. -/
def ringQueue (a : Nat) : Option Nat :=
  let o := a % 0x40000
  if 0x30000 ≤ o && o < 0x30040 then some (8 * (a / 0x40000) + (o - 0x30000) / 8) else none

/-- LDRS: the byte at a, and its line is reserved. -/
def Run.ldrs (r : Run) (e : Nat) (w : Enc) : Run :=
  let p := r.addr e w.am w.a
  let v := p.2.data e p.1
  match (r.s.eng e).place p.1 with
  | some (.frame f) =>
    let t := { v.2 with s := v.2.s.setCore e fun c => { c with rsv := some (f / 8, c.cyc) } }
    t.dest e w.dm w.d v.1
  | _ => r.atomFault (v.2.dest e w.dm w.d v.1)

/-- LDRS. -/
def execIsaLdrs (e : Fin 32) (w : Enc) (s : State) : Host.Outcome State Fault Refusal :=
  done s (s.issue e (.other .d .a .none) w fun r => r.ldrs e w)

/-- The conditional store proper: the byte reaches frame memory at once, the engine itself reads it from slot i + 3. What
it removes from a queue of the work ring is TAKEN (09 R241, R243). -/
def State.condStore (s : State) (e f : Nat) (v : Byte) : State :=
  let old := Memory.read s.fmem f
  let s := s.setEng e fun g => { g with hidden := g.hidden ++ [(g.core.slot + 3, f, old)] }
  match ringQueue f with
  | some q => (s.frameWrite e f [v]).takeGone e q (s.live q)
  | none => s.frameWrite e f [v]

/-- STCD: it waits until the write buffer is empty, then accesses; a is stored only under the reservation, which ends. -/
def Run.stcd (r : Run) (e : Nat) (w : Enc) : Run :=
  let a := r.source e w.am w.a
  let p := a.2.addr e w.dm w.d
  match (r.s.eng e).place p.1 with
  | some (.frame f) =>
    let t := { p.2 with stall := p.2.stall + (p.2.s.eng e).emptyWait (p.2.now e) }
    let ok := (r.s.eng e).accepts (.frame f)
    let stored := ok && (r.core e).covers f (t.now e)
    let t := t.cost e (some (.frame f))
    let t := if ok then t else t.fail 0x11
    let s := t.s.drain e
    let s := if stored then s.condStore e f a.1 else s
    { t with s := s.setCore e fun c => { c with rsv := none, fl := putFl c.fl flZ stored } }
  | _ => r.atomFault (p.2.store e p.1 a.1)

/-- STCD. -/
def execIsaStcd (e : Fin 32) (w : Enc) (s : State) : Host.Outcome State Fault Refusal :=
  done s (s.issue e (.other .a .s .none) w fun r => r.stcd e w)

/-- REP. -/
def execIsaRep (e : Fin 32) (w : Enc) (s : State) : Host.Outcome State Fault Refusal := done s (s.issuePrefix e w false)

/-- REPI. -/
def execIsaRepi (e : Fin 32) (w : Enc) (s : State) : Host.Outcome State Fault Refusal := done s (s.issuePrefix e w true)

/-- BRK (11 R306): with BRKEN it halts the engine before it issues, and issues without effect when the engine goes on;
else it traps. -/
def State.issueBrk (s : State) (e : Nat) (w : Enc) : State :=
  let goes := (s.eng e).pass || (s.eng e).state = .halted
  let sh := Shape.other .none .none .none
  s.atBoundary e fun s =>
    let c := (s.eng e).core
    match c.pre with
    | some p => s.encodingTrap e 0x08 p.pc (sh.len w)
    | none =>
      match sh.check w with
      | some err => s.encodingTrap e err.2 c.pc (sh.len w)
      | none =>
        if !s.flag (R.ENG_CTL_BRKEN e) then s.single e (sh.len w) fun r => r.fail 0x14
        else if goes then s.single e (sh.len w) fun r => r
        else ((s.haltEng e).setEng e fun g => { g with brk := true }).set (R.ENG_CTL_HALT e) 1

/-- BRK. -/
def execIsaBrk (e : Fin 32) (w : Enc) (s : State) : Host.Outcome State Fault Refusal := done s (s.issueBrk e w)

/-- The defined opcodes (11 R291). -/
def definedOpcodes : List Nat := opcodeMap.map Opcode.byte

/-- ILLEGAL_OPCODE: a reserved opcode traps with ILLOP, one of slot 2 with COP_ABSENT. -/
def execIsaIllegalOpcode (e : Fin 32) (op : Byte) (s : State) : Host.Outcome State Fault Refusal :=
  onlyIf (decide (op.toNat ∉ definedOpcodes)) s (s.issueIllegal e op)

end Sys2Proof.Machine
end

