-- ==== Sys2Proof/Machine/Packets.lean ====
section
/-!
DEFINITION. The packets that a port receives, remote accesses to this device among them (spec/14 R360, R361, R381), and the
commands of the fault collector itself (spec/17 R434, R443).
-/

namespace Sys2Proof.Machine

/-- A remote access of ROOT to this member (R381): 1 READ, 2 WRITE, 3 RESET. In the fault safe state a write is not taken (R381),
while a reset restarts the device (03 R64). -/
def State.remoteAccess (s : State) (op addr data : Nat) : State :=
  let pos := s.panel.pos
  if pos = 0 || (s.flt.safe && op = 2) then s
  else
    match op with
    | 1 =>
      let r := s.fabricRead addr
      r.2.send (.access 1 pos addr r.1)
    | 2 => (s.fabricWrite .link addr data).send (.access 2 pos addr 0)
    | 3 => s.deviceReset R.DEVICE_RSTCAUSE_LINK s.sup.pins
    | _ => s

/-- What a port receives takes effect. In the fault safe state the link itself goes on: errors count, and packets for other
devices are forwarded (01 R34; log 114). -/
def State.arrives (s : State) (port : Nat) (rx : Rx) : State :=
  match rx with
  | .good (.access op addr data all) =>
    (s.heardOn port (.access op addr data all)).remoteAccess op.val addr.toNat data.toNat
  | .good (.other d) => s.receive port (.good (.other d))
  | .good p => if s.flt.safe then s.heardOn port p else s.receive port (.good p)
  | e => s.receive port e

/-- A port is up. -/
def State.portUp (s : State) (port : Nat) : Bool := s.pd1 && s.get (portState port) = 2

/-! ### Commands -/

/-- PACKET_RECEIVE (14 R360, R361, R381). -/
def execPacketReceive (port : Fin 2) (rx : Rx) (s : State) : Host.Outcome State Fault Refusal :=
  onlyIf (s.portUp port) s (s.arrives port rx)

/-- NAK (14 R361), of a packet that has been sent `sends` times. -/
def execNak (port : Fin 2) (sends : Nat) (s : State) : Host.Outcome State Fault Refusal :=
  onlyIf (s.portUp port) s (s.resend port sends)

/-- FAULT_MESSAGE_ACCEPT (17 R434). -/
def execFaultMessageAccept (s : State) : Host.Outcome State Fault Refusal := onlyIf s.collectorRuns s s.collect

/-- COLLECTOR_PARITY (17 R443): the safe state first, then the message, which an empty first-fault record takes. -/
def execCollectorParity (offset : BitVec 8) (s : State) : Host.Outcome State Fault Refusal :=
  onlyIf s.collectorRuns s (s.enterSafe.onset Kind.collectorParity 0 offset.toNat 0)

end Sys2Proof.Machine
end

