-- ==== Sys2Proof/Machine/RegisterCommands.lean ====
section
/-!
DEFINITION. The commands that are one write of a register through the fabric; each forms the word that the command stands
for and keeps the other fields of the register. Rules: the one that the row of spec/opcode_table.json names, and R460.
-/

namespace Sys2Proof.Machine

/-- The RW fields of a register as they stand: what a write repeats to leave them alone. -/
def State.keepWord (s : State) (addr : Nat) : Nat :=
  (s.fieldsAt (addr / 256) (addr % 256)).foldl (fun a f => if f.acc = .rw then a ||| ((s.get f % 2 ^ f.width) <<< f.lsb) else a) 0

/-- A command written to a register that has no other field to keep. -/
def State.command (s : State) (req : Requester) (addr w : Nat) : Host.Outcome State Fault Refusal :=
  done s (s.fabricWrite req addr w)

/-- A command bit written beside fields that keep their values. -/
def State.commandKeep (s : State) (req : Requester) (addr w : Nat) : Host.Outcome State Fault Refusal :=
  done s (s.fabricWrite req addr (s.keepWord addr ||| w))

/-- A read by a requester: an engine takes its snapshot, and the effect of the read comes about. -/
def State.readBy (s : State) (req : Requester) (addr : Nat) : State :=
  if !s.mayWrite req || (reqEngine req && addr < 0x100) then s
  else
    let r := s.fabricRead addr
    match req with
    | .engine e => r.2.setEng e fun g => { g with buf := { g.buf with snapAddr := addr, snap := r.1 } }
    | _ => r.2

/-- Address of a register of an engine's page. -/
def engAddr (e off : Nat) : Nat := 0x3000 + 256 * e + off

/-! ### DEVICE, PWR, CLOCK -/

/-- REGISTER_WRITE (00 R9, 18 R460). -/
def execRegisterWrite (req : Requester) (addr : Addr) (word : Word) (s : State) : Host.Outcome State Fault Refusal :=
  s.command req addr.toNat word.toNat

/-- RSTCMD_RESET (03 R63). -/
def execRstcmdReset (req : Requester) (go : Bool) (key : BitVec 16) (s : State) : Host.Outcome State Fault Refusal :=
  s.command req 0x0030 (b2n go + 65536 * key.toNat)

/-- PWR_NOP (16 R404). -/
def execPwrNop (req : Requester) (key : BitVec 16) (s : State) : Host.Outcome State Fault Refusal :=
  s.command req 0x0120 (65536 * key.toNat)

/-- WATCH (16 R404, R405). -/
def execWatch (req : Requester) (retain : Bool) (key : BitVec 16) (s : State) : Host.Outcome State Fault Refusal :=
  s.command req 0x0120 (1 + 256 * b2n retain + 65536 * key.toNat)

/-- HALT (16 R404, R405, R413). -/
def execHalt (req : Requester) (retain lfstop : Bool) (key : BitVec 16) (s : State) : Host.Outcome State Fault Refusal :=
  s.command req 0x0120 (2 + 256 * b2n retain + 512 * b2n lfstop + 65536 * key.toNat)

/-- WAKESTAT_CLEAR (16 R412). -/
def execWakestatClear (req : Requester) (bits : BitVec 4) (s : State) : Host.Outcome State Fault Refusal :=
  s.command req 0x0130 bits.toNat

/-- TBSTAT_ACK (16 R421). -/
def execTbstatAck (req : Requester) (s : State) : Host.Outcome State Fault Refusal := s.command req 0x0228 0x100

/-- TBLO_READ (16 R422). -/
def execTbloRead (req : Requester) (s : State) : Host.Outcome State Fault Refusal := done s (s.readBy req 0x0220)

/-! ### NVS -/

/-- A write of NVS.CMD. -/
def nvsWord (op : Nat) (key : BitVec 16) : Nat := op + 65536 * key.toNat

/-- NVS_NOP (03 R81). -/
def execNvsNop (req : Requester) (key : BitVec 16) (s : State) : Host.Outcome State Fault Refusal :=
  s.command req 0x0320 (nvsWord 0 key)

/-- READ_LINE (03 R81). -/
def execReadLine (req : Requester) (access : NvsAccess) (s : State) : Host.Outcome State Fault Refusal :=
  (s.flip access.flips).command req 0x0320 (nvsWord 1 access.key)

/-- PROGRAM_LINE (03 R82). -/
def execProgramLine (req : Requester) (key : BitVec 16) (s : State) : Host.Outcome State Fault Refusal :=
  s.command req 0x0320 (nvsWord 2 key)

/-- VERIFY_BANK (03 R81). -/
def execVerifyBank (req : Requester) (access : NvsAccess) (s : State) : Host.Outcome State Fault Refusal :=
  (s.flip access.flips).command req 0x0320 (nvsWord 3 access.key)

/-- CONFIRM (03 R80). -/
def execConfirm (req : Requester) (key : BitVec 16) (s : State) : Host.Outcome State Fault Refusal :=
  s.command req 0x0320 (nvsWord 4 key)

/-- SAVE_CONFIG (03 R84). -/
def execSaveConfig (req : Requester) (key : BitVec 16) (s : State) : Host.Outcome State Fault Refusal :=
  s.command req 0x0320 (nvsWord 5 key)

/-- INVALIDATE_BANK (03 R81). -/
def execInvalidateBank (req : Requester) (key : BitVec 16) (s : State) : Host.Outcome State Fault Refusal :=
  s.command req 0x0320 (nvsWord 6 key)

/-- NVS_CORRCLR (03 R81). -/
def execNvsCorrclr (req : Requester) (s : State) : Host.Outcome State Fault Refusal := s.command req 0x0328 8

/-! ### FAULT and TEST -/

/-- STATUS_CLEAR (17 R437). -/
def execStatusClear (req : Requester) (i : Fin 8) (bits : Word) (s : State) : Host.Outcome State Fault Refusal :=
  s.command req (0x0440 + 4 * i) bits.toNat

/-- FIRSTCLR (17 R436). -/
def execFirstclr (req : Requester) (s : State) : Host.Outcome State Fault Refusal := s.commandKeep req 0x0420 0x100

/-- LOGCLR (17 R435). -/
def execLogclr (req : Requester) (key : BitVec 16) (s : State) : Host.Outcome State Fault Refusal :=
  s.commandKeep req 0x0420 (0x200 + 65536 * key.toNat)

/-- SELFTEST_NOP (17 R448). -/
def execSelftestNop (req : Requester) (s : State) : Host.Outcome State Fault Refusal := s.command req 0x0498 0

/-- FULL_TEST (17 R447, R448). -/
def execFullTest (req : Requester) (s : State) : Host.Outcome State Fault Refusal := s.command req 0x0498 1

/-- QUICK_TEST (17 R447): on command, or as its period has passed. -/
def execQuickTest (via : Option Requester) (s : State) : Host.Outcome State Fault Refusal :=
  match via with
  | some req => s.command req 0x0498 2
  | none => onlyIf s.quickDue s s.quickPeriod

/-- SELFTEST_ABORT (17 R448). -/
def execSelftestAbort (req : Requester) (s : State) : Host.Outcome State Fault Refusal := s.command req 0x0498 3

/-- RXMASK_CLEAR (17 R451). -/
def execRxmaskClear (req : Requester) (i : Fin 3) (bits : Word) (s : State) : Host.Outcome State Fault Refusal :=
  s.command req (0x04F0 + 4 * i) bits.toNat

/-- TEST_KEY (17 R445). -/
def execTestKey (req : Requester) (value : BitVec 16) (s : State) : Host.Outcome State Fault Refusal :=
  s.command req 0xF020 value.toNat

/-- FUSE (17 R445). -/
def execFuse (req : Requester) (value : BitVec 16) (s : State) : Host.Outcome State Fault Refusal :=
  s.command req 0xF030 value.toNat

/-- INJ_GO (17 R446); the address and the detail are those of TEST.INJAD. -/
def execInjGo (req : Requester) (src kind : BitVec 8) (sev : BitVec 2) (s : State) : Host.Outcome State Fault Refusal :=
  s.command req 0xF028 (src.toNat + 256 * kind.toNat + 65536 * sev.toNat + 2 ^ 31)

/-! ### Ports, queues, interrupts -/

/-- HOSTPORT_ERRCLR (12 R316). -/
def execHostportErrclr (req : Requester) (s : State) : Host.Outcome State Fault Refusal := s.command req 0x052C 1

/-- TWOWIRE_ERRCLR (13 R349). -/
def execTwowireErrclr (req : Requester) (s : State) : Host.Outcome State Fault Refusal := s.command req 0x0630 1

/-- TWI_NOP (13 R351). -/
def execTwiNop (req : Requester) (s : State) : Host.Outcome State Fault Refusal := s.command req 0x0638 0

/-- A write of TWOWIRE.CCMD. -/
def ccmdWord (op len target : Nat) : Nat := op + 256 * len + 65536 * target

/-- A controller command: its write of CCMD, or the end of its transfer. -/
def State.twiCommandOrEnd (s : State) (via : Option Requester) (op len target : Nat) (ended : TwiEnd) :
    Host.Outcome State Fault Refusal :=
  match via with
  | some req => s.command req 0x0638 (ccmdWord op len target)
  | none => onlyIf (s.twiRuns op && s.twiMayEnd ended && twiEndFits op ended) s (s.twiTransfer op ended)

/-- TWI_CTRL_WRITE (13 R351, R353). -/
def execTwiCtrlWrite (via : Option Requester) (len : BitVec 6) (target : BitVec 7) (ended : TwiEnd) (s : State) :
    Host.Outcome State Fault Refusal := s.twiCommandOrEnd via 1 len.toNat target.toNat ended

/-- TWI_CTRL_READ (13 R351, R353). -/
def execTwiCtrlRead (via : Option Requester) (len : BitVec 6) (target : BitVec 7) (ended : TwiEnd) (s : State) :
    Host.Outcome State Fault Refusal := s.twiCommandOrEnd via 2 len.toNat target.toNat ended

/-- EEREAD (13 R351, R353). -/
def execEeread (via : Option Requester) (len : BitVec 6) (ended : TwiEnd) (s : State) : Host.Outcome State Fault Refusal :=
  s.twiCommandOrEnd via 3 len.toNat 0 ended

/-- TWI_ABORT (13 R351). -/
def execTwiAbort (req : Requester) (s : State) : Host.Outcome State Fault Refusal := s.command req 0x0638 4

/-- IRQ_PEND_CLEAR (12 R336). -/
def execIrqPendClear (req : Requester) (bits : BitVec 4) (s : State) : Host.Outcome State Fault Refusal :=
  s.command req 0x0724 (16 * bits.toNat)

/-- QUEUE_FLUSH (12 R331). -/
def execQueueFlush (req : Requester) (q : Fin 4) (s : State) : Host.Outcome State Fault Refusal :=
  s.commandKeep req (0x1B20 + 4 * q) 0x20000

/-- QUEUE_SKIP (12 R331). -/
def execQueueSkip (req : Requester) (q : Fin 4) (s : State) : Host.Outcome State Fault Refusal :=
  s.commandKeep req (0x1B20 + 4 * q) 0x40000

/-- QUEUE_CNTCLR (12 R330). -/
def execQueueCntclr (req : Requester) (mask : BitVec 4) (s : State) : Host.Outcome State Fault Refusal :=
  s.command req 0x1B50 mask.toNat

/-! ### Link -/

/-- LINK_ERRCLR (14 R361). -/
def execLinkErrclr (req : Requester) (s : State) : Host.Outcome State Fault Refusal := s.command req 0x083C 1

/-- A write of LINK.RCMD. -/
def rcmdWord (op pos : Nat) (all : Bool) (addr : Nat) : Nat := op + 16 * pos + 128 * b2n all + 65536 * addr

/-- REMOTE_NOP (14 R381). -/
def execRemoteNop (req : Requester) (s : State) : Host.Outcome State Fault Refusal :=
  s.command req 0x0840 (rcmdWord 0 1 false 0)

/-- REMOTE_READ (14 R381). -/
def execRemoteRead (req : Requester) (pos : Fin 8) (addr : BitVec 16) (s : State) : Host.Outcome State Fault Refusal :=
  s.command req 0x0840 (rcmdWord 1 pos false addr.toNat)

/-- REMOTE_WRITE (14 R381). -/
def execRemoteWrite (req : Requester) (pos : Fin 8) (addr : BitVec 16) (s : State) : Host.Outcome State Fault Refusal :=
  s.command req 0x0840 (rcmdWord 2 pos false addr.toNat)

/-- REMOTE_RESET (14 R381). -/
def execRemoteReset (req : Requester) (pos : Fin 8) (all : Bool) (s : State) : Host.Outcome State Fault Refusal :=
  s.command req 0x0840 (rcmdWord 3 pos all 0)

/-! ### Slices, drive, scan -/

/-- SLICE_CNTCLR (05 R132). -/
def execSliceCntclr (req : Requester) (slice : Fin 4) (s : State) : Host.Outcome State Fault Refusal :=
  s.command req (0x1034 + 256 * slice) 1

/-- TXFLT_UNMASK (04 R119). -/
def execTxfltUnmask (req : Requester) (i : Fin 5) (bits : Word) (s : State) : Host.Outcome State Fault Refusal :=
  s.command req (0x1460 + 4 * i) bits.toNat

/-- SCAN_MODE_WRITE (06 R146): of SCAN.TMAP where `tmap` is given, else of SCAN.CTL.MODE. -/
def execScanModeWrite (req : Requester) (mode : BitVec 2) (tmap : Option Byte) (s : State) :
    Host.Outcome State Fault Refusal :=
  match tmap with
  | some v => s.command req 0x1524 v.toNat
  | none => s.command req 0x1520 (mode.toNat + 256 * s.get R.SCAN_CTL_HOLD)

/-- TABLE_CHECK (06 R146). -/
def execTableCheck (req : Requester) (t : Fin 4) (s : State) : Host.Outcome State Fault Refusal :=
  s.command req 0x1534 (0x100 + t)

/-- PEAKCLR (06 R149). -/
def execPeakclr (req : Requester) (s : State) : Host.Outcome State Fault Refusal := s.commandKeep req 0x1520 0x10

/-- SCAN_HOLD (06 R149). -/
def execScanHold (req : Requester) (s : State) : Host.Outcome State Fault Refusal :=
  s.command req 0x1520 (s.get R.SCAN_CTL_MODE + 0x100)

/-- SCAN_RESUME (06 R149). -/
def execScanResume (req : Requester) (s : State) : Host.Outcome State Fault Refusal :=
  s.command req 0x1520 (s.get R.SCAN_CTL_MODE)

/-- SCANTABLE_WORD_WRITE (06 R165): register WORDk of the table's page, which reaches word WBASE + k. -/
def execScantableWordWrite (req : Requester) (t : Fin 4) (k : Fin 48) (word : Word) (s : State) :
    Host.Outcome State Fault Refusal := s.command req (0x6040 + 256 * t + 4 * k) word.toNat

/-! ### Baselines and calibration -/

/-- REACQUIRE (07 R175). -/
def execReacquire (req : Requester) (s : State) : Host.Outcome State Fault Refusal := s.command req 0x1830 1

/-- REBASE_ALL (07 R170). -/
def execRebaseAll (req : Requester) (s : State) : Host.Outcome State Fault Refusal := s.command req 0x1830 2

/-- CLEAR_SUSPECT (07 R179). -/
def execClearSuspect (req : Requester) (s : State) : Host.Outcome State Fault Refusal := s.command req 0x1830 3

/-- CAL_NOP (07 R188). -/
def execCalNop (req : Requester) (s : State) : Host.Outcome State Fault Refusal := s.command req 0x1920 0

/-- FE_CAL (07 R188, R189): its write of CAL.CMD, or one of its steps in the listen slot of a frame. -/
def execFeCal (via : Option Requester) (mask : Byte) (disagree : Option (Byte × Byte)) (vals : List Nat) (s : State) :
    Host.Outcome State Fault Refusal :=
  match via with
  | some req => s.command req 0x1920 (1 + 256 * mask.toNat)
  | none =>
    onlyIf (s.calRuns 1 && s.feMay) s (s.feStep disagree vals)

/-- LF_TRIM (07 R188, R191): its write of CAL.CMD, or its end with the code found. -/
def execLfTrim (via : Option Requester) (code : BitVec 8) (s : State) : Host.Outcome State Fault Refusal :=
  match via with
  | some req => s.command req 0x1920 2
  | none => onlyIf (s.calRuns 2) s (s.lfEnds code)

/-- AOUT_CAL (07 R188, R192): its write of CAL.CMD, or its next step: VREFA is checked, a test code has been held and measured.
In the fault safe state and in a lockout shutdown the outputs are parked, and no step comes (15 R396, R398). -/
def execAoutCal (via : Option Requester) (mask : Byte) (vrefOk short loaded : Bool) (offset gain : BitVec 16) (s : State) :
    Host.Outcome State Fault Refusal :=
  match via with
  | some req => s.command req 0x1920 (3 + 256 * mask.toNat)
  | none =>
    match s.calOutput with
    | some n => onlyIf (s.calRuns 3 && !s.flt.safe && !s.sup.lockout) s (s.outStep n (vrefOk && s.aout.vref) short loaded offset.toNat gain.toNat)
    | none => .next s

/-- CAPTURE_REF (07 R184, R188): its write of CAL.CMD with the byte `arg` in ARG, or one frame of the capture. -/
def execCaptureRef (via : Option Requester) (arg : Byte) (s : State) : Host.Outcome State Fault Refusal :=
  match via with
  | some req => s.command req 0x1920 (4 + 256 * arg.toNat)
  | none =>
    match s.cal.capture with
    | some c => onlyIf (s.calRuns 4 && s.captureMay c) s (s.captureFrame c)
    | none => .next s

/-- CAL_ABORT (07 R188). -/
def execCalAbort (req : Requester) (s : State) : Host.Outcome State Fault Refusal := s.command req 0x1920 5

/-- CSEL_WRITE (07 R186). -/
def execCselWrite (req : Requester) (item index : Byte) (s : State) : Host.Outcome State Fault Refusal :=
  s.command req 0x1930 (index.toNat + 256 * item.toNat)

/-! ### Pipeline, work ring, engines -/

/-- CANCELALL (08 R214). -/
def execCancelall (req : Requester) (s : State) : Host.Outcome State Fault Refusal := s.command req 0x1A54 1

/-- PIPE_CNTCLR (08 R212). -/
def execPipeCntclr (req : Requester) (s : State) : Host.Outcome State Fault Refusal := s.command req 0x1A54 2

/-- VCTRL_DEF_WRITE (08 R217): register `i` of DEF, RECTA, RECTB, KNOBA, KNOBB, REST of the selected control. -/
def execVctrlDefWrite (req : Requester) (i : Fin 6) (word : Word) (s : State) : Host.Outcome State Fault Refusal :=
  s.command req (0x1C24 + 4 * i) word.toNat

/-- WORKRING_ERRCLR (09 R248). -/
def execWorkringErrclr (req : Requester) (s : State) : Host.Outcome State Fault Refusal := s.command req 0x5040 1

/-- WORKRING_PEAKCLR (09 R254). -/
def execWorkringPeakclr (req : Requester) (s : State) : Host.Outcome State Fault Refusal := s.command req 0x5040 2

/-- The breakpoint enables of ENGn.CTL. -/
def State.breakBits (s : State) (e : Nat) : Nat :=
  4 * s.get (R.ENG_CTL_BP0EN e) + 8 * s.get (R.ENG_CTL_BP1EN e) + 16 * s.get (R.ENG_CTL_BRKEN e)

/-- ENG_HALT (09 R255). -/
def execEngHalt (req : Requester) (e : Fin 32) (on : Bool) (s : State) : Host.Outcome State Fault Refusal :=
  s.command req (engAddr e 0x20) (b2n on + s.breakBits e)

/-- ENG_STEP (09 R255). -/
def execEngStep (req : Requester) (e : Fin 32) (s : State) : Host.Outcome State Fault Refusal :=
  s.command req (engAddr e 0x20) (3 + s.breakBits e)

/-- ENG_RESTART (09 R255). -/
def execEngRestart (req : Requester) (e : Fin 32) (s : State) : Host.Outcome State Fault Refusal :=
  s.commandKeep req (engAddr e 0x20) 0x20

/-- DMDAT_ACCESS (09 R255): a write, or a read. -/
def execDmdatAccess (req : Requester) (e : Fin 32) (write : Option Word) (s : State) : Host.Outcome State Fault Refusal :=
  match write with
  | some w => s.command req (engAddr e 0x3C) w.toNat
  | none => done s (s.readBy req (engAddr e 0x3C))

/-- ENG_DBG_POP (12 R321). -/
def execEngDbgPop (req : Requester) (e : Fin 32) (s : State) : Host.Outcome State Fault Refusal :=
  done s (s.readBy req (engAddr e 0x4C))

/-! ### Analogue outputs, Nightcap -/

/-- AOUT_STROBE (15 R386). -/
def execAoutStrobe (req : Requester) (a b : Bool) (s : State) : Host.Outcome State Fault Refusal :=
  s.command req 0x2024 (b2n a + 2 * b2n b)

/-- SPAN_CHANGE (15 R391 to R395). -/
def execSpanChange (req : Requester) (spans : BitVec 16) (s : State) : Host.Outcome State Fault Refusal :=
  s.command req 0x2028 spans.toNat

/-- AOUT_FLT_CLEAR (15 R399). -/
def execAoutFltClear (req : Requester) (bits : BitVec 8) (s : State) : Host.Outcome State Fault Refusal :=
  s.command req 0x2034 bits.toNat

/-- NIGHTCAP_DET_ACK (16 R412). -/
def execNightcapDetAck (req : Requester) (bits : BitVec 8) (s : State) : Host.Outcome State Fault Refusal :=
  s.command req 0x212C bits.toNat

/-! ### Page headers -/

/-- BRST (18 R456). -/
def execBrst (req : Requester) (page : BitVec 8) (s : State) : Host.Outcome State Fault Refusal :=
  s.commandKeep req (256 * page.toNat + 4) 2

/-- APPLY (18 R456). -/
def execApply (req : Requester) (page : BitVec 8) (s : State) : Host.Outcome State Fault Refusal :=
  s.commandKeep req (256 * page.toNat + 4) 4

/-- PLOCK_SET (18 R459). -/
def execPlockSet (req : Requester) (page : BitVec 8) (set : Bool) (key : BitVec 16) (s : State) :
    Host.Outcome State Fault Refusal :=
  s.command req (256 * page.toNat + 0x18) (256 * b2n set + 65536 * key.toNat)

end Sys2Proof.Machine
end

