-- ==== Sys2Proof/Machine/TwoWire.lean ====
section
/-!
DEFINITION. The two-wire port as a target: write and read transactions, the general call, aborts and stretch limits
(spec/13_two_wire_port.md R339 to R350).
-/

namespace Sys2Proof.Machine

/-- The port takes part in the bus: powered, with VIO good, answering and joined (R342). -/
def State.twiReady (s : State) : Bool := s.mayWrite .twoWire

/-- The port serves as a target: it has its address and acknowledges it (R340). -/
def State.twiTarget (s : State) : Bool := s.twiReady && s.flag R.TWOWIRE_CFG_TGTEN && s.flag R.DEVICE_STRAPS_SAMPLED

/-- The port's target address (R340). -/
def State.twiAddress (s : State) : Nat := 0x3C + s.get R.DEVICE_STRAPS_ADDR

/-- The next pointer: from offset 0xFF it wraps to 0x00 of the same page (R343). -/
def nextPtr (a : Nat) : Nat := a / 256 * 256 + (a + 1) % 256

/-- Changes the port's byte buffers. -/
def State.twiBuf (s : State) (f : ByteBuf → ByteBuf) : State := s.updTwi fun t => { t with buf := f t.buf }

/-- What the port sends in a transaction. -/
def State.twiSends (s : State) (l : List Byte) : State := s.updTwi fun t => { t with out := l }

/-- One data byte of a write (R343); in the fault safe state it is answered with NAK (R347). -/
def State.twiPut (s : State) (v : Byte) : State :=
  let a := s.get R.TWOWIRE_PTR
  let reg := a / 4 * 4
  let b := s.twi.buf
  if s.flt.safe || !s.twiReady then s
  else
    let t := s.set R.TWOWIRE_PTR (nextPtr a)
    if a % 4 ≠ 3 then t.twiBuf fun b => b.hold reg (a % 4) v
    else (t.twiBuf ByteBuf.drop).fabricWrite .twoWire reg (b.word reg (s.keptWord reg) v)

/-- A target transfer to this device runs (TWOWIRE.STAT.ADDRESSED); between commands none does. -/
def State.addressed (s : State) (b : Bool) : State := s.setFlag R.TWOWIRE_STAT_ADDRESSED b

/-- The bytes of a write transaction after its address: page, offset, data. -/
def State.twiWrite (s : State) (l : List Byte) : State :=
  match l with
  | page :: off :: data =>
    (data.foldl State.twiPut ((s.addressed true).set R.TWOWIRE_PTR (256 * page.toNat + off.toNat))).addressed false
  | _ => s

/-- A register as the port fetches it for a snapshot: it holds SCL low meanwhile (R348). -/
def State.twiFetch (s : State) (reg : Nat) : Nat := (s.set R.TWOWIRE_STAT_STRETCHING 1).readReg (reg / 256) (reg % 256)

/-- The byte at the pointer is loaded for shifting out: byte 0 takes a snapshot, and so does a byte of a register of which
the port holds none (R345). -/
def State.twiLoad (s : State) : State :=
  let a := s.get R.TWOWIRE_PTR
  let reg := a / 4 * 4
  if a % 4 = 0 || s.twi.buf.snapAddr ≠ reg then s.twiBuf fun b => b.take reg (s.twiFetch reg) else s

/-- One byte of a read, loaded and delivered (R344, R345): the pointer advances, and byte 0 brings the read's effect. -/
def State.twiGet (s : State) : Byte × State :=
  let a := s.get R.TWOWIRE_PTR
  let reg := a / 4 * 4
  let t := s.twiLoad
  let u := t.set R.TWOWIRE_PTR (nextPtr a)
  (snapByte t.twi.buf.snap (a % 4), if a % 4 = 0 then u.readFx (reg / 256) (reg % 256) else u)

/-- `n` bytes of a read. -/
def State.twiRead : Nat → State → List Byte × State
  | 0, s => ([], s)
  | n + 1, s =>
    let p := s.twiGet
    let r := State.twiRead n p.2
    (p.1 :: r.1, r.2)

/-- A read transaction of `n` delivered bytes, and what follows them on the bus. -/
def State.twiReads (s : State) (n : Nat) (more : List Byte) : State :=
  let r := (s.addressed true).twiRead n
  (r.2.addressed false).twiSends (r.1 ++ more)

/-- What a transaction had done when it was aborted (R350): the held bytes go where a data byte was in progress, and the
byte of a read that was cut had been loaded. -/
def State.twiAborted (s : State) (tx : TwiTx) : State :=
  match tx with
  | .address => s
  | .write l =>
    let s := s.twiWrite l
    if 2 ≤ l.length then s.twiBuf ByteBuf.drop else s
  | .read n =>
    let r := (s.addressed true).twiRead n
    (r.2.twiLoad.addressed false).twiSends r.1

/-- A transaction that reaches the stretch limit (R349): in a read, the next byte is sent as 0xFF. -/
def State.twiStretched (s : State) (tx : TwiTx) : State :=
  match tx with
  | .address => s
  | .write l => s.twiWrite l
  | .read n => s.twiReads n [0xFF]

/-- The transaction has got beyond its address. -/
def pastAddress : TwiTx → Bool
  | .address => false
  | _ => true

/-! ### Commands -/

/-- TWI_TARGET_WRITE (R343). -/
def execTwiTargetWrite (addr : BitVec 7) (bytes : List Byte) (s : State) : Host.Outcome State Fault Refusal :=
  onlyIf (s.twiTarget && addr.toNat = s.twiAddress) s ((s.twiSends []).twiWrite bytes)

/-- TWI_TARGET_READ (R344). -/
def execTwiTargetRead (addr : BitVec 7) (n : Nat) (s : State) : Host.Outcome State Fault Refusal :=
  onlyIf (s.twiTarget && addr.toNat = s.twiAddress) s (s.twiReads n [])

/-- TWI_GENERAL_CALL (R341): page bytes 0x04 and 0x06 are not acknowledged. -/
def execTwiGeneralCall (bytes : List Byte) (s : State) : Host.Outcome State Fault Refusal :=
  onlyIf (s.twiTarget && s.flag R.TWOWIRE_CFG_GCEN && bytes.head? ≠ some 0x04 && bytes.head? ≠ some 0x06) s
    ((s.twiSends []).twiWrite bytes)

/-- BUSABORT (R350), in an address byte or in a transfer to this device. -/
def execBusabort (tx : TwiTx) (s : State) : Host.Outcome State Fault Refusal :=
  onlyIf (s.twiReady && (s.twiTarget || !pastAddress tx)) s ((s.twiAborted tx).sat R.TWOWIRE_ERR_BUSABORT)

/-- STRETCH_TIMEOUT (R349). -/
def execStretchTimeout (tx : TwiTx) (s : State) : Host.Outcome State Fault Refusal :=
  onlyIf (s.twiTarget && pastAddress tx) s ((s.twiStretched tx).sat R.TWOWIRE_ERR_STRETCHTMO)

end Sys2Proof.Machine
end

