-- ==== Sys2Proof/Machine/Dispatch.lean ====
section
/-!
DEFINITION. The dispatch: one arm per command, each a direct call of that command's meaning.
-/

namespace Sys2Proof.Machine

/-- The effect of a command on everything but the queue of waiting commands. -/
def exec (i : Instr) (s : State) : Host.Outcome State Fault Refusal :=
  match i with
  | .powerOn vio pins => Sys2Proof.Machine.execPowerOn vio pins s
  | .bootSequence => Sys2Proof.Machine.execBootSequence s
  | .crystalRestart amplitude => Sys2Proof.Machine.execCrystalRestart amplitude s
  | .lockoutShutdown step => Sys2Proof.Machine.execLockoutShutdown step s
  | .resetnReset ns pins => Sys2Proof.Machine.execResetnReset ns pins s
  | .rstcmdReset req go key => Sys2Proof.Machine.execRstcmdReset req go key s
  | .linkReset => Sys2Proof.Machine.execLinkReset s
  | .vioLoss => Sys2Proof.Machine.execVioLoss s
  | .vioReturn pins => Sys2Proof.Machine.execVioReturn pins s
  | .clkLoss => Sys2Proof.Machine.execClkLoss s
  | .thermal sensor => Sys2Proof.Machine.execThermal sensor s
  | .lfCrystalFail => Sys2Proof.Machine.execLfCrystalFail s
  | .lfCrystalStable => Sys2Proof.Machine.execLfCrystalStable s
  | .registerWrite req addr word => Sys2Proof.Machine.execRegisterWrite req addr word s
  | .frameStart dt meas => Sys2Proof.Machine.execFrameStart dt meas s
  | .vtxGood at_ dropout => Sys2Proof.Machine.execVtxGood at_ dropout s
  | .vtxFault => Sys2Proof.Machine.execVtxFault s
  | .compensationSequenceReady at_ => Sys2Proof.Machine.execCompensationSequenceReady at_ s
  | .listenWindowEnd powers => Sys2Proof.Machine.execListenWindowEnd powers s
  | .chipEnd powers => Sys2Proof.Machine.execChipEnd powers s
  | .burstEnd residuals => Sys2Proof.Machine.execBurstEnd residuals s
  | .selfPassEnd caps => Sys2Proof.Machine.execSelfPassEnd caps s
  | .testPassEnd caps => Sys2Proof.Machine.execTestPassEnd caps s
  | .waitEnd => Sys2Proof.Machine.execWaitEnd s
  | .scanEnd => Sys2Proof.Machine.execScanEnd s
  | .blankAssert input level place => Sys2Proof.Machine.execBlankAssert input level place s
  | .blankRelease input level us => Sys2Proof.Machine.execBlankRelease input level us s
  | .blankingLimit => Sys2Proof.Machine.execBlankingLimit s
  | .txShort pin => Sys2Proof.Machine.execTxShort pin s
  | .txfltUnmask req k bits => Sys2Proof.Machine.execTxfltUnmask req k bits s
  | .dispatch => Sys2Proof.Machine.execDispatch s
  | .wavePost => Sys2Proof.Machine.execWavePost s
  | .taskPost => Sys2Proof.Machine.execTaskPost s
  | .waveTimeout => Sys2Proof.Machine.execWaveTimeout s
  | .parkLate e => Sys2Proof.Machine.execParkLate e s
  | .engExhausted => Sys2Proof.Machine.execEngExhausted s
  | .tileA e q => Sys2Proof.Machine.execTileA e q s
  | .tileB e q => Sys2Proof.Machine.execTileB e q s
  | .extract e q => Sys2Proof.Machine.execExtract e q s
  | .track e q => Sys2Proof.Machine.execTrack e q s
  | .report e q us => Sys2Proof.Machine.execReport e q us s
  | .house e q => Sys2Proof.Machine.execHouse e q s
  | .extensionTask e q => Sys2Proof.Machine.execExtensionTask e q s
  | .acquisition us => Sys2Proof.Machine.execAcquisition us s
  | .engineTstart e => Sys2Proof.Machine.execEngineTstart e s
  | .engineTdone e v => Sys2Proof.Machine.execEngineTdone e v s
  | .engineSleep e => Sys2Proof.Machine.execEngineSleep e s
  | .enginePark e => Sys2Proof.Machine.execEnginePark e s
  | .engineWake e => Sys2Proof.Machine.execEngineWake e s
  | .fevtClear e v => Sys2Proof.Machine.execFevtClear e v s
  | .windowSet e k v => Sys2Proof.Machine.execWindowSet e k v s
  | .dbgoutWrite e v => Sys2Proof.Machine.execDbgoutWrite e v s
  | .victimRead e => Sys2Proof.Machine.execVictimRead e s
  | .interruptEntry e => Sys2Proof.Machine.execInterruptEntry e s
  | .trapEntry e cause nxt => Sys2Proof.Machine.execTrapEntry e cause nxt s
  | .reservationTimeout e => Sys2Proof.Machine.execReservationTimeout e s
  | .reservationBreak requester a v => Sys2Proof.Machine.execReservationBreak requester a v s
  | .mulResult e => Sys2Proof.Machine.execMulResult e s
  | .divResult e => Sys2Proof.Machine.execDivResult e s
  | .quinceResult e => Sys2Proof.Machine.execQuinceResult e s
  | .sloeResult e => Sys2Proof.Machine.execSloeResult e s
  | .isaAdd e w => Sys2Proof.Machine.execIsaAdd e w s
  | .isaAddc e w => Sys2Proof.Machine.execIsaAddc e w s
  | .isaSub e w => Sys2Proof.Machine.execIsaSub e w s
  | .isaSubc e w => Sys2Proof.Machine.execIsaSubc e w s
  | .isaAnd e w => Sys2Proof.Machine.execIsaAnd e w s
  | .isaOr e w => Sys2Proof.Machine.execIsaOr e w s
  | .isaXor e w => Sys2Proof.Machine.execIsaXor e w s
  | .isaAndn e w => Sys2Proof.Machine.execIsaAndn e w s
  | .isaMin e w => Sys2Proof.Machine.execIsaMin e w s
  | .isaMax e w => Sys2Proof.Machine.execIsaMax e w s
  | .isaMins e w => Sys2Proof.Machine.execIsaMins e w s
  | .isaMaxs e w => Sys2Proof.Machine.execIsaMaxs e w s
  | .isaAdds e w => Sys2Proof.Machine.execIsaAdds e w s
  | .isaSubs e w => Sys2Proof.Machine.execIsaSubs e w s
  | .isaAddus e w => Sys2Proof.Machine.execIsaAddus e w s
  | .isaSubus e w => Sys2Proof.Machine.execIsaSubus e w s
  | .isaMul e w => Sys2Proof.Machine.execIsaMul e w s
  | .isaMuls e w => Sys2Proof.Machine.execIsaMuls e w s
  | .isaMac e w => Sys2Proof.Machine.execIsaMac e w s
  | .isaDiv e w => Sys2Proof.Machine.execIsaDiv e w s
  | .isaDivs e w => Sys2Proof.Machine.execIsaDivs e w s
  | .isaAbsd e w => Sys2Proof.Machine.execIsaAbsd e w s
  | .isaAbsds e w => Sys2Proof.Machine.execIsaAbsds e w s
  | .isaAvg e w => Sys2Proof.Machine.execIsaAvg e w s
  | .isaMov e w => Sys2Proof.Machine.execIsaMov e w s
  | .isaNot e w => Sys2Proof.Machine.execIsaNot e w s
  | .isaNeg e w => Sys2Proof.Machine.execIsaNeg e w s
  | .isaAbs e w => Sys2Proof.Machine.execIsaAbs e w s
  | .isaInc e w => Sys2Proof.Machine.execIsaInc e w s
  | .isaDec e w => Sys2Proof.Machine.execIsaDec e w s
  | .isaSgn e w => Sys2Proof.Machine.execIsaSgn e w s
  | .isaSwap e w => Sys2Proof.Machine.execIsaSwap e w s
  | .isaClz e w => Sys2Proof.Machine.execIsaClz e w s
  | .isaPopc e w => Sys2Proof.Machine.execIsaPopc e w s
  | .isaLdi e w => Sys2Proof.Machine.execIsaLdi e w s
  | .isaCmp e w => Sys2Proof.Machine.execIsaCmp e w s
  | .isaCmpc e w => Sys2Proof.Machine.execIsaCmpc e w s
  | .isaTst e w => Sys2Proof.Machine.execIsaTst e w s
  | .isaPush e w => Sys2Proof.Machine.execIsaPush e w s
  | .isaPop e w => Sys2Proof.Machine.execIsaPop e w s
  | .isaShl e w => Sys2Proof.Machine.execIsaShl e w s
  | .isaShr e w => Sys2Proof.Machine.execIsaShr e w s
  | .isaSar e w => Sys2Proof.Machine.execIsaSar e w s
  | .isaRol e w => Sys2Proof.Machine.execIsaRol e w s
  | .isaRor e w => Sys2Proof.Machine.execIsaRor e w s
  | .isaRlc e w => Sys2Proof.Machine.execIsaRlc e w s
  | .isaRrc e w => Sys2Proof.Machine.execIsaRrc e w s
  | .isaJmp e w => Sys2Proof.Machine.execIsaJmp e w s
  | .isaCall e w => Sys2Proof.Machine.execIsaCall e w s
  | .isaRet e w => Sys2Proof.Machine.execIsaRet e w s
  | .isaReti e w => Sys2Proof.Machine.execIsaReti e w s
  | .isaBz e w => Sys2Proof.Machine.execIsaBz e w s
  | .isaBnz e w => Sys2Proof.Machine.execIsaBnz e w s
  | .isaBc e w => Sys2Proof.Machine.execIsaBc e w s
  | .isaBnc e w => Sys2Proof.Machine.execIsaBnc e w s
  | .isaBn e w => Sys2Proof.Machine.execIsaBn e w s
  | .isaBnn e w => Sys2Proof.Machine.execIsaBnn e w s
  | .isaBv e w => Sys2Proof.Machine.execIsaBv e w s
  | .isaBnv e w => Sys2Proof.Machine.execIsaBnv e w s
  | .isaBhi e w => Sys2Proof.Machine.execIsaBhi e w s
  | .isaBls e w => Sys2Proof.Machine.execIsaBls e w s
  | .isaBlt e w => Sys2Proof.Machine.execIsaBlt e w s
  | .isaBge e w => Sys2Proof.Machine.execIsaBge e w s
  | .isaBgt e w => Sys2Proof.Machine.execIsaBgt e w s
  | .isaBle e w => Sys2Proof.Machine.execIsaBle e w s
  | .isaDbx e w => Sys2Proof.Machine.execIsaDbx e w s
  | .isaNop e w => Sys2Proof.Machine.execIsaNop e w s
  | .isaIn e w => Sys2Proof.Machine.execIsaIn e w s
  | .isaOut e w => Sys2Proof.Machine.execIsaOut e w s
  | .isaLdrs e w => Sys2Proof.Machine.execIsaLdrs e w s
  | .isaStcd e w => Sys2Proof.Machine.execIsaStcd e w s
  | .isaRep e w => Sys2Proof.Machine.execIsaRep e w s
  | .isaRepi e w => Sys2Proof.Machine.execIsaRepi e w s
  | .isaQdiv e w => Sys2Proof.Machine.execIsaQdiv e w s
  | .isaQdivs e w => Sys2Proof.Machine.execIsaQdivs e w s
  | .isaQdivl e w => Sys2Proof.Machine.execIsaQdivl e w s
  | .isaQsqrt e w => Sys2Proof.Machine.execIsaQsqrt e w s
  | .isaQatan e w => Sys2Proof.Machine.execIsaQatan e w s
  | .isaQhyp e w => Sys2Proof.Machine.execIsaQhyp e w s
  | .isaSpeak e w => Sys2Proof.Machine.execIsaSpeak e w s
  | .isaShist e w => Sys2Proof.Machine.execIsaShist e w s
  | .isaShistz e w => Sys2Proof.Machine.execIsaShistz e w s
  | .isaBrk e w => Sys2Proof.Machine.execIsaBrk e w s
  | .isaIllegalOpcode e op => Sys2Proof.Machine.execIsaIllegalOpcode e op s
  | .engHalt req e on => Sys2Proof.Machine.execEngHalt req e on s
  | .engStep req e => Sys2Proof.Machine.execEngStep req e s
  | .engRestart req e => Sys2Proof.Machine.execEngRestart req e s
  | .breakpointHit e => Sys2Proof.Machine.execBreakpointHit e s
  | .dmdatAccess req e write => Sys2Proof.Machine.execDmdatAccess req e write s
  | .engDbgPop req e => Sys2Proof.Machine.execEngDbgPop req e s
  | .hostWrite addr data => Sys2Proof.Machine.execHostWrite addr data s
  | .hostRead addr n hsckKHz late => Sys2Proof.Machine.execHostRead addr n hsckKHz late s
  | .hostStatus n => Sys2Proof.Machine.execHostStatus n s
  | .laneReset => Sys2Proof.Machine.execLaneReset s
  | .badCommand code => Sys2Proof.Machine.execBadCommand code s
  | .transactionCut tx => Sys2Proof.Machine.execTransactionCut tx s
  | .queueFlush req q => Sys2Proof.Machine.execQueueFlush req q s
  | .queueSkip req q => Sys2Proof.Machine.execQueueSkip req q s
  | .queueCntclr req mask => Sys2Proof.Machine.execQueueCntclr req mask s
  | .hostportErrclr req => Sys2Proof.Machine.execHostportErrclr req s
  | .irqPendClear req bits => Sys2Proof.Machine.execIrqPendClear req bits s
  | .twiBusJoin => Sys2Proof.Machine.execTwiBusJoin s
  | .twiTargetWrite addr bytes => Sys2Proof.Machine.execTwiTargetWrite addr bytes s
  | .twiTargetRead addr n => Sys2Proof.Machine.execTwiTargetRead addr n s
  | .twiGeneralCall bytes => Sys2Proof.Machine.execTwiGeneralCall bytes s
  | .busabort tx => Sys2Proof.Machine.execBusabort tx s
  | .stretchTimeout tx => Sys2Proof.Machine.execStretchTimeout tx s
  | .twiNop req => Sys2Proof.Machine.execTwiNop req s
  | .twiCtrlWrite via len target ended => Sys2Proof.Machine.execTwiCtrlWrite via len target ended s
  | .twiCtrlRead via len target ended => Sys2Proof.Machine.execTwiCtrlRead via len target ended s
  | .eeread via len ended => Sys2Proof.Machine.execEeread via len ended s
  | .twiAbort req => Sys2Proof.Machine.execTwiAbort req s
  | .busClear cleared => Sys2Proof.Machine.execBusClear cleared s
  | .arbitrationLost => Sys2Proof.Machine.execArbitrationLost s
  | .wakeMessage ended => Sys2Proof.Machine.execWakeMessage ended s
  | .twowireErrclr req => Sys2Proof.Machine.execTwowireErrclr req s
  | .nvsNop req key => Sys2Proof.Machine.execNvsNop req key s
  | .readLine req access => Sys2Proof.Machine.execReadLine req access s
  | .programLine req key => Sys2Proof.Machine.execProgramLine req key s
  | .verifyBank req access => Sys2Proof.Machine.execVerifyBank req access s
  | .confirm req key => Sys2Proof.Machine.execConfirm req key s
  | .saveConfig req key => Sys2Proof.Machine.execSaveConfig req key s
  | .invalidateBank req key => Sys2Proof.Machine.execInvalidateBank req key s
  | .nvsCorrclr req => Sys2Proof.Machine.execNvsCorrclr req s
  | .lineProgramDone => Sys2Proof.Machine.execLineProgramDone s
  | .relocation => Sys2Proof.Machine.execRelocation s
  | .persistentLogWrite result => Sys2Proof.Machine.execPersistentLogWrite result s
  | .calNop req => Sys2Proof.Machine.execCalNop req s
  | .feCal via mask disagree vals => Sys2Proof.Machine.execFeCal via mask disagree vals s
  | .lfTrim via code => Sys2Proof.Machine.execLfTrim via code s
  | .aoutCal via mask vrefOk short loaded offset gain => Sys2Proof.Machine.execAoutCal via mask vrefOk short loaded offset gain s
  | .captureRef via arg => Sys2Proof.Machine.execCaptureRef via arg s
  | .calAbort req => Sys2Proof.Machine.execCalAbort req s
  | .backgroundCalibration disagree vals => Sys2Proof.Machine.execBackgroundCalibration disagree vals s
  | .cselWrite req item index => Sys2Proof.Machine.execCselWrite req item index s
  | .reacquire req => Sys2Proof.Machine.execReacquire req s
  | .rebaseAll req => Sys2Proof.Machine.execRebaseAll req s
  | .clearSuspect req => Sys2Proof.Machine.execClearSuspect req s
  | .scanModeWrite req mode tmap => Sys2Proof.Machine.execScanModeWrite req mode tmap s
  | .tableCheck req t => Sys2Proof.Machine.execTableCheck req t s
  | .peakclr req => Sys2Proof.Machine.execPeakclr req s
  | .scanHold req => Sys2Proof.Machine.execScanHold req s
  | .scanResume req => Sys2Proof.Machine.execScanResume req s
  | .scantableWordWrite req t k word => Sys2Proof.Machine.execScantableWordWrite req t k word s
  | .cancelall req => Sys2Proof.Machine.execCancelall req s
  | .pipeCntclr req => Sys2Proof.Machine.execPipeCntclr req s
  | .sliceCntclr req slice => Sys2Proof.Machine.execSliceCntclr req slice s
  | .workringErrclr req => Sys2Proof.Machine.execWorkringErrclr req s
  | .workringPeakclr req => Sys2Proof.Machine.execWorkringPeakclr req s
  | .linkErrclr req => Sys2Proof.Machine.execLinkErrclr req s
  | .vctrlDefWrite req k word => Sys2Proof.Machine.execVctrlDefWrite req k word s
  | .aoutStrobe req a b => Sys2Proof.Machine.execAoutStrobe req a b s
  | .ldac => Sys2Proof.Machine.execLdac s
  | .spanChange req spans => Sys2Proof.Machine.execSpanChange req spans s
  | .spanHoldEnd n => Sys2Proof.Machine.execSpanHoldEnd n s
  | .aoutShort n => Sys2Proof.Machine.execAoutShort n s
  | .aoutFltClear req bits => Sys2Proof.Machine.execAoutFltClear req bits s
  | .avoGood => Sys2Proof.Machine.execAvoGood s
  | .avoFail => Sys2Proof.Machine.execAvoFail s
  | .vrefaRange => Sys2Proof.Machine.execVrefaRange s
  | .pwrNop req key => Sys2Proof.Machine.execPwrNop req key s
  | .watch req retain key => Sys2Proof.Machine.execWatch req retain key s
  | .halt req retain lfstop key => Sys2Proof.Machine.execHalt req retain lfstop key s
  | .domainVote hcsnLow vtxBelow2 addressed => Sys2Proof.Machine.execDomainVote hcsnLow vtxBelow2 addressed s
  | .pwrAbort still => Sys2Proof.Machine.execPwrAbort still s
  | .powerCommit => Sys2Proof.Machine.execPowerCommit s
  | .lostEdgeWindowEnd => Sys2Proof.Machine.execLostEdgeWindowEnd s
  | .wakereqWake level => Sys2Proof.Machine.execWakereqWake level s
  | .hcsnWake => Sys2Proof.Machine.execHcsnWake s
  | .timerWake => Sys2Proof.Machine.execTimerWake s
  | .wakeSequence => Sys2Proof.Machine.execWakeSequence s
  | .wakestatClear req bits => Sys2Proof.Machine.execWakestatClear req bits s
  | .nightcapScan us caps => Sys2Proof.Machine.execNightcapScan us caps s
  | .nightcapDetAck req bits => Sys2Proof.Machine.execNightcapDetAck req bits s
  | .tbstatAck req => Sys2Proof.Machine.execTbstatAck req s
  | .tbloRead req => Sys2Proof.Machine.execTbloRead req s
  | .discovery step => Sys2Proof.Machine.execDiscovery step s
  | .enum own x => Sys2Proof.Machine.execEnum own x s
  | .config c => Sys2Proof.Machine.execConfig c s
  | .enumRepeat => Sys2Proof.Machine.execEnumRepeat s
  | .noRing => Sys2Proof.Machine.execNoRing s
  | .noRoot => Sys2Proof.Machine.execNoRoot s
  | .packetReceive port rx => Sys2Proof.Machine.execPacketReceive port rx s
  | .nak port sends => Sys2Proof.Machine.execNak port sends s
  | .linkDown port => Sys2Proof.Machine.execLinkDown port s
  | .linkUp port => Sys2Proof.Machine.execLinkUp port s
  | .syncPulse dt => Sys2Proof.Machine.execSyncPulse dt s
  | .syncFault => Sys2Proof.Machine.execSyncFault s
  | .frameStartMissing => Sys2Proof.Machine.execFrameStartMissing s
  | .fparam => Sys2Proof.Machine.execFparam s
  | .fparamReceive x => Sys2Proof.Machine.execFparamReceive x s
  | .linkLate => Sys2Proof.Machine.execLinkLate s
  | .eOrderedSet chip e => Sys2Proof.Machine.execEOrderedSet chip e s
  | .hopOrderedSet x chip => Sys2Proof.Machine.execHopOrderedSet x chip s
  | .leaving x => Sys2Proof.Machine.execLeaving x s
  | .devLost pos => Sys2Proof.Machine.execDevLost pos s
  | .devReturn pos => Sys2Proof.Machine.execDevReturn pos s
  | .cuffArrival side signal frame values words => Sys2Proof.Machine.execCuffArrival side signal frame values words s
  | .cuffLate side => Sys2Proof.Machine.execCuffLate side s
  | .subblobListArrival pos frame recs rest => Sys2Proof.Machine.execSubblobListArrival pos frame recs rest s
  | .listTimeout => Sys2Proof.Machine.execListTimeout s
  | .remoteNop req => Sys2Proof.Machine.execRemoteNop req s
  | .remoteRead req pos addr => Sys2Proof.Machine.execRemoteRead req pos addr s
  | .remoteWrite req pos addr => Sys2Proof.Machine.execRemoteWrite req pos addr s
  | .remoteReset req pos all => Sys2Proof.Machine.execRemoteReset req pos all s
  | .remoteTimeout => Sys2Proof.Machine.execRemoteTimeout s
  | .faultMessageAccept => Sys2Proof.Machine.execFaultMessageAccept s
  | .collectorParity offset => Sys2Proof.Machine.execCollectorParity offset s
  | .statusClear req k bits => Sys2Proof.Machine.execStatusClear req k bits s
  | .firstclr req => Sys2Proof.Machine.execFirstclr req s
  | .logclr req key => Sys2Proof.Machine.execLogclr req key s
  | .selftestNop req => Sys2Proof.Machine.execSelftestNop req s
  | .fullTest req => Sys2Proof.Machine.execFullTest req s
  | .quickTest via => Sys2Proof.Machine.execQuickTest via s
  | .selftestAbort req => Sys2Proof.Machine.execSelftestAbort req s
  | .rxmaskClear req k bits => Sys2Proof.Machine.execRxmaskClear req k bits s
  | .testKey req value => Sys2Proof.Machine.execTestKey req value s
  | .fuse req value => Sys2Proof.Machine.execFuse req value s
  | .injGo req src kind sev => Sys2Proof.Machine.execInjGo req src kind sev s
  | .brst req page => Sys2Proof.Machine.execBrst req page s
  | .apply req page => Sys2Proof.Machine.execApply req page s
  | .plockSet req page set key => Sys2Proof.Machine.execPlockSet req page set key s
  | .vinLow below mv100 => Sys2Proof.Machine.execVinLow below mv100 s
  | .vrefaReturn => Sys2Proof.Machine.execVrefaReturn s

end Sys2Proof.Machine
end

