-- ==== Sys2Proof/Machine/Step.lean ====
section
/-!
DEFINITION. One step of the block: the command at the front of the queue; on an empty queue, one microsecond of idling in
which the fault collector goes on (log 43).
-/

namespace Sys2Proof.Machine

/-- The block idles for one cycle of the timebase: the collector accepts what waits, and TB counts (16 R420, 17 R434). -/
def State.idle (s : State) : State := (if s.collectorRuns then s.collect else s).tbCycle

/-- One step. -/
def step (s : State) : Host.Outcome State Fault Refusal :=
  match s.pending with
  | [] => done s s.idle
  | c :: rest => exec c { s with pending := rest }

/-- The state with the command that a word spells put at the front of its queue; no row of the table gives its command
bits, so no word spells one. -/
def State.withFetchWord (s : State) (nbits w : Nat) : State :=
  match decodeTableWord nbits w with
  | some c => { s with pending := c :: s.pending }
  | none => s

end Sys2Proof.Machine
end

