-- ==== Sys2Proof/WellFormed.lean ====
section
/-!
DEFINITION. The well-formed commands: an operand that carries one measurement for each channel, converter, sensor or zone
has as many entries as the block has of them, and a code that a rule defines by exclusion or by a table is of that table.
The meanings are total and do not need this.
-/

namespace Sys2Proof

open Sys2Proof.Machine

/-- Why a command is ill-formed. -/
inductive IllFormed where
  /-- FRAME_START: not one temperature for each of the four die sensors (16 R424). -/
  | sensors
  /-- LISTEN_WINDOW_END, CHIP_END: not one power for each of the 96 channels (01 R18, 05 R130). -/
  | powers
  /-- BURST_END: not one list of residuals for each of the 96 channels (01 R18, 05 R130). -/
  | residuals
  /-- SELF_PASS_END, TEST_PASS_END: not one capacitance for each of the 96 converters (06 R152). -/
  | caps
  /-- NIGHTCAP_SCAN: not one count for each of the 16 zones (16 R415). -/
  | zones
  /-- ISA_ILLEGAL_OPCODE: the opcode is defined (11 R291). -/
  | opcode
  /-- TRAP_ENTRY: no trap reports this cause (10 R288). -/
  | cause
  /-- BAD_COMMAND: the code is that of a command (12 R316). -/
  | code
  /-- CONFIG: the map does not list 2 to 8 devices, or the member's position is not of it (14 R362). -/
  | map
  /-- CUFF_ARRIVAL: not two words of channel status (14 R373). -/
  | words
  /-- FPARAM_RECEIVE: the table is not one of the five, or the frequency index not one of 32 (14 R368). -/
  | table
  deriving DecidableEq, Repr

/-- A check that refuses under a name. -/
def refuseIf (bad : Bool) (name : IllFormed) : Option IllFormed := if bad then some name else none

/-- The check of a command: the name of what is wrong, if something is. -/
def Instr.check : Instr → Option IllFormed
  | .frameStart _ meas => refuseIf (meas.temps.length ≠ 4) .sensors
  | .listenWindowEnd powers => refuseIf (powers.length ≠ 96) .powers
  | .chipEnd powers => refuseIf (powers.length ≠ 96) .powers
  | .burstEnd residuals => refuseIf (residuals.length ≠ 96) .residuals
  | .selfPassEnd caps => refuseIf (caps.length ≠ 96) .caps
  | .testPassEnd caps => refuseIf (caps.length ≠ 96) .caps
  | .nightcapScan _ caps => refuseIf (caps.length ≠ 16) .zones
  | .isaIllegalOpcode _ op => refuseIf (definedOpcodes.contains op.toNat) .opcode
  | .trapEntry _ cause _ => refuseIf (!trapCauses.contains cause.toNat) .cause
  | .badCommand code => refuseIf ([0x02, 0x04, 0x0A, 0xFF].contains code.toNat) .code
  | .config c => refuseIf (c.map.length < 2 || 8 < c.map.length || c.map.length ≤ c.pos) .map
  | .cuffArrival _ _ _ _ words => refuseIf (words.length ≠ 2) .words
  | .fparamReceive x => refuseIf (4 < x.what.table || 31 < x.what.fidx) .table
  | _ => none

/-- A command is well-formed. -/
def Instr.wf (i : Instr) : Bool := i.check.isNone

end Sys2Proof
end

