-- ==== Sys2Proof/Safety.lean ====
section
/-!
DEFINITION. What the statements call a sound state and a safe step.
-/

namespace Sys2Proof.Machine

/-- The invariant of the block: TB is a 48-bit and the frame counter a 32-bit number (17 R452, 08 R222), and every command
that waits is well-formed. -/
def State.Inv (s : State) : Prop :=
  s.pow.tb < tbMod ∧ s.scan.frame < 0x100000000 ∧ ∀ c ∈ s.pending, c.wf = true

/-- The machine goes on: neither a fault nor a refusal. -/
def GoesOn (o : Host.Outcome State Fault Refusal) : Prop := ∃ t, o = .next t

/-- The command completes from a state, and `P` holds of the state it answers. -/
def Completes (c : Instr) (s : State) (P : State → Prop) : Prop := ∃ t, exec c s = .next t ∧ P t

/-- Nothing but stored register fields differs, and of those only fields of the list do. -/
def OnlyFields (s t : State) (l : List Fld) : Prop :=
  (∃ rs, t = s.finish { s with regs := rs }) ∧ ∀ f : Fld, f.key ∉ l.map Fld.key → t.get f = s.get f

/-- The checks 1 to 3 of R460 and the rules before them let a write of the requester reach the fields of the register at
offset `off` of page `p`. -/
abbrev State.Admits (s : State) (req : Requester) (p off : Nat) : Prop :=
  s.mayWrite req = true ∧ s.discards req p off = false ∧ ¬(reqOutside req = true ∧ s.early = true ∧ earlyPage p = false)
    ∧ pageAssigned p = true ∧ (p = 0xF0 → s.testOpen = true)
    ∧ (reqEngine req = true → s.flag (R.PCTRL_EN p) = true)
    ∧ ¬(s.flag (R.PLOCK_LOCKED p) = true ∧ lockedOffset off = true)

end Sys2Proof.Machine
end

