-- ==== Sys2Proof/Certificates/Slice0/Obligations.lean ====
section
/-!
DEFINITION. The statements about the block: the step, the invariant, and what every command does where it takes effect.
-/

namespace Sys2Proof.Machine

/-- A command of a requester that clears a list of counters through the register at `off` of page `p`. -/
def Clears (c : Requester → Instr) (p off : Nat) (l : List Fld) : Prop :=
  ∀ (s : State) (req : Requester), s.Admits req p off →
    Completes (c req) s fun t => OnlyFields s t l ∧ ∀ f ∈ l, t.get f = 0

/-- A reset leaves the contents of the store, but for a line whose program it interrupts: that line reads open data, and has
an uncorrectable error or fails the CRC-32 of its image (03 R63, R74). -/
def StoreStays (s t : State) : Prop :=
  (s.nvs.running = none → t.nvs.cells = s.nvs.cells ∧ t.nvs.torn = s.nvs.torn ∧ t.nvs.spoilt = s.nvs.spoilt)
  ∧ (Memory.wf s.nvs.cells = true → ∀ a : Nat, s.nvs.running ≠ some (a / 32) →
      Memory.read t.nvs.cells a = Memory.read s.nvs.cells a)
  ∧ (∀ l : Nat, s.nvs.running = some l → l ∈ t.nvs.torn ∨ l ∈ t.nvs.spoilt)
  ∧ t.nvs.job = none ∧ t.nvs.cap = none ∧ t.nvs.reloc = none ∧ t.nvs.prog = none

/-- What a reset with cause `cause` leaves (03 R63, R64): the cause is recorded beside the earlier ones, the one-time fuse
stays, the store stays but for an interrupted line, LFXOK shows the crystal, and all else that the reset reaches is at its reset
value. What the memories hold after a reset the spec leaves open: that they are empty, and what the dispatcher and the pipeline
start with, are the model's choice (logs 6 and 78). -/
def AfterReset (s t : State) (cause : Fld) : Prop :=
  t.get cause = 1
  ∧ (∀ f ∈ [R.DEVICE_RSTCAUSE_POR, R.DEVICE_RSTCAUSE_PIN, R.DEVICE_RSTCAUSE_SOFT, R.DEVICE_RSTCAUSE_LINK, R.TEST_STAT_FUSED],
      f.key ≠ cause.key → t.get f = s.get f % 2)
  ∧ t.get R.CLOCK_TBSTAT_LFXOK = b2n s.sup.lfx
  ∧ (∀ f : Fld, f.key ∉ [R.DEVICE_RSTCAUSE_POR, R.DEVICE_RSTCAUSE_PIN, R.DEVICE_RSTCAUSE_SOFT, R.DEVICE_RSTCAUSE_LINK,
      R.TEST_STAT_FUSED, R.CLOCK_TBSTAT_LFXOK].map Fld.key → t.get f = f.reset)
  ∧ StoreStays s t
  ∧ t.pow.tb = 0 ∧ t.pow.state = .run ∧ t.flt = Faults.reset ∧ t.queues = List.replicate 4 Queue.reset
  ∧ t.engines = (List.range 32).map Engine.reset ∧ t.iram = [] ∧ t.fmem = [] ∧ t.disp = Disp.reset ∧ t.pipe = Pipe.reset

end Sys2Proof.Machine

open Sys2Proof Sys2Proof.Machine

/-! ### The step -/

/-- A step takes the command at the front of the queue and runs it on the state with the rest of the queue. On an
empty queue the block idles for one cycle of the timebase (the model's choice: log 43). -/
def Obligations.TheStepTakesTheFrontCommand : Prop :=
  (∀ (c : Instr) (l : List Instr) (s : State), s.pending = c :: l → step s = exec c { s with pending := l })
  ∧ (∀ s : State, s.pending = [] → ∃ t, step s = .next t ∧ t = s.finish s.idle ∧ t.pending = []
      ∧ (s.sup.on = true → s.get R.CLOCK_TBSTAT_SRC = 0 → s.flt.queue = [] → t.pow.tb = (s.pow.tb + 1) % 0x1000000000000))

/-- No command touches the queue of those that wait. -/
def Obligations.CommandsKeepTheQueue : Prop :=
  ∀ (c : Instr) (s t : State), exec c s = .next t → t.pending = s.pending

/-- Every command answers a next state: none stops the block. -/
def Obligations.NoCommandStopsTheBlock : Prop := ∀ (c : Instr) (s : State), GoesOn (exec c s)

/-- The state after reset is sound. -/
def Obligations.ResetIsSound : Prop := State.reset.Inv

/-- Every step of the block keeps the invariant. -/
def Obligations.StepsKeepTheInvariant : Prop := ∀ s t : State, s.Inv → step s = .next t → t.Inv

/-! ### Commands that clear counters -/

/-- Each clear command sets its counters to 0 and changes nothing else. -/
def Obligations.ClearCommandsClearTheirCounters : Prop :=
  Clears .hostportErrclr 0x05 0x2C [R.HOSTPORT_ERR_BADCMD, R.HOSTPORT_ERR_ALIGN, R.HOSTPORT_ERR_UNDER, R.HOSTPORT_ERR_CUT]
  ∧ Clears .twowireErrclr 0x06 0x30
      [R.TWOWIRE_ERR_BUSABORT, R.TWOWIRE_ERR_STRETCHTMO, R.TWOWIRE_ERR_ARBLOST, R.TWOWIRE_ERR_BUSCLEAR]
  ∧ Clears .linkErrclr 0x08 0x3C
      [R.LINK_ERRUP_CODE, R.LINK_ERRUP_CRC, R.LINK_ERRUP_LOSTPK, R.LINK_ERRUP_DOWN, R.LINK_ERRDN_CODE, R.LINK_ERRDN_CRC,
        R.LINK_ERRDN_LOSTPK, R.LINK_ERRDN_DOWN, R.LINK_ERRC_LATE, R.LINK_ERRC_LLATE, R.LINK_ERRC_FPAB, R.LINK_ERRC_SYNCERR]
  ∧ (∀ k : Fin 4, Clears (.sliceCntclr · k) (0x10 + k) 0x34 [R.SLICE_ERRCNT_OVLCNT k, R.SLICE_ERRCNT_CLPCNT k])
  ∧ Clears .pipeCntclr 0x1A 0x54 [R.PIPE_CNT_DROPPED, R.PIPE_CNT_OVERRUN]
  ∧ Clears .workringErrclr 0x50 0x40
      [R.WORKRING_ERR_LOST, R.WORKRING_ERR_WTMO, R.WORKRING_ERR_EXTOVR, R.WORKRING_ERR_PARKLATE]
  ∧ Clears .workringPeakclr 0x50 0x40 [R.WORKRING_CRIT_PEAKUS]
  ∧ Clears .nvsCorrclr 0x03 0x28 [R.NVS_STAT_CORR]

/-! ### Commands through keyed and command registers -/

/-- A NOP command, while its unit is not busy, changes nothing. -/
def Obligations.NopCommandsChangeNothing : Prop :=
  (∀ (s : State) (req : Requester) (key : BitVec 16), s.Admits req 0x03 0x20 → s.get R.NVS_STAT_BUSY = 0 →
    exec (.nvsNop req key) s = .next (s.finish s))
  ∧ (∀ (s : State) (req : Requester), s.Admits req 0x06 0x38 → s.get R.TWOWIRE_CSTAT_BUSY = 0 →
    exec (.twiNop req) s = .next (s.finish s))
  ∧ (∀ (s : State) (req : Requester), s.Admits req 0x19 0x20 → s.get R.CAL_STAT_BUSY = 0 →
    exec (.calNop req) s = .next (s.finish s))
  ∧ (∀ (s : State) (req : Requester), s.Admits req 0x08 0x40 → s.panel.pos = 0 → s.isMember = false →
    s.get R.LINK_RSTAT_BUSY = 0 → exec (.remoteNop req) s = .next (s.finish s))
  ∧ (∀ (s : State) (req : Requester), s.Admits req 0x04 0x98 → s.st.kind ≠ 3 → s.get R.FAULT_STSTAT_BUSY = 0 →
    exec (.selftestNop req) s = .next (s.finish s))
  ∧ (∀ (s : State) (req : Requester) (key : BitVec 16), s.Admits req 0x01 0x20 → s.pow.voting = none →
    exec (.pwrNop req key) s = .next (s.finish s))

/-- A command written while its unit is busy does nothing but set REFUSED. Bit errors that READ_LINE and VERIFY_BANK bring with
them come into the store all the same (the model's choice: log 100), and a PWR.CMD with a wrong key is refused too (log 56). -/
def Obligations.BusyUnitsRefuseCommands : Prop :=
  (∀ (s : State) (req : Requester) (key : BitVec 16), s.Admits req 0x03 0x20 → s.get R.NVS_STAT_BUSY = 1 →
    ∀ c ∈ [Instr.nvsNop req key, .programLine req key, .confirm req key, .saveConfig req key, .invalidateBank req key],
      exec c s = .next (s.finish (s.set R.NVS_STAT_REFUSED 1)))
  ∧ (∀ (s : State) (req : Requester) (a : NvsAccess), s.Admits req 0x03 0x20 → s.get R.NVS_STAT_BUSY = 1 →
    ∀ c ∈ [Instr.readLine req a, .verifyBank req a],
      exec c s = .next (s.finish ((s.flip a.flips).set R.NVS_STAT_REFUSED 1)))
  ∧ (∀ (s : State) (req : Requester) (mask code o : Byte) (d : Option (Byte × Byte)) (l : List Nat) (b : Bool)
      (x : BitVec 16), s.Admits req 0x19 0x20 → s.get R.CAL_STAT_BUSY = 1 →
    (∀ c ∈ [Instr.calNop req, .lfTrim (some req) code, .captureRef (some req) o],
      exec c s = .next (s.finish (s.set R.CAL_STAT_REFUSED 1)))
    ∧ (0 < mask.toNat → exec (.aoutCal (some req) mask b b b x x) s = .next (s.finish (s.set R.CAL_STAT_REFUSED 1)))
    ∧ (0 < mask.toNat → mask.toNat < 16 →
      exec (.feCal (some req) mask d l) s = .next (s.finish (s.set R.CAL_STAT_REFUSED 1))))
  ∧ (∀ (s : State) (req : Requester) (pos : Fin 8) (addr : BitVec 16), s.Admits req 0x08 0x40 → s.panel.pos = 0 →
    s.isMember = false → pos ≠ 0 → s.get R.LINK_RSTAT_BUSY = 1 →
    ∀ c ∈ [Instr.remoteNop req, .remoteRead req pos addr, .remoteWrite req pos addr, .remoteReset req pos false,
      .remoteReset req pos true],
      exec c s = .next (s.finish (s.set R.LINK_RSTAT_REFUSED 1)))
  ∧ (∀ (s : State) (req : Requester), s.Admits req 0x04 0x98 → s.get R.FAULT_STSTAT_BUSY = 1 →
    ∀ c ∈ [Instr.selftestNop req, .fullTest req, .quickTest (some req)],
      exec c s = .next (s.finish (s.set R.FAULT_STSTAT_REFUSED 1)))
  ∧ (∀ (s : State) (req : Requester) (key : BitVec 16) (b d : Bool), s.Admits req 0x01 0x20 → s.pow.voting ≠ none →
    ∀ c ∈ [Instr.pwrNop req key, .watch req b key, .halt req b d key],
      exec c s = .next (s.finish (s.set R.PWR_STAT_REFUSED 1)))

/-- Writing 1 to an acknowledge bit clears that bit and no other. -/
def Obligations.AcknowledgementsClearTheirBits : Prop :=
  (∀ (s : State) (req : Requester) (bits : BitVec 4), s.Admits req 0x07 0x24 →
    Completes (.irqPendClear req bits) s fun t => OnlyFields s t [R.IRQ_PEND_EVENT]
      ∧ ∀ i : Fin 4, (t.get R.IRQ_PEND_EVENT).testBit i = ((s.get R.IRQ_PEND_EVENT).testBit i && !bits.getLsbD i))
  ∧ (∀ (s : State) (req : Requester) (bits : BitVec 8), s.Admits req 0x21 0x2C →
    Completes (.nightcapDetAck req bits) s fun t => OnlyFields s t [R.NIGHTCAP_DET]
      ∧ ∀ i : Fin 8, (t.get R.NIGHTCAP_DET).testBit i = ((s.get R.NIGHTCAP_DET).testBit i && !bits.getLsbD i))
  ∧ (∀ (s : State) (req : Requester) (bits : BitVec 4), s.Admits req 0x01 0x30 →
    Completes (.wakestatClear req bits) s fun t =>
      (∃ rs, t = s.finish { s with
        regs := rs, pow := if bits.getLsbD 3 then { s.pow with timerCause := false } else s.pow })
      ∧ (∀ f : Fld, f.key ≠ R.PWR_WAKESTAT_SRC.key → t.get f = s.get f)
      ∧ ∀ i : Fin 4, (t.get R.PWR_WAKESTAT_SRC).testBit i = ((s.get R.PWR_WAKESTAT_SRC).testBit i && !bits.getLsbD i))
  ∧ (∀ (s : State) (req : Requester), s.Admits req 0x02 0x28 →
    Completes (.tbstatAck req) s fun t => OnlyFields s t [R.CLOCK_TBSTAT_VALID, R.CLOCK_TBSTAT_ACC]
      ∧ t.get R.CLOCK_TBSTAT_VALID = 1 ∧ t.get R.CLOCK_TBSTAT_ACC = s.get R.CLOCK_TBSTAT_SRC % 4)

/-! ### Supplies, resets and boot -/

/-- Every reset of a running device, by pin, by command and over the link, leaves the state of a reset with its
cause; the contents of the memories after it are the model's choice (logs 6 and 78). A short pulse on RESETn, and a
write of RSTCMD with a wrong key, reset nothing. -/
def Obligations.Resets : Prop :=
  ((∀ (s : State) (ns : Nat) (pins : StrapPins), s.sup.on = true → s.sup.vioGood = true → 2000 ≤ ns →
      Completes (.resetnReset ns pins) s fun t => AfterReset s t R.DEVICE_RSTCAUSE_PIN ∧ t.sup.pins = pins)
    ∧ (∀ (s : State) (req : Requester), s.Admits req 0x00 0x30 →
      Completes (.rstcmdReset req true 0x5A1D) s fun t => AfterReset s t R.DEVICE_RSTCAUSE_SOFT)
    ∧ (∀ s : State, s.up = true → s.get R.DEVICE_STRAPS_SAMPLED = 1 → s.get R.DEVICE_STRAPS_ROOT = 0 →
      Completes .linkReset s fun t => AfterReset s t R.DEVICE_RSTCAUSE_LINK))
  ∧ ((∀ (s : State) (ns : Nat) (pins : StrapPins), ns < 500 → exec (.resetnReset ns pins) s = .next s)
    ∧ (∀ (s : State) (req : Requester) (go : Bool) (key : BitVec 16), s.Admits req 0x00 0x30 → key ≠ 0x5A1D →
      exec (.rstcmdReset req go key) s = .next (s.finish (s.wrerr 0x00 0x30))))

/-- Power-on brings the device out of OFF with POR as its only reset cause. A lockout, as it is detected, stops drive
and scanning and parks the outputs; then FAULT is asserted and the ports are released; at last the device is in OFF.
The boot sequence runs once after a reset. With BOOTSEL naming a bank, that bank boots where its image verifies, else
the other one where that verifies: its code is in the instruction RAMs, the engines run, and the boot goes on to
discovery or to the acquisition. Where no bank has the image format, the device enters the loader state and reports
NO_IMAGE. In the fault safe state only the straps are sampled and the port becomes ready (the model's choice: log
104). -/
def Obligations.PowerOnAndBoot : Prop :=
  ((∀ (s : State) (vio : Bool) (pins : StrapPins), s.sup.on = false →
      Completes (.powerOn vio pins) s fun t => t.sup.on = true ∧ t.sup.vioGood = vio ∧ t.get R.DEVICE_RSTCAUSE_POR = 1
        ∧ t.get R.DEVICE_RSTCAUSE_PIN = 0 ∧ t.get R.DEVICE_RSTCAUSE_SOFT = 0 ∧ t.get R.DEVICE_RSTCAUSE_LINK = 0
        ∧ t.get R.DEVICE_BOOT_STAGE = 0 ∧ StoreStays s t)
    ∧ (∀ s : State, s.sup.on = true → s.sup.lockout = false → Completes (.lockoutShutdown .detected) s fun t =>
        t.sup = { s.sup with lockout := true } ∧ t.nvs = s.nvs ∧ t.scan.started = false ∧ t.get R.DRIVE_STAT_VTXACT = 0
        ∧ ∀ n : Fin 8, t.outState n = 0 ∨ t.outState n = 1)
    ∧ (∀ s : State, s.sup.on = true → s.sup.lockout = true → Completes (.lockoutShutdown .released) s fun t =>
        t.sup = { s.sup with portReady := false } ∧ t.regs = s.regs ∧ t.hostAnswers = false
        ∧ (s.sup.vioGood = true → t.faultPin = true))
    ∧ (∀ s : State, s.sup.on = true → Completes (.lockoutShutdown (.off false)) s fun t => t.sup.on = false
        ∧ StoreStays s t ∧ t.pow.tb = 0 ∧ t.get R.DEVICE_BOOT_STAGE = 0)
    ∧ (∀ s : State, s.sup.on = true → Completes (.lockoutShutdown (.off true)) s fun t => t.sup.on = false
        ∧ StoreStays (s.endLine 0) t ∧ t.pow.tb = 0 ∧ t.get R.DEVICE_BOOT_STAGE = 0))
  ∧ (∀ s : State, s.up = true → s.sup.vioGood = true → s.get R.DEVICE_BOOT_STAGE = 0 → s.sup.portReady = false →
      s.sup.lockout = false →
      Completes .bootSequence s fun t =>
        (s.flt.safe = false → s.get R.DEVICE_STRAPS_SAMPLED = 0 → ∀ (n : Fin 6) (b : Nat), s.sup.pins.bootsel = some n →
          n.val < 4 → (b = n.val % 2 ∧ s.verifyImage b = 0 ∨ b = 1 - n.val % 2 ∧ s.verifyImage (1 - b) ≠ 0 ∧ s.verifyImage b = 0) →
          t.get R.DEVICE_BOOT_BANK = b ∧ (t.get R.DEVICE_BOOT_STAGE = 5 ∨ t.get R.DEVICE_BOOT_STAGE = 6)
          ∧ (s.sup.pins.root = false → t.get R.DEVICE_BOOT_STAGE = 5)
          ∧ (b ≠ n.val % 2 → t.get R.DEVICE_BOOT_FALLBACK = 1)
          ∧ t.sup.portReady = true ∧ (∀ e ∈ t.engines, e.state = .run)
          ∧ ∀ a : Nat, Memory.read t.iram a =
            if a < s.img32 b 0x1C then Memory.read s.nvs.cells (bankBase b + s.img32 b 0x18 + a) else Memory.empty)
        ∧ (s.flt.safe = true → t.sup.portReady = true ∧ t.get R.DEVICE_STRAPS_SAMPLED ≠ 0 ∧ t.get R.DEVICE_BOOT_STAGE = 0)
        ∧ (s.flt.safe = false → s.get R.DEVICE_STRAPS_SAMPLED = 0 → s.imageFormatOk 0 = false → s.imageFormatOk 1 = false → s.sup.pins.bootsel = some 5 →
          t.get R.DEVICE_BOOT_STAGE = 8 ∧ t.get R.DEVICE_BOOT_BANK = 2 ∧ t.isLive Kind.noImage = true))

/-- The supply, clock and temperature events: what each marks, and the condition that each begins or ends. -/
def Obligations.SupplyEvents : Prop :=
  (∀ (s : State) (amp : Bool), s.sup.on = true → s.get R.DEVICE_BOOT_STAGE = 0 → s.sup.portReady = false →
    exec (.crystalRestart amp) s = .next (s.finish { s with sup := { s.sup with oscHeld := !amp } }))
  ∧ (∀ s : State, s.up = true → s.get R.DEVICE_STRAPS_SAMPLED = 1 → s.sup.vioGood = true →
    Completes .vioLoss s fun t => t.sup.vioGood = false ∧ t.isLive Kind.vioLoss = true ∧ t.scan.phase = s.scan.phase ∧ t.scan.started = s.scan.started
      ∧ t.get R.TWOWIRE_STAT_JOINED = 0 ∧ ∀ f : Fld, f.key ≠ R.TWOWIRE_STAT_JOINED.key → t.get f = s.get f)
  ∧ (∀ (s : State) (pins : StrapPins), Completes (.vioReturn pins) s fun t => t.sup.vioGood = true
      ∧ (Kind.vioLoss, 0) ∉ t.flt.live ∧ t.get R.TWOWIRE_STAT_JOINED = 0
      ∧ t.get R.DEVICE_STRAPS_BOOTSEL = s.get R.DEVICE_STRAPS_BOOTSEL ∧ t.get R.DEVICE_STRAPS_ADDR = s.get R.DEVICE_STRAPS_ADDR)
  ∧ (∀ s : State, s.inRun = true → Completes .clkLoss s fun t => t.sup.refclk = false ∧ (Kind.clkLoss, 0) ∈ t.flt.live
      ∧ t.regs = s.regs)
  ∧ (∀ (s : State) (n : Fin 4), s.sup.on = true → Completes (.thermal n) s fun t => (Kind.thermal, n.val) ∈ t.flt.live
      ∧ t.regs = s.regs)
  ∧ (∀ s : State, s.up = true → s.pow.state = .run → Completes .lfCrystalFail s fun t => t.sup.lfx = false
      ∧ OnlyFields { s with sup := { s.sup with lfx := false } } t [R.CLOCK_TBSTAT_LFXOK] ∧ t.get R.CLOCK_TBSTAT_LFXOK = 0)
  ∧ (∀ s : State, s.sup.on = true → s.sup.oscHeld = true ∨ (s.pow.state ≠ .run ∧ s.flt.safe = false) →
      Completes .lfCrystalFail s fun t => t.get R.CLOCK_TBSTAT_LFXOK = 0 ∧ t.get R.CLOCK_TBSTAT_SRC = 2
        ∧ 2 ≤ t.get R.CLOCK_TBSTAT_ACC)
  ∧ (∀ s : State, s.sup.on = true → s.sup.pins.lfGnd = false → Completes .lfCrystalStable s fun t => t.sup.lfx = true
      ∧ t.get R.CLOCK_TBSTAT_LFXOK = 1
      ∧ (s.sup.oscHeld = true ∨ (s.pow.state ≠ .run ∧ s.flt.safe = false) → s.get R.CLOCK_LFCTL = 0 →
        t.get R.CLOCK_TBSTAT_SRC = 1))
  ∧ (∀ (s : State) (mv : BitVec 16), s.sup.on = true →
      Completes (.vinLow true mv) s (fun t => (Kind.vinLow, 0) ∈ t.flt.live ∧ t.regs = s.regs
        ∧ (s.vinDrops mv.toNat = true → t.scan.dropout = true))
      ∧ Completes (.vinLow false mv) s fun t => (Kind.vinLow, 0) ∉ t.flt.live ∧ t.regs = s.regs)

/-! ### The non-volatile store -/

/-- The commands of NVS.CMD, where the unit is not busy: results, refusals and the jobs that they start. That a
command which writes no line ends at once with BUSY 0 is the model's choice (log 82), and so is RANGE of a
VERIFY_BANK outside both banks and the order of the refusals (log 104); bit errors come with a command that reads
(log 100). The store's own events: a line of a foreground command completes or fails, a relocation starts, a record
of the persistent log is written. Whether a line program fails is an open value (the model's choice: log 61). -/
def Obligations.NonvolatileStore : Prop :=
  ((∀ (s : State) (req : Requester) (a : NvsAccess), s.Admits req 0x03 0x20 → s.get R.NVS_STAT_BUSY = 0 →
      s.nvs.prog = none →
      Completes (.readLine req a) s fun t => t.get R.NVS_STAT_BUSY = 0
        ∧ t.get R.NVS_STAT_RESULT = (if s.get R.NVS_ADDR ∈ (s.flip a.flips).nvs.torn then 8 else 0)
        ∧ (s.get R.NVS_ADDR ∉ (s.flip a.flips).nvs.torn → ∀ i : Fin 8,
          t.get (R.NVS_RBUF i) = ofBytes ((s.lineBytes (s.get R.NVS_ADDR)).drop (4 * i) |>.take 4)))
    ∧ (∀ (s : State) (req : Requester) (key : BitVec 16), s.Admits req 0x03 0x20 → s.get R.NVS_STAT_BUSY = 0 → key ≠ 0xB05A →
      ∀ c ∈ [Instr.programLine req key, .saveConfig req key, .invalidateBank req key],
        exec c s = .next (s.finish ((s.set R.NVS_STAT_BUSY 0).set R.NVS_STAT_RESULT 1)))
    ∧ (∀ (s : State) (req : Requester), s.Admits req 0x03 0x20 → s.get R.NVS_STAT_BUSY = 0 →
      Completes (.programLine req 0xB05A) s fun t =>
        if s.programRefusal (s.get R.NVS_ADDR) = 0 then
          t.get R.NVS_STAT_BUSY = 1 ∧ t.nvs.job = some ⟨.programLine (s.get R.NVS_ADDR) s.wbuf, 1⟩
        else t.get R.NVS_STAT_BUSY = 0 ∧ t.get R.NVS_STAT_RESULT = s.programRefusal (s.get R.NVS_ADDR) % 16 ∧ t.nvs = s.nvs)
    ∧ (∀ (s : State) (req : Requester) (a : NvsAccess), s.Admits req 0x03 0x20 → s.get R.NVS_STAT_BUSY = 0 →
      (s.nvs.prog ≠ none → ∀ c ∈ [Instr.readLine req a, .verifyBank req a],
        Completes c s fun t => t.get R.NVS_STAT_BUSY = 1 ∧ t.nvs.prog = s.nvs.prog)
      ∧ (s.nvs.prog = none → Completes (.verifyBank req a) s fun t => t.get R.NVS_STAT_BUSY = 0
        ∧ t.get R.NVS_STAT_RESULT = (match lineBank (s.get R.NVS_ADDR) with
          | none => 2
          | some b => (s.flip a.flips).verifyImage b % 16)))
    ∧ (∀ (s : State) (req : Requester) (key : BitVec 16), s.Admits req 0x03 0x20 → s.get R.NVS_STAT_BUSY = 0 →
      Completes (.confirm req key) s fun t =>
        if s.get R.DEVICE_BOOT_TRIAL = 0 then t.get R.NVS_STAT_RESULT = 0 ∧ t.nvs = s.nvs
        else t.get R.NVS_STAT_BUSY = 1 ∧ t.nvs.job = some ⟨.stateLine (s.get R.DEVICE_BOOT_BANK) true, 1⟩)
    ∧ (∀ (s : State) (req : Requester) (k : Nat) (l : List Nat), s.Admits req 0x03 0x20 → s.get R.NVS_STAT_BUSY = 0 →
      s.get R.DEVICE_BOOT_STAGE = 7 → s.freeSlots = k :: l →
      Completes (.saveConfig req 0xB05A) s fun t => t.get R.NVS_STAT_BUSY = 1
        ∧ t.nvs.job = some ⟨.saveConfig k ⟨s.nextSeq, s.cfgFmt, s.configNow⟩, 256⟩)
    ∧ (∀ (s : State) (req : Requester) (b : Nat), s.Admits req 0x03 0x20 → s.get R.NVS_STAT_BUSY = 0 →
      s.programRefusal (s.get R.NVS_ADDR) = 0 → lineBank (s.get R.NVS_ADDR) = some b →
      Completes (.invalidateBank req 0xB05A) s fun t => t.get R.NVS_STAT_BUSY = 1
        ∧ t.nvs.job = some ⟨.programLine (4096 * b) (List.replicate 32 0), 1⟩))
  ∧ ((∀ (s : State) (k : Nat) (r : CfgRec) (n : Nat) (p : LineProg), s.up = true → s.nvs.prog = some p → p.owner = .command →
      s.nvs.job = some ⟨.saveConfig k r, n⟩ → 1 < n → s.cal.capture = none →
      Completes .lineProgramDone s fun t => if s.programResult = 0
        then t.nvs.job = some ⟨.saveConfig k r, n - 1⟩ ∧ t.regs = s.regs ∧ t.nvs.cells = (s.writeLine p.line p.data).nvs.cells
        else t.nvs.job = none ∧ t.get R.NVS_STAT_BUSY = 0 ∧ t.get R.NVS_STAT_RESULT = s.programResult)
    ∧ (∀ (s : State) (l : Nat) (d : List Byte), s.up = true → s.nvs.prog = some ⟨.command, l, d⟩ →
      s.nvs.job = some ⟨.programLine l d, 1⟩ → keyLine l = none → l % 4096 ≠ 0 → s.cal.capture = none →
      Completes .lineProgramDone s fun t => t.nvs.job = none ∧ t.get R.NVS_STAT_BUSY = 0
        ∧ t.get R.NVS_STAT_RESULT = s.programResult
        ∧ (s.programResult = 0 → t.nvs.cells = (s.writeLine l d).nvs.cells))
    ∧ (∀ s : State, s.relocDue = true → Completes .relocation s fun t => t.get R.NVS_CFG_RELOC = 1
        ∧ t.nvs.reloc.isSome = true)
    ∧ (∀ (s : State) (r : BitVec 4) (x : LogRec) (l : List LogRec), s.inRun = true → 2 ∉ s.pow.stopped →
      4 ≤ s.get R.DEVICE_BOOT_STAGE → s.sup.lockout = false → s.nvs.prog = none → s.flt.plWait = x :: l →
      Completes (.persistentLogWrite r) s fun t => t.flt.plWait = l))

/-! ### Faults and the TEST page -/

/-- The commands of the FAULT page on what has been recorded. The collector accepts up to four messages in a cycle; a
parity error of its memory leads to the safe state. The write of one mask word unmasks the electrodes whose bits are
1 and leaves every other mask bit. A driver held in current limit is masked. -/
def Obligations.FaultCollector : Prop :=
  ((∀ (s : State) (req : Requester) (i : Fin 8) (bits : Word), s.Admits req 0x04 (0x40 + 4 * i) →
      Completes (.statusClear req i bits) s fun t => (∃ st, t = s.finish { s with flt := { s.flt with status := st } })
        ∧ ∀ b : Fin 32, t.latched (32 * i + b) =
          if bits.getLsbD b = true ∧ s.latched (32 * i + b) ≠ 0 then
            (if s.isLive (32 * i + b) then kindSev (32 * i + b) + 1 else 0)
          else s.latched (32 * i + b))
    ∧ (∀ (s : State) (req : Requester), s.Admits req 0x04 0x20 →
      Completes (.firstclr req) s fun t => t.flt = { s.flt with first := none }
        ∧ ∀ f : Fld, f.key ∉ [R.FAULT_CTL_PINSEV, R.FAULT_CTL_FFSEV].map Fld.key → t.get f = s.get f)
    ∧ (∀ (s : State) (req : Requester), s.Admits req 0x04 0x20 →
      Completes (.logclr req 0x10C5) s fun t => t.flt = { s.flt with log := [] } ∧ t.get R.FAULT_LOGSTAT_OVF = 0)
    ∧ (∀ (s : State) (req : Requester) (key : BitVec 16), s.Admits req 0x04 0x20 → key ≠ 0x10C5 →
      Completes (.logclr req key) s fun t => t.flt.log = s.flt.log ∧ t.get (R.PSTAT_WRERR 4) = 1))
  ∧ ((∀ s : State, s.sup.on = true → s.pow.lfStopped = false → exec .faultMessageAccept s = .next (s.finish s.collect))
    ∧ (∀ (s : State) (m : Msg), s.sup.on = true → s.pow.lfStopped = false → s.flt.queue = [m] → m.sev < 3 →
      Completes .faultMessageAccept s fun t => s.latched m.kind ≤ t.latched m.kind ∧ m.sev + 1 ≤ t.latched m.kind
        ∧ t.flt.safe = s.flt.safe)
    ∧ (∀ (s : State) (off : BitVec 8), s.sup.on = true → s.pow.lfStopped = false →
      Completes (.collectorParity off) s fun t => t.flt.safe = true ∧ (Kind.collectorParity, 0) ∈ t.flt.live))
  ∧ ((∀ (s : State) (req : Requester) (i : Fin 5) (bits : Word), s.Admits req 0x14 (0x60 + 4 * i) →
      Completes (.txfltUnmask req i bits) s fun t => ∀ b : Fin 32,
        t.masked (32 * i + b) = (s.masked (32 * i + b) && !bits.getLsbD b))
    ∧ (∀ (s : State) (req : Requester) (i : Fin 3) (bits : Word), s.Admits req 0x04 (0xF0 + 4 * i) →
      Completes (.rxmaskClear req i bits) s fun t => ∀ b : Fin 32,
        t.masked (0x100 + 32 * i + b) = (s.masked (0x100 + 32 * i + b) && !bits.getLsbD b)))
  ∧ (∀ (s : State) (pin : Fin 160), s.inRun = true → s.flt.safe = false → pin.val ∉ s.scan.txOff →
      Completes (.txShort pin) s fun t => t.masked pin = true ∧ pin.val ∈ t.scan.txOff ∧ (Kind.txShort, pin.val) ∈ t.flt.live
        ∧ (∀ k : Fin 160, k ≠ pin → t.masked k = s.masked k) ∧ t.st.shortTbs.head? = some (pin.val, s.pow.tb))

/-- The unlock sequence of the TEST page: three values in order, the last two within 1 ms of the first. The fuse
blows at the second of two writes of its key in a row; an injection raises the message of its operands. -/
def Obligations.TestPage : Prop :=
  (∀ (s : State) (req : Requester), s.mayWrite req = true → s.discards req 0xF0 0x20 = false →
      s.testOpen = false → s.testKeyOpen = true →
      exec (.testKey req 0x7E57) { s with tst := { s.tst with step := 0 } } =
        .next (s.finish { s with tst := { s.tst with step := 1, stepTb := s.pow.tb } })
      ∧ (∀ tb : Nat, tbDiff s.pow.tb tb ≤ 1000 →
        exec (.testKey req 0x1A3C) { s with tst := { s.tst with step := 1, stepTb := tb } } =
          .next (s.finish { s with tst := { s.tst with step := 2, stepTb := tb } })
        ∧ exec (.testKey req 0x5B9D) { s with tst := { s.tst with step := 2, stepTb := tb } } =
          .next (s.finish (({ s with tst := { s.tst with step := 0, stepTb := 0 } }).set R.TEST_STAT_UNLOCKED 1))))
  ∧ ((∀ (s : State) (req : Requester), s.Admits req 0xF0 0x30 →
      exec (.fuse req 0xF05E) { s with tst := { s.tst with fuseOnce := false } } =
        .next (s.finish { s with tst := { s.tst with fuseOnce := true } })
      ∧ Completes (.fuse req 0xF05E) { s with tst := { s.tst with fuseOnce := true } } fun t =>
        t.get R.TEST_STAT_FUSED = 1 ∧ t.get R.TEST_STAT_UNLOCKED = 0)
    ∧ (∀ (s : State) (req : Requester) (src kind : BitVec 8) (sev : BitVec 2), s.Admits req 0xF0 0x28 →
      sourceListed src.toNat = true → (kindTable.any fun r => r.kind = kind.toNat) = true →
      Completes (.injGo req src kind sev) s fun t => t.flt = (s.raise ⟨src.toNat, kind.toNat, sev.toNat,
        s.get R.TEST_INJAD_ADDR, s.get R.TEST_INJAD_DETAIL, true⟩).flt))

/-! ### Power states -/

/-- PWR.CMD starts a vote, or ends at once with the result that tells why not. A round of the vote, and its end by a
refusal that lasts or by the commit. At the commit every field that software writes keeps its value, and so do the
counters and results that R408 names, and with RETAIN the memories, the baselines and the tracks; without it what the
memories hold is open, and the model empties them (its choice: log 6). -/
def Obligations.PowerManager : Prop :=
  ((∀ (s : State) (req : Requester) (b d : Bool) (key : BitVec 16), s.Admits req 0x01 0x20 → s.pow.voting = none → key ≠ 0x9A17 →
      ∀ c ∈ [Instr.watch req b key, .halt req b d key], exec c s = .next (s.finish (s.set R.PWR_STAT_RESULT 5)))
    ∧ (∀ (s : State) (req : Requester) (b d : Bool), s.Admits req 0x01 0x20 → s.pow.voting = none →
      s.get R.DEVICE_BOOT_STAGE ≠ 7 →
      ∀ c ∈ [Instr.watch req b 0x9A17, .halt req b d 0x9A17], exec c s = .next (s.finish (s.set R.PWR_STAT_RESULT 3)))
    ∧ (∀ (s : State) (req : Requester) (b d : Bool), s.Admits req 0x01 0x20 → s.pow.voting = none →
      s.get R.DEVICE_BOOT_STAGE = 7 → s.flt.safe = false → s.inCascade = false →
      ∀ c ∈ [Instr.watch req b 0x9A17, .halt req b d 0x9A17],
        (s.wakeActive = true → exec c s = .next (s.finish (s.set R.PWR_STAT_RESULT 4)))
        ∧ (s.wakeActive = false → Completes c s fun t => t.get R.PWR_STAT_STATE = 1 ∧ t.pow.voting.isSome = true
          ∧ t.pow.retain = b ∧ t.pow.stopped = [])))
  ∧ ((∀ (s : State) (a b c : Bool) (p : PState), s.inRun = true → s.flt.safe = false → s.pow.voting = some p →
      s.frameCommitted = true →
      Completes (.domainVote a b c) s fun t => t = s.finish (s.vote a b c)
        ∧ (s.wakeActive = true → t.pow.voting = none ∧ t.get R.PWR_STAT_STATE = 0 ∧ t.get R.PWR_STAT_RESULT = 2))
    ∧ (∀ (s : State) (p : PState) (r : Nat × Nat) (d : Nat), s.inRun = true → s.pow.voting = some p → s.pow.refusal = some r →
      s.nextDomain = some d →
      (s.voter d true false true = some r.2 → Completes (.pwrAbort true) s fun t =>
        t.pow.voting = none ∧ t.get R.PWR_STAT_STATE = 0 ∧ t.get R.PWR_STAT_RESULT = 2 ∧ t.get R.PWR_STAT_REFUSER = r.2)
      ∧ (s.voter d false true false = none → Completes (.pwrAbort false) s fun t =>
        t.pow.voting = some p ∧ t.pow.stopped = s.pow.stopped ++ [d] ∧ t.pow.refusal = none))
    ∧ (∀ (s : State) (p : PState), s.inRun = true → s.flt.safe = false → s.pow.voting = some p → s.nextDomain = none →
      s.wakeActive = false →
      Completes .powerCommit s fun t => t.pow.state = p ∧ t.pow.voting = none ∧ t.pow.windowOpen = true
        ∧ t.pow.lfStopped = s.pow.lfstop ∧ t.queues = List.replicate 4 Queue.reset
        ∧ (∀ f ∈ blockFields, f.acc = .rw ∨ f.acc = .w1c → t.get f = s.get f)
        ∧ (∀ f ∈ [R.NVS_STAT_KEYREQ, R.NVS_STAT_CORR, R.CAL_RESULT_REASON, R.CAL_RESULT_OP, R.SCAN_TSTAT_REASON,
          R.DRIVE_STAT_EHOPS, R.NOISE_CNT_HOPS, R.PIPE_CNT_DROPPED, R.PIPE_CNT_OVERRUN, R.WORKRING_POSTED, R.WORKRING_DONE,
          R.HOSTPORT_ERR_BADCMD, R.TWOWIRE_ERR_BUSABORT, R.LINK_ERRC_LATE, R.GOV_CNT_DOWNS, R.GOV_CNT_UPS] ++
          (List.range 16).map R.GOV_EST, t.get f = s.get f)
        ∧ (s.pow.retain = true → t.iram = s.iram ∧ t.fmem = s.fmem ∧ t.base = s.base ∧ t.pipe = s.pipe
          ∧ ∀ e : Fin 32, (t.eng e).ram = (s.eng e).ram)
        ∧ (s.pow.retain = false → t.iram = [] ∧ t.fmem = [])))

/-- What wakes a sleeping device: WAKEREQ, which first starts an LFCLK that is stopped, HCSn, the timer and the end
of the lost-edge window. A Nightcap scan in WATCH is one more scan: each enabled zone is judged by its count. That
scans lie one period apart from the commit on, in whole microseconds, and that what PD3 and PD4 take to be powered
for one is an operand, is the model's choice (log 112). -/
def Obligations.WakeAndNightcap : Prop :=
  ((∀ s : State, s.asleep = true → s.pow.windowOpen = true →
      Completes .lostEdgeWindowEnd s fun t => t.pow.windowOpen = false
        ∧ (t.pow.waking = (s.pow.waking || (s.pow.wakereq && (s.get R.PWR_WAKEEN).testBit 0))))
    ∧ (∀ s : State, s.asleep = true → s.pow.windowOpen = false → s.pow.waking = false → s.pow.voting = none →
      (s.get R.PWR_WAKEEN).testBit 0 = true → Completes (.wakereqWake true) s fun t => t.pow.wakereq = true
        ∧ t.pow.waking = true ∧ (t.get R.PWR_WAKESTAT_SRC).testBit 0 = true
        ∧ (s.pow.lfStopped = true → t.pow.lfStopped = false ∧ t.get R.CLOCK_TBSTAT_SRC = 2 ∧ t.get R.CLOCK_TBSTAT_VALID = 0))
    ∧ (∀ s : State, (s.get R.PWR_WAKEEN).testBit 0 = false →
      exec (.wakereqWake true) s = .next (s.finish { s with pow := { s.pow with wakereq := true } }))
    ∧ (∀ s : State, s.asleep = true → s.pow.windowOpen = false → s.pow.waking = false → s.pow.lfStopped = false →
      s.sup.vioGood = true → (s.get R.PWR_WAKEEN).testBit 1 = true → Completes .hcsnWake s fun t => t.pow.waking = true
        ∧ (t.get R.PWR_WAKESTAT_SRC).testBit 1 = true)
    ∧ (∀ s : State, s.asleep = true → s.pow.waking = false → s.pow.lfStopped = false → s.get R.PWR_TIMER ≠ 0 →
      (s.get R.PWR_WAKEEN).testBit 3 = true → Completes .timerWake s fun t => t.pow.waking = true ∧ t.pow.timerCause = true
        ∧ (t.get R.PWR_WAKESTAT_SRC).testBit 3 = true)
    ∧ (∀ s : State, s.asleep = true → s.pow.waking = true → s.pow.lfstop = false ∨ s.flt.queue = [] →
        Completes .wakeSequence s fun t =>
        t.pow.state = .run ∧ t.pow.waking = false ∧ t.pow.windowOpen = false))
  ∧ (∀ (s : State) (us : Nat) (caps : List Nat), s.asleep = true → s.pow.state = .watch → s.pow.waking = false →
      Completes (.nightcapScan us caps) s fun t => t.night.scans = s.night.scans + 1
        ∧ t.night.scanTb = s.nextScanTb
        ∧ ∀ z : Fin 16, t.night.zones.getD z ⟨0, 0, false, false⟩ =
          if (s.get R.NIGHTCAP_ZEN).testBit z = true
          then (s.night.zones.getD z ⟨0, 0, false, false⟩).next (s.get R.NIGHTCAP_CTL_ZTH) (s.get R.NIGHTCAP_CTL_ZHYST)
            (s.night.scans + 1) (s.zoneCount caps z)
          else s.night.zones.getD z ⟨0, 0, false, false⟩)

/-- A read of CLOCK.TBLO takes the snapshot of TB[47:32]; it changes nothing else, and the words of TBLO and then TBHI
give the 48 bits. -/
def Obligations.TimebaseReadTakesSnapshot : Prop :=
  ∀ (s : State) (req : Requester), s.mayWrite req = true →
    Completes (.tbloRead req) s fun t => t.get R.CLOCK_TBHI = s.pow.tb / 0x100000000 % 0x10000
      ∧ s.readReg 0x02 0x20 + 0x100000000 * t.readReg 0x02 0x24 = s.pow.tb % 0x1000000000000
      ∧ (∀ f : Fld, f.key ≠ R.CLOCK_TBHI.key → t.get f = s.get f)
      ∧ (reqEngine req = false → OnlyFields s t [R.CLOCK_TBHI])

/-! ### The register fabric -/

/-- The checks that come before the fields, in their order: port, discarding, early writes, assignment, engine gate,
lock. That a write of a requester whose port is not there changes nothing is the model's choice (log 75), and so is
the rejection of a locked offset without a register (log 69). An admitted write of a register of the slices or of the
noise unit: each writable field takes its part of the word where that is legal, a K-class field only while scanning
stands; else it keeps its value and WRERR is set. -/
def Obligations.RegisterWrites : Prop :=
  (∀ (s : State) (req : Requester) (addr : Addr) (w : Word) (p off : Nat),
      p = addr.toNat / 256 → off = addr.toNat % 256 / 4 * 4 →
      (s.mayWrite req = false ∨ s.discards req p off = true →
        exec (.registerWrite req addr w) s = .next (s.finish s))
      ∧ (s.mayWrite req = true → s.discards req p off = false →
        (reqOutside req = true → s.early = true → earlyPage p = false →
          exec (.registerWrite req addr w) s = .next (s.finish (s.set R.DEVICE_BOOT_EARLYWR 1)))
        ∧ (¬(reqOutside req = true ∧ s.early = true ∧ earlyPage p = false) →
          (pageAssigned p = false → exec (.registerWrite req addr w) s = .next (s.finish s))
          ∧ (pageAssigned p = true → p ≠ 0xF0 → reqEngine req = true → s.get (R.PCTRL_EN p) = 0 →
            exec (.registerWrite req addr w) s = .next (s.finish s))
          ∧ (pageAssigned p = true → p ≠ 0xF0 → (reqEngine req = true → s.get (R.PCTRL_EN p) = 1) →
            s.get (R.PLOCK_LOCKED p) = 1 → lockedOffset off = true →
            Completes (.registerWrite req addr w) s fun t => t.get (R.PSTAT_WRERR p) = 1
              ∧ ∀ f : Fld, f.key ∉ [R.PSTAT_WRERR p, R.PIRQ_WRERR p].map Fld.key → t.get f = s.get f))))
  ∧ (∀ (s : State) (req : Requester) (p : Nat) (f : Fld) (w : Word), p ∈ [0x10, 0x11, 0x12, 0x13, 0x16] →
      f ∈ plainFields p → f.acc = .rw → s.Admits req p f.off →
      Completes (.registerWrite req (BitVec.ofNat 16 (256 * p + f.off)) w) s fun t =>
        (f.legal (f.of w.toNat) = true → ¬(f.cls = .k ∧ s.flag R.SCAN_STAT_SCANNING = true) → t.get f = f.of w.toNat)
        ∧ (f.legal (f.of w.toNat) = false ∨ (f.cls = .k ∧ s.flag R.SCAN_STAT_SCANNING = true) →
          t.get f = s.get f ∧ t.get (R.PSTAT_WRERR p) = 1)
        ∧ ∀ g : Fld, g.key ∉ ((plainFields p).filter (·.off = f.off)).map Fld.key →
          g.key ∉ [R.PSTAT_WRERR p, R.PIRQ_WRERR p].map Fld.key → t.get g = s.get g)

/-- The commands of the page header: block reset, APPLY and the lock. APPLY brings the F-class values into force as a FRAME_START
does; a ring member's own shared pages stay without effect. That the scan mode shows at once is the model's choice (log 117). -/
def Obligations.PageHeaderCommands : Prop :=
  (∀ (s : State) (req : Requester) (page : BitVec 8), s.Admits req page.toNat 4 → brstBarred page.toNat = true →
    Completes (.brst req page) s fun t => t.get (R.PSTAT_WRERR page.toNat) = 1
      ∧ ∀ f : Fld, f.key ∉ [R.PSTAT_WRERR page.toNat, R.PIRQ_WRERR page.toNat, R.PCTRL_EN page.toNat].map Fld.key →
        t.get f = s.get f)
  ∧ (∀ (s : State) (req : Requester), s.Admits req 0x16 4 → s.flag R.SCAN_STAT_SCANNING = false →
    Completes (.brst req 0x16) s fun t => ∀ f ∈ plainFields 0x16, f.acc = .rw → t.get f = f.reset)
  ∧ (∀ (s : State) (req : Requester) (page : BitVec 8), s.Admits req page.toNat 4 →
    Completes (.apply req page) s fun t =>
      (s.running page.toNat = true ∨ (s.follows = true ∧ 0x14 ≤ page.toNat ∧ page.toNat ≤ 0x16) → t.force = s.force
        ∧ ∀ f : Fld, f.key ≠ (R.PCTRL_EN page.toNat).key → t.get f = s.get f)
      ∧ (s.running page.toNat = false → ¬(s.follows = true ∧ 0x14 ≤ page.toNat ∧ page.toNat ≤ 0x16) →
        (∀ f ∈ allFields page.toNat, f.cls = .f → t.inForce f = s.get f)
        ∧ (∀ i : Fin 32, t.divider i ≠ s.divider i → (t.get R.NOISE_NFVALID).testBit i = false)
        ∧ (page ≠ 0x15 → ∀ f : Fld, f.key ∉ [R.PCTRL_EN page.toNat, R.NOISE_NFVALID].map Fld.key → t.get f = s.get f)
        ∧ (page = 0x15 → s.follows = false → s.get R.SCAN_CTL_MODE < 4 → s.get R.SCAN_CTL_MODE ≠ s.mode →
          t.get R.SCAN_STAT_MODEACT = s.get R.SCAN_CTL_MODE)))
  ∧ (∀ (s : State) (req : Requester) (page : BitVec 8) (set : Bool), s.Admits req page.toNat 0x18 →
    Completes (.plockSet req page set 0x4C4B) s fun t => OnlyFields s t [R.PLOCK_LOCKED page.toNat]
      ∧ t.get (R.PLOCK_LOCKED page.toNat) = if set then 1 else s.get (R.PLOCK_LOCKED page.toNat))
  ∧ (∀ (s : State) (req : Requester) (page : BitVec 8) (set : Bool) (key : BitVec 16), s.Admits req page.toNat 0x18 →
    key ≠ 0x4C4B →
    Completes (.plockSet req page set key) s fun t => t.get (R.PSTAT_WRERR page.toNat) = 1
      ∧ t.get (R.PLOCK_LOCKED page.toNat) = s.get (R.PLOCK_LOCKED page.toNat))

/-- The commands of the report queues: FLUSH keeps an open record, SKIP drops the rest of one, CNTCLR clears counters. -/
def Obligations.QueueCommands : Prop :=
  (∀ (s : State) (req : Requester) (q : Fin 4), s.Admits req 0x1B (0x20 + 4 * q) →
    Completes (.queueFlush req q) s fun t =>
      (t.queue q).recs = (if (s.queue q).delivered = 0 then [] else (s.queue q).recs.take 1)
      ∧ (t.queue q).delivered = (s.queue q).delivered ∧ ∀ j : Fin 4, j ≠ q → t.queue j = s.queue j)
  ∧ (∀ (s : State) (req : Requester) (q : Fin 4), s.Admits req 0x1B (0x20 + 4 * q) →
    Completes (.queueSkip req q) s fun t =>
      (t.queue q).recs = (if (s.queue q).delivered = 0 then (s.queue q).recs else (s.queue q).recs.drop 1)
      ∧ (t.queue q).delivered = 0 ∧ ∀ j : Fin 4, j ≠ q → t.queue j = s.queue j)
  ∧ (∀ (s : State) (req : Requester) (mask : BitVec 4), s.Admits req 0x1B 0x50 →
    Completes (.queueCntclr req mask) s fun t => OnlyFields s t ((List.range 4).map R.QUEUE_SEQ_DROPS)
      ∧ ∀ q : Fin 4, t.get (R.QUEUE_SEQ_DROPS q) = if mask.getLsbD q then 0 else s.get (R.QUEUE_SEQ_DROPS q))

/-! ### Scan control -/

/-- PEAKCLR, TCHK.GO and the words of a scan table. A scan mode is taken where its table passes the check or is the
table in force; else the old mode stays. A ring member's own mode has no effect, and is only stored. HOLD stops
scanning after the running frame, and its release starts scanning. -/
def Obligations.ScanConfiguration : Prop :=
  ((∀ (s : State) (req : Requester), s.Admits req 0x15 0x20 → s.get R.SCAN_CTL_MODE < 4 → s.get R.SCAN_CTL_HOLD < 2 →
      ¬(s.get R.SCAN_CTL_MODE = 2 ∧ s.inCascade = true) →
      Completes (.peakclr req) s fun t => OnlyFields s t [R.SCAN_TIMING_PEAKUS] ∧ t.get R.SCAN_TIMING_PEAKUS = 0)
    ∧ (∀ (s : State) (req : Requester) (n : Fin 4), s.Admits req 0x15 0x34 →
      Completes (.tableCheck req n) s fun t =>
        OnlyFields s t [R.SCAN_TSTAT_TABLE, R.SCAN_TSTAT_REASON, R.SCAN_TSTAT_WORD] ∧ t.get R.SCAN_TSTAT_TABLE = n
        ∧ t.get R.SCAN_TSTAT_REASON = (s.checkTable n s.tmap).1 % 2 ^ R.SCAN_TSTAT_REASON.width)
    ∧ (∀ (s : State) (req : Requester) (n : Fin 4) (k : Fin 48) (w : Word), s.Admits req (0x60 + n) (0x40 + 4 * k) →
      s.get (R.SCANTABLE_WBASE n) + k < 256 →
      Completes (.scantableWordWrite req n k w) s fun t =>
        if s.running (0x60 + n) = true then
          t.get (R.PSTAT_WRERR (0x60 + n)) = 1
            ∧ t.get (R.SCANTABLE_WORD n (s.get (R.SCANTABLE_WBASE n) + k)) = s.get (R.SCANTABLE_WORD n (s.get (R.SCANTABLE_WBASE n) + k))
        else OnlyFields s t [R.SCANTABLE_WORD n (s.get (R.SCANTABLE_WBASE n) + k)]
          ∧ t.get (R.SCANTABLE_WORD n (s.get (R.SCANTABLE_WBASE n) + k)) = w.toNat)
    ∧ (∀ (s : State) (req : Requester) (n : Fin 4) (k : Fin 48) (w : Word), s.Admits req (0x60 + n) (0x40 + 4 * k) →
      256 ≤ s.get (R.SCANTABLE_WBASE n) + k → exec (.scantableWordWrite req n k w) s = .next (s.finish s)))
  ∧ ((∀ (s : State) (req : Requester) (m : BitVec 2), s.Admits req 0x15 0x20 → s.get R.SCAN_CTL_HOLD < 2 →
      ¬(m = 2 ∧ s.inCascade = true) →
      (s.get R.SCAN_CTL_MODE = m.toNat → exec (.scanModeWrite req m none) s = .next (s.finish s))
      ∧ (s.get R.SCAN_CTL_MODE ≠ m.toNat →
        Completes (.scanModeWrite req m none) s fun t =>
          (tmapTable s.tmap m.toNat = s.selected ∨ (s.checkTable (tmapTable s.tmap m.toNat) s.tmap).1 = 0 →
            t.get R.SCAN_CTL_MODE = m.toNat)
          ∧ (s.follows = false → tmapTable s.tmap m.toNat ≠ s.selected → (s.checkTable (tmapTable s.tmap m.toNat) s.tmap).1 ≠ 0 →
            t.get R.SCAN_CTL_MODE = s.get R.SCAN_CTL_MODE)
          ∧ (s.follows = true → OnlyFields s t [R.SCAN_CTL_MODE] ∧ t.get R.SCAN_CTL_MODE = m.toNat)))
    ∧ (∀ (s : State) (req : Requester) (m : BitVec 2) (v : Byte), s.Admits req 0x15 0x24 →
      Completes (.scanModeWrite req m (some v)) s fun t => ∀ i : Fin 4,
        t.get (tmapField i) =
          if s.follows = true ∨ tmapTable v.toNat (s.get R.SCAN_CTL_MODE) = s.selected
            ∨ (s.checkTable (tmapTable v.toNat (s.get R.SCAN_CTL_MODE)) v.toNat).1 = 0 ∨ i.val ≠ s.get R.SCAN_CTL_MODE
          then v.toNat / 4 ^ i.val % 4 else s.get (tmapField i)))
  ∧ ((∀ (s : State) (req : Requester), s.Admits req 0x15 0x20 → s.get R.SCAN_CTL_MODE < 4 → s.get R.SCAN_CTL_HOLD = 0 →
      s.inCascade = false →
      Completes (.scanHold req) s fun t => t.get R.SCAN_CTL_HOLD = 1
        ∧ (s.scan.started = true → s.scan.phase ≠ .ended → s.scan.phase ≠ .idle →
          t.scan.stopping = true ∧ t.scan.started = true ∧ t.scan.phase = s.scan.phase))
    ∧ (∀ (s : State) (req : Requester), s.Admits req 0x15 0x20 → s.get R.SCAN_CTL_MODE < 4 → s.get R.SCAN_CTL_HOLD = 1 →
      s.inCascade = false →
      Completes (.scanResume req) s fun t => t.get R.SCAN_CTL_HOLD = 0
        ∧ (s.scan.started = false → s.inRun = true → s.sup.lockout = false → s.get R.DEVICE_BOOT_STAGE = 7 →
          t.scan.started = true ∧ t.scan.fresh = true ∧ t.pipe.tracks = [])))

/-! ### Baselines and calibration -/

/-- The commands of BASE.CMD wait for the next FRAME_START; REACQUIRE before DONE is rejected. The calibration
commands while the unit is free: a command starts where its condition holds, else it ends with STATE; ABORT ends a
running one with its result, a capture too (the model's choice: log 31). The progress of calibrations: a step of
FE_CAL ends with its listen slot; a trim whose code is far from the factory's is rejected, one that is near applies
from the next FRAME_START on; VREFA is checked before the first test code of an output; a capture counts its frames;
a background pass that is due starts. A foreground command waits while the listen slot of a background step runs.
That AOUT_CAL waits for the end of a span hold, and names the output as INDEX with VREF, is the model's choice (log
55). -/
def Obligations.BaselinesAndCalibration : Prop :=
  ((∀ (s : State) (req : Requester), s.Admits req 0x18 0x30 → s.get R.DEVICE_BOOT_STAGE = 7 →
      exec (.reacquire req) s = .next (s.finish { s with base := { s.base with cmds := s.base.cmds ++ [1] } }))
    ∧ (∀ (s : State) (req : Requester), s.Admits req 0x18 0x30 → s.get R.DEVICE_BOOT_STAGE ≠ 7 →
      Completes (.reacquire req) s fun t => t.base = s.base ∧ t.get (R.PSTAT_WRERR 0x18) = 1)
    ∧ (∀ (s : State) (req : Requester), s.Admits req 0x18 0x30 →
      exec (.rebaseAll req) s = .next (s.finish { s with base := { s.base with cmds := s.base.cmds ++ [2] } })
      ∧ exec (.clearSuspect req) s = .next (s.finish { s with base := { s.base with cmds := s.base.cmds ++ [3] } })))
  ∧ ((∀ (s : State) (req : Requester) (mask : Byte) (d : Option (Byte × Byte)) (l : List Nat), s.Admits req 0x19 0x20 →
      s.get R.CAL_STAT_BUSY = 0 → 0 < mask.toNat → mask.toNat < 16 →
      Completes (.feCal (some req) mask d l) s fun t =>
        if s.scan.started = true ∧ s.listenLong = true then
          t.get R.CAL_STAT_BUSY = 1 ∧ t.get R.CAL_STAT_OP = 1 ∧ t.cal.arg = mask.toNat
        else t.get R.CAL_STAT_BUSY = 0 ∧ t.get R.CAL_RESULT_REASON = 0xD ∧ t.get R.CAL_RESULT_OP = 1)
    ∧ (∀ (s : State) (req : Requester) (code : BitVec 8), s.Admits req 0x19 0x20 → s.get R.CAL_STAT_BUSY = 0 →
      Completes (.lfTrim (some req) code) s fun t =>
        if s.inRun = true ∧ (s.get R.CLOCK_TBSTAT_LFXOK = 0 ∨ s.get R.CLOCK_LFCTL ≠ 0) then
          t.get R.CAL_STAT_BUSY = 1 ∧ t.get R.CAL_STAT_OP = 2
        else t.get R.CAL_STAT_BUSY = 0 ∧ t.get R.CAL_RESULT_REASON = 0xD ∧ t.get R.CAL_RESULT_OP = 2)
    ∧ (∀ (s : State) (req : Requester) (mask : Byte) (v sh ld : Bool) (o g : BitVec 16) (n : Nat), s.Admits req 0x19 0x20 →
      s.get R.CAL_STAT_BUSY = 0 → (List.range 8).find? (bit mask.toNat) = some n →
      Completes (.aoutCal (some req) mask v sh ld o g) s fun t =>
        if s.pd5 = true ∧ s.get R.DEVICE_BOOT_STAGE = 7 then
          t.get R.CAL_STAT_BUSY = 1 ∧ t.get R.CAL_STAT_OP = 3 ∧ t.calOutput = some n ∧ t.cal.outPhase = 0
        else t.get R.CAL_STAT_BUSY = 0 ∧ t.get R.CAL_RESULT_REASON = 0xD ∧ t.get R.CAL_RESULT_OP = 3)
    ∧ (∀ (s : State) (req : Requester) (o : Byte), s.Admits req 0x19 0x20 → s.get R.CAL_STAT_BUSY = 0 →
      s.inCascade = false →
      Completes (.captureRef (some req) o) s fun t =>
        if s.get R.DEVICE_BOOT_STAGE = 7 ∧ s.scan.started = true then
          t.get R.CAL_STAT_BUSY = 1 ∧ t.get R.CAL_STAT_OP = 4 ∧ (t.cal.capture.map Capture.left) = some 16
        else t.get R.CAL_STAT_BUSY = 0 ∧ t.get R.CAL_RESULT_REASON = 0xD ∧ t.get R.CAL_RESULT_OP = 4)
    ∧ (∀ (s : State) (req : Requester), s.Admits req 0x19 0x20 →
      (s.get R.CAL_STAT_BUSY = 0 → exec (.calAbort req) s = .next (s.finish s))
      ∧ (s.get R.CAL_STAT_BUSY = 1 → (∀ c, s.cal.capture = some c → c.writing = false) →
        Completes (.calAbort req) s fun t => t.get R.CAL_STAT_BUSY = 0 ∧ t.get R.CAL_RESULT_REASON = 0xE
          ∧ t.get R.CAL_RESULT_OP = s.get R.CAL_STAT_OP % 16 ∧ t.cal.capture = none))
    ∧ (∀ (s : State) (req : Requester) (item index : Byte), s.Admits req 0x19 0x30 →
      (index.toNat < itemSize item.toNat → Completes (.cselWrite req item index) s fun t =>
        OnlyFields s t [R.CAL_CSEL_ITEM, R.CAL_CSEL_INDEX] ∧ t.get R.CAL_CSEL_ITEM = item.toNat
          ∧ t.get R.CAL_CSEL_INDEX = index.toNat)
      ∧ (itemSize item.toNat ≤ index.toNat → Completes (.cselWrite req item index) s fun t =>
        t.get R.CAL_CSEL_ITEM = s.get R.CAL_CSEL_ITEM ∧ t.get R.CAL_CSEL_INDEX = s.get R.CAL_CSEL_INDEX
          ∧ t.get (R.PSTAT_WRERR 0x19) = 1)))
  ∧ ((∀ (s : State) (m : Byte) (l : List Nat), s.up = true → s.get R.CAL_STAT_BUSY = 1 → s.get R.CAL_STAT_OP = 1 →
      s.cal.abort = false → s.slotOver false = true → s.get R.CAL_STAT_PROG < 3 →
      Completes (.feCal none m none l) s fun t => t.get R.CAL_STAT_PROG = s.get R.CAL_STAT_PROG + 1
        ∧ t.get R.CAL_STAT_BUSY = 1 ∧ t.cal.stepFrame = s.cal.slotFrame ∧ t.coefs = s.coefs)
    ∧ (∀ (s : State) (code : BitVec 8), s.up = true → s.get R.CAL_STAT_BUSY = 1 → s.get R.CAL_STAT_OP = 2 →
      s.cal.abort = false → s.bgRuns = false →
      Completes (.lfTrim none code) s fun t => t.get R.CAL_STAT_BUSY = 0
        ∧ (8 < (code.toInt - signed16 (s.factory (coefId 6 0))).natAbs → t.get R.CAL_RESULT_REASON = 1 ∧ t.coefs = s.coefs)
        ∧ ((code.toInt - signed16 (s.factory (coefId 6 0))).natAbs ≤ 8 → coefOk (coefId 6 0) (unsigned16 code.toInt) = true →
          t.get R.CAL_RESULT_REASON = 0 ∧ aget 0 (coefId 6 0) t.coefs.next = unsigned16 code.toInt))
    ∧ (∀ (s : State) (m : Byte) (v sh ld : Bool) (o g : BitVec 16) (n : Nat), s.up = true → s.get R.CAL_STAT_BUSY = 1 →
      s.get R.CAL_STAT_OP = 3 → s.cal.abort = false → s.bgRuns = false → s.flt.safe = false →
      s.sup.lockout = false → s.calOutput = some n → s.cal.outPhase = 0 →
      (s.outState n = 3 → exec (.aoutCal none m v sh ld o g) s = .next (s.finish s))
      ∧ (s.outState n = 1 ∨ s.outState n = 2 → Completes (.aoutCal none m v sh ld o g) s fun t => if v = true ∧ s.aout.vref = true
        then t.get R.CAL_STAT_BUSY = 1 ∧ t.outState n = 4 ∧ t.get (R.AOUT_OUT n) = 0x1000 ∧ t.cal.outPhase = 1
        else t.get R.CAL_STAT_BUSY = 0 ∧ t.get R.CAL_RESULT_REASON = 0xB ∧ t.get R.CAL_RESULT_INDEX = n
          ∧ t.outState n = s.outState n))
    ∧ (∀ (s : State) (o : Byte) (c : Capture), s.up = true → s.get R.CAL_STAT_BUSY = 1 → s.get R.CAL_STAT_OP = 4 →
      s.cal.capture = some c → s.scan.frame ≠ c.frame → s.get R.DEVICE_BOOT_STAGE = 7 → s.scan.started = true →
      s.bgRuns = false → c.fail ≠ 1 → 1 < c.left →
      Completes (.captureRef none o) s fun t => (t.cal.capture.map Capture.left) = some (c.left - 1)
        ∧ (t.cal.capture.map Capture.frame) = some s.scan.frame ∧ t.get R.CAL_STAT_BUSY = 1)
    ∧ (∀ (s : State) (d : Option (Byte × Byte)) (l : List Nat), s.inRun = true → s.scan.started = true →
      s.slotOver true = false → s.bgMay = true →
      Completes (.backgroundCalibration d l) s fun t =>
        if s.listenLong = true then t.cal.bg = true ∧ t.cal.bgSlice = 0 ∧ t.get R.CAL_STAT_BGBLOCK = 0
        else t.cal.bg = false ∧ t.get R.CAL_STAT_BGBLOCK = 1)
    ∧ (∀ (s : State) (l : List Nat), s.inRun = true → s.scan.started = true → s.slotOver true = true → s.cal.slotStep < 3 →
      Completes (.backgroundCalibration none l) s fun t => t.cal.bg = s.cal.bg ∧ t.cal.bgStep = s.cal.slotStep + 1
        ∧ t.cal.bgSlice = s.cal.bgSlice ∧ t.cal.stepFrame = s.cal.slotFrame ∧ t.coefs = s.coefs))

/-! ### Analogue outputs -/

namespace Sys2Proof.Machine

/-- Output `n` has been loaded from its input register (15 R385, R394). -/
def Loaded (s t : State) (n : Nat) : Prop :=
  t.outState n = 2 ∧ t.get (R.AOUT_ACT n) = s.get (R.AOUT_IN n) % 65536
    ∧ (s.get (R.AOUT_SLEW n) = 0 → t.get (R.AOUT_OUT n) = s.get (R.AOUT_IN n) % 65536)

/-- Output `n` keeps its state, its active code and what it drives. -/
def Untouched (s t : State) (n : Nat) : Prop :=
  t.outState n = s.outState n ∧ t.get (R.AOUT_ACT n) = s.get (R.AOUT_ACT n) ∧ t.get (R.AOUT_OUT n) = s.get (R.AOUT_OUT n)

end Sys2Proof.Machine

/-- A strobe, by AOUT.STROBE or by LDAC, loads each LIVE or APRON output of its group, and no other output moves. A
new span takes a LIVE output to HOLD at the apron voltage; the end of the hold makes it LIVE again, with the code
that a strobe during the hold has brought. Shorts, the supply of the outputs and the reference: what each does to the
outputs and which condition it marks. -/
def Obligations.AnalogueOutputs : Prop :=
  ((∀ (s : State) (req : Requester) (a b : Bool), s.Admits req 0x20 0x24 → s.pd5 = true → s.flt.safe = false →
      s.sup.lockout = false → s.get R.DEVICE_BOOT_STAGE = 7 →
      Completes (.aoutStrobe req a b) s fun t => ∀ n : Fin 8,
        ((if n.val < 4 then a else b) = true → s.outState n = 1 ∨ s.outState n = 2 → Loaded s t n)
        ∧ ((if n.val < 4 then a else b) = false ∨ (s.outState n ≠ 1 ∧ s.outState n ≠ 2) → Untouched s t n))
    ∧ (∀ s : State, s.inRun = true → s.pd5 = true → s.flt.safe = false → s.sup.lockout = false →
      s.get R.DEVICE_BOOT_STAGE = 7 → Completes .ldac s fun t => ∀ n : Fin 8,
        (s.strobeSource (n.val / 4) = 0 → s.outState n = 1 ∨ s.outState n = 2 → Loaded s t n)
        ∧ (s.strobeSource (n.val / 4) ≠ 0 ∨ (s.outState n ≠ 1 ∧ s.outState n ≠ 2) → Untouched s t n)))
  ∧ ((∀ (s : State) (req : Requester) (spans : BitVec 16), s.Admits req 0x20 0x28 →
      Completes (.spanChange req spans) s fun t => ∀ n : Fin 8,
        (spans.toNat / 4 ^ n.val % 4 < 3 → t.get (R.AOUT_SPAN n) = spans.toNat / 4 ^ n.val % 4)
        ∧ (spans.toNat / 4 ^ n.val % 4 = 3 → t.get (R.AOUT_SPAN n) = s.get (R.AOUT_SPAN n) ∧ t.get (R.PSTAT_WRERR 0x20) = 1)
        ∧ (t.get (R.AOUT_SPAN n) = s.get (R.AOUT_SPAN n) → Untouched s t n)
        ∧ (t.get (R.AOUT_SPAN n) ≠ s.get (R.AOUT_SPAN n) → s.outState n = 2 →
          t.outState n = 3 ∧ t.get (R.AOUT_OUT n) = t.apronCode n))
    ∧ (∀ (s : State) (n : Fin 8), s.outState n = 3 → s.flt.safe = false →
      Completes (.spanHoldEnd n) s fun t => t.outState n = 2
        ∧ t.get (R.AOUT_ACT n) = if (s.aout.stages.getD n ⟨false, 0, 0, false⟩).strobed = true
          then s.get (R.AOUT_IN n) % 65536 else s.get (R.AOUT_ACT n)))
  ∧ ((∀ (s : State) (n : Fin 8), s.outState n ≠ 0 → s.pd5 = true → s.flt.safe = false →
      Completes (.aoutShort n) s fun t => t.outState n = 0 ∧ (t.get R.AOUT_FLT_SHORT).testBit n = true
        ∧ (Kind.aoutShort, n.val) ∈ t.flt.live ∧ ∀ m : Fin 8, m ≠ n → Untouched s t m)
    ∧ (∀ (s : State) (req : Requester) (bits : BitVec 8), s.Admits req 0x20 0x34 →
      Completes (.aoutFltClear req bits) s fun t => ∀ n : Fin 8,
        (t.get R.AOUT_FLT_SHORT).testBit n = ((s.get R.AOUT_FLT_SHORT).testBit n && !bits.getLsbD n)
        ∧ ((s.get R.AOUT_FLT_SHORT).testBit n = true → bits.getLsbD n = true →
          (Kind.aoutShort, n.val) ∉ t.flt.live
            ∧ (s.get R.AOUT_STAT_AVOGOOD = 1 → s.pd5 = true → t.outState n = 1 ∧ t.get (R.AOUT_OUT n) = s.apronCode n)))
    ∧ (∀ s : State, s.pd5 = true → s.get R.AOUT_STAT_AVOGOOD = 0 → Completes .avoGood s fun t =>
        t.get R.AOUT_STAT_AVOGOOD = 1 ∧ (Kind.avoFail, 0) ∉ t.flt.live
        ∧ ∀ n : Fin 8, (s.get R.AOUT_FLT_SHORT).testBit n = false →
          t.outState n = 1 ∧ t.get (R.AOUT_OUT n) = t.apronCode n)
    ∧ (∀ s : State, s.pd5 = true → s.get R.AOUT_STAT_AVOGOOD = 1 → Completes .avoFail s fun t =>
        t.get R.AOUT_STAT_AVOGOOD = 0 ∧ (Kind.avoFail, 0) ∈ t.flt.live ∧ ∀ n : Fin 8, t.outState n = 0)
    ∧ (∀ s : State, s.pd5 = true → Completes .vrefaRange s fun t => t.aout.vref = false
        ∧ (Kind.vrefaRange, 0) ∈ t.flt.live ∧ t.regs = s.regs)
    ∧ (∀ s : State, Completes .vrefaReturn s fun t => t.aout.vref = true ∧ (Kind.vrefaRange, 0) ∉ t.flt.live ∧ t.regs = s.regs))

/-! ### Self-test, debug of the engines, controls -/

/-- The commands of FAULT.STCMD while no test runs, and ABORT. That a commanded quick test does not move the period of the
others is the model's choice (log 53). -/
def Obligations.SelfTestCommands : Prop :=
  (∀ (s : State) (req : Requester), s.Admits req 0x04 0x98 → s.st.kind = 0 → s.get R.FAULT_STSTAT_BUSY = 0 →
    Completes (.fullTest req) s fun t => t.get R.FAULT_STSTAT_FRAMES = 0
      ∧ if s.get R.DEVICE_BOOT_STAGE ≠ 7 ∨ s.scan.started = false then t.get R.FAULT_STSTAT_RESULT = 4 ∧ t.st = s.st
        else if (s.checkTable s.testTable s.tmap).1 ≠ 0 then t.get R.FAULT_STSTAT_RESULT = 3 ∧ t.st = s.st
        else t.get R.FAULT_STSTAT_BUSY = 1 ∧ t.st.request = 1)
  ∧ (∀ (s : State) (req : Requester), s.Admits req 0x04 0x98 → s.st.kind = 0 → s.get R.FAULT_STSTAT_BUSY = 0 →
    exec (.quickTest (some req)) s = .next (s.finish { s with st := { s.st with request := 2 } }))
  ∧ (∀ s : State, s.quickDue = true →
    exec (.quickTest none) s = .next (s.finish { s with st := { s.st with request := 2, lastTb := s.pow.tb } }))
  ∧ (∀ (s : State) (req : Requester), s.Admits req 0x04 0x98 → s.st.kind ≠ 3 →
    Completes (.selftestAbort req) s fun t =>
      (s.st.request = 1 → t.get R.FAULT_STSTAT_RESULT = 5 ∧ t.get R.FAULT_STSTAT_BUSY = 0 ∧ t.st.request = 0 ∧ t.st.kind = 0)
      ∧ (s.st.request ≠ 1 → s.st.kind = 1 ∨ s.st.kind = 2 → s.scan.phase ≠ .ended → s.scan.phase ≠ .idle →
        t.st = { s.st with abort := true } ∧ t.regs = s.regs)
      ∧ (s.st.request ≠ 1 → s.st.kind = 1 ∨ s.st.kind = 2 → s.scan.phase = .ended ∨ s.scan.phase = .idle →
        t.st.kind = 0 ∧ t.get R.FAULT_STSTAT_RESULT = 5 ∧ t.get R.FAULT_STSTAT_BUSY = 0)
      ∧ (s.st.request ≠ 1 → s.st.kind = 0 → t.st = s.st ∧ t.regs = s.regs))

/-- The debug registers of an engine: halt, step, restart, the window on its local RAM, the debug FIFO, a breakpoint. That a sleeping
or parked engine halts at once, and gets that state back, is the model's choice (log 37), and so is the HALT bit that a breakpoint
sets (log 46). -/
def Obligations.EngineDebugCommands : Prop :=
  (∀ (s : State) (req : Requester) (e : Fin 32), s.Admits req (0x30 + e) 0x20 → e < s.engines.length →
    s.breakBits e < 32 →
    (Completes (.engHalt req e true) s fun t => t.get (R.ENG_CTL_HALT e) = 1
      ∧ ((s.eng e).state = .sleep ∨ (s.eng e).state = .parked ∨ ((s.eng e).state = .run ∧ (s.eng e).core.pre = none) → (t.eng e).state = .halted
        ∧ (t.eng e).prior = (s.eng e).state ∧ (t.eng e).core = (s.eng e).core))
    ∧ (Completes (.engHalt req e false) s fun t => t.get (R.ENG_CTL_HALT e) = 0
      ∧ ((s.eng e).state = .halted → (t.eng e).state = (s.eng e).prior ∧ (t.eng e).core = (s.eng e).core))
    ∧ ((s.eng e).state = .halted → Completes (.engStep req e) s fun t =>
      (t.eng e).step = true ∧ (t.eng e).state = .halted ∧ t.get (R.ENG_CTL_HALT e) = 1))
  ∧ (∀ (s : State) (req : Requester) (e : Fin 32), s.Admits req (0x30 + e) 0x20 → e < s.engines.length →
    (s.engIdle e = true → s.heldTask e = none → (s.eng e).late = [] → Completes (.engRestart req e) s fun t => (t.eng e).state = .run
      ∧ (t.eng e).core.pc = 0 ∧ (t.eng e).ram = (s.eng e).ram ∧ t.get (R.ENG_CTL_HALT e) = 0
      ∧ (Kind.engDoubleTrap, e.val) ∉ t.flt.live)
    ∧ (∀ k, s.engIdle e = true → s.heldTask e = some k → Completes (.engRestart req e) s fun t =>
      (Kind.engDoubleTrap, e.val) ∉ t.flt.live ∧ t.get (R.ENG_CTL_HALT e) = 0)
    ∧ (s.engIdle e = false → Completes (.engRestart req e) s fun t => t.get (R.PSTAT_WRERR (0x30 + e)) = 1
      ∧ (s.get (R.ENG_CTL_HALT e) = 0 → t.engines = s.engines)
      ∧ (s.get (R.ENG_CTL_HALT e) = 1 → (s.eng e).state = .sleep ∨ (s.eng e).state = .parked
        ∨ ((s.eng e).state = .run ∧ (s.eng e).core.pre = none) → (t.eng e).state = .halted)))
  ∧ (∀ (s : State) (req : Requester) (e : Fin 32) (w : Word), s.Admits req (0x30 + e) 0x3C → e < s.engines.length →
    Memory.wf (s.eng e).ram = true →
    (s.engIdle e = true → Completes (.dmdatAccess req e (some w)) s fun t => ∀ a : Nat,
      Memory.read (t.eng e).ram a = if 4 * s.get (R.ENG_DMAD e) ≤ a ∧ a < 4 * s.get (R.ENG_DMAD e) + 4
        then byteOf (w.toNat / 256 ^ (a - 4 * s.get (R.ENG_DMAD e))) else Memory.read (s.eng e).ram a)
    ∧ (s.engIdle e = false → Completes (.dmdatAccess req e (some w)) s fun t => t.get (R.PSTAT_WRERR (0x30 + e)) = 1
      ∧ t.engines = s.engines))
  ∧ (∀ (s : State) (req : Requester) (e : Fin 32), reqEngine req = false →
    exec (.dmdatAccess req e none) s = .next (s.finish s))
  ∧ (∀ (s : State) (req : Requester) (e : Fin 32), s.mayWrite req = true → reqEngine req = false → e < s.engines.length →
    Completes (.engDbgPop req e) s fun t => (t.eng e).dbg = (s.eng e).dbg.tail ∧ (t.eng e).core = (s.eng e).core
      ∧ t.regs = s.regs)
  ∧ (∀ (s : State) (e : Fin 32), s.inRun = true → s.stopsAt e = true → e < s.engines.length →
    Completes (.breakpointHit e) s fun t => (t.eng e).state = .halted ∧ t.get (R.ENG_CTL_HALT e) = 1
      ∧ (t.eng e).core = (s.eng e).core)

/-- CANCELALL waits for the next report; a definition write of a virtual control that breaks no rule of its geometry is
taken. -/
def Obligations.ControlCommands : Prop :=
  (∀ (s : State) (req : Requester), s.Admits req 0x1A 0x54 →
    exec (.cancelall req) s = .next (s.finish { s with pipe := { s.pipe with cancelAll := true } }))
  ∧ (∀ (s : State) (req : Requester) (i : Fin 6) (w : Word), s.Admits req 0x1C (0x24 + 4 * i) → s.get R.VCTRL_SEL < 16 →
    i ≠ 0 → 4 ≤ i.val ∨ s.get (R.VCTRL_DEF_TYPE (s.get R.VCTRL_SEL)) = 0 →
    Completes (.vctrlDefWrite req i w) s fun t =>
      OnlyFields s t ((controlFields (s.get R.VCTRL_SEL)).filter (·.off = 0x24 + 4 * i))
      ∧ ∀ f ∈ controlFields (s.get R.VCTRL_SEL), f.off = 0x24 + 4 * i → t.get f = f.of w.toNat)
  ∧ (∀ (s : State) (req : Requester) (w : Word) (c : Nat), s.Admits req 0x1C 0x24 → c = s.get R.VCTRL_SEL → c < 16 →
    (∀ f ∈ controlFields c, f.off = 0x24 → f.legal (f.of w.toNat) = true) → w.toNat % 8 = 0 →
    Completes (.vctrlDefWrite req 0 w) s fun t => t.get (R.VCTRL_DEF_TYPE c) = 0
      ∧ ∀ f ∈ controlFields c, f.off = 0x24 → t.get f = f.of w.toNat)
  ∧ (∀ (s : State) (req : Requester) (w : Word) (c : Nat), s.Admits req 0x1C 0x2C → c = s.get R.VCTRL_SEL → c < 16 →
    s.get (R.VCTRL_DEF_TYPE c) ≠ 0 → s.get (R.VCTRL_DEF_TYPE c) ≠ 3 →
    (s.get (R.VCTRL_RECTA_X0 c) < w.toNat % 65536 → s.get (R.VCTRL_RECTA_Y0 c) < w.toNat / 65536 →
      Completes (.vctrlDefWrite req 2 w) s fun t => OnlyFields s t [R.VCTRL_RECTB_X1 c, R.VCTRL_RECTB_Y1 c]
        ∧ t.get (R.VCTRL_RECTB_X1 c) = w.toNat % 65536 ∧ t.get (R.VCTRL_RECTB_Y1 c) = w.toNat / 65536)
    ∧ (w.toNat % 65536 ≤ s.get (R.VCTRL_RECTA_X0 c) ∨ w.toNat / 65536 ≤ s.get (R.VCTRL_RECTA_Y0 c) →
      Completes (.vctrlDefWrite req 2 w) s fun t => t.get (R.PSTAT_WRERR 0x1C) = 1
        ∧ t.get (R.VCTRL_RECTB_X1 c) = s.get (R.VCTRL_RECTB_X1 c) ∧ t.get (R.VCTRL_RECTB_Y1 c) = s.get (R.VCTRL_RECTB_Y1 c)))

/-! ### The host port -/

namespace Sys2Proof.Machine

/-- An error counter has counted once more; it stands still at its largest value (00 R17). -/
def Counted (s t : State) (f : Fld) : Prop := t.get f = min (2 ^ f.width - 1) (s.get f + 1)

end Sys2Proof.Machine

/-- Writes on the host port: a register is committed whole, an incomplete one and an unaligned one not at all; the
port records the command and its address. Reads on the host port, in time: the echo, then the bytes of the register,
or of the record at the head of a queue. Lane reset, unknown commands, and transactions that are cut. What LASTCMD
and LASTADDR show after an unknown command or a cut header is the model's choice (log 95). -/
def Obligations.HostPort : Prop :=
  ((∀ (s : State) (addr : Addr) (data : List Byte), s.hostAnswers = true → addr.toNat % 4 ≠ 0 →
      Completes (.hostWrite addr data) s fun t => Counted s t R.HOSTPORT_ERR_ALIGN ∧ t.get R.HOSTPORT_STAT_LASTCMD = 0x02
        ∧ t.get R.HOSTPORT_STAT_LASTADDR = addr.toNat
        ∧ OnlyFields { s with host := { s.host with out := [] } } t
          [R.HOSTPORT_ERR_ALIGN, R.HOSTPORT_STAT_LASTCMD, R.HOSTPORT_STAT_LASTADDR])
    ∧ (∀ (s : State) (addr : Addr) (data : List Byte), s.hostAnswers = true → addr.toNat % 4 = 0 → data.length < 4 →
      Completes (.hostWrite addr data) s fun t => t.get R.HOSTPORT_STAT_LASTADDR = addr.toNat
        ∧ OnlyFields { s with host := { s.host with out := [] } } t [R.HOSTPORT_STAT_LASTCMD, R.HOSTPORT_STAT_LASTADDR])
    ∧ (∀ (s : State) (addr : Addr) (b0 b1 b2 b3 : Byte), s.hostAnswers = true → addr.toNat % 4 = 0 →
      exec (.hostWrite addr [b0, b1, b2, b3]) s = .next (s.finish
        (((s.hostSends []).fabricWrite .host addr.toNat
          (b0.toNat + 256 * b1.toNat + 65536 * b2.toNat + 16777216 * b3.toNat)).hostEnds 0x02 (some addr.toNat)))))
  ∧ ((∀ (s : State) (addr : Addr) (n k late : Nat), s.hostAnswers = true → s.underrun k = false → addr.toNat % 4 ≠ 0 →
      Completes (.hostRead addr n k late) s fun t => t.host.out = s.echo :: List.replicate n 0
        ∧ Counted s t R.HOSTPORT_ERR_ALIGN)
    ∧ (∀ (s : State) (addr : Addr) (k late : Nat), s.hostAnswers = true → s.underrun k = false → addr.toNat % 4 = 0 →
      windowQueue addr.toNat = none →
      Completes (.hostRead addr 4 k late) s fun t =>
        t.host.out = s.echo :: toBytes 4 (s.readReg (addr.toNat / 256) (addr.toNat % 256)))
    ∧ (∀ (s : State) (addr : Addr) (k late q : Nat) (r : List Byte) (l : List (List Byte)), s.hostAnswers = true →
      s.underrun k = false → addr.toNat % 4 = 0 → windowQueue addr.toNat = some q → s.queue q = ⟨r :: l, 0⟩ → r ≠ [] →
      Completes (.hostRead addr r.length k late) s fun t => t.host.out = s.echo :: r ∧ (t.queue q).recs = l
        ∧ (t.queue q).delivered = 0)
    ∧ (∀ (s : State) (n : Nat), s.hostAnswers = true →
      Completes (.hostStatus n) s fun t => t.host.out = List.replicate n s.echo ∧ t.get R.HOSTPORT_STAT_LASTCMD = 0x04))
  ∧ ((∀ s : State, s.hostAnswers = true → Completes .laneReset s fun t =>
      t.get R.HOSTPORT_CFG_LANES = R.HOSTPORT_CFG_LANES.reset ∧ t.get R.HOSTPORT_CFG_CAW = R.HOSTPORT_CFG_CAW.reset
        ∧ t.get R.HOSTPORT_CFG_DUMMY = R.HOSTPORT_CFG_DUMMY.reset ∧ t.get R.HOSTPORT_STAT_LASTCMD = 0xFF)
    ∧ (∀ (s : State) (code : Byte), s.hostAnswers = true → code.toNat ∉ [0x02, 0x04, 0x0A, 0xFF] →
      Completes (.badCommand code) s fun t => Counted s t R.HOSTPORT_ERR_BADCMD
        ∧ t.get R.HOSTPORT_STAT_LASTCMD = code.toNat
        ∧ OnlyFields { s with host := { s.host with out := [] } } t [R.HOSTPORT_ERR_BADCMD, R.HOSTPORT_STAT_LASTCMD])
    ∧ (∀ s : State, s.hostAnswers = true → Completes (.transactionCut .header) s fun t => Counted s t R.HOSTPORT_ERR_CUT
        ∧ OnlyFields { s with host := { s.host with out := [] } } t [R.HOSTPORT_ERR_CUT])
    ∧ (∀ (s : State) (addr : Addr) (data : List Byte), s.hostAnswers = true → addr.toNat % 4 = 0 → data.length < 4 →
      Completes (.transactionCut (.write addr data)) s fun t => Counted s t R.HOSTPORT_ERR_CUT
        ∧ OnlyFields { s with host := { s.host with out := [] } } t
          [R.HOSTPORT_ERR_CUT, R.HOSTPORT_STAT_LASTCMD, R.HOSTPORT_STAT_LASTADDR])
    ∧ (∀ c ∈ [Instr.hostWrite 0 [], .hostStatus 1, .laneReset, .badCommand 0, .transactionCut .header],
      ∀ s : State, s.hostAnswers = false → exec c s = .next s))

/-! ### The two-wire port -/

namespace Sys2Proof.Machine

/-- `c` writes to this device's port as a target: TWI_TARGET_WRITE with its address, or TWI_GENERAL_CALL, where general calls are
enabled and the page byte is none of the two that are not acknowledged (13 R341). -/
def WritesTo (s : State) (page : Byte) (c : List Byte → Instr) : Prop :=
  s.twiTarget = true ∧ ((∃ a : BitVec 7, a.toNat = s.twiAddress ∧ c = .twiTargetWrite a)
    ∨ (s.get R.TWOWIRE_CFG_GCEN = 1 ∧ page ≠ 4 ∧ page ≠ 6 ∧ c = .twiGeneralCall))

/-- The port behind the page and offset bytes of a write: addressed, with its pointer. -/
def Pointed (s : State) (page off : Byte) : State :=
  (({ s with twi := { s.twi with out := [] } }).addressed true).set R.TWOWIRE_PTR (256 * page.toNat + off.toNat)

/-- The port as the last of `n` data bytes commits: no byte is held, and the pointer is `n` bytes on within the page. -/
def Behind (s : State) (page off : Byte) (n : Nat) : State :=
  (({ s with twi := { s.twi with out := [], buf := s.twi.buf.drop } }).addressed true).set R.TWOWIRE_PTR
    (256 * page.toNat + (off.toNat + n) % 256)

end Sys2Proof.Machine

/-- The port as a target: a write, to its address or by a general call, sets the pointer, holds the bytes of a register and commits
them with byte 3; a read takes a snapshot of the register; what an abort and a stretch limit leave. -/
def Obligations.TwoWireTarget : Prop :=
  (∀ s : State, s.sup.vioGood = true → s.twiPowered = true → Completes .twiBusJoin s fun t =>
    t.get R.TWOWIRE_STAT_JOINED = 1 ∧ OnlyFields s t [R.TWOWIRE_STAT_JOINED])
  ∧ (∀ (s : State) (c : List Byte → Instr) (page off : Byte), WritesTo s page c →
    Completes (c [page, off]) s fun t => t.get R.TWOWIRE_PTR = 256 * page.toNat + off.toNat
      ∧ t.get R.TWOWIRE_STAT_ADDRESSED = 0
      ∧ OnlyFields { s with twi := { s.twi with out := [] } } t [R.TWOWIRE_PTR, R.TWOWIRE_STAT_ADDRESSED])
  ∧ (∀ (s : State) (c : List Byte → Instr) (page off v : Byte), WritesTo s page c → s.flt.safe = false →
    off.toNat % 4 ≠ 3 →
    Completes (c [page, off, v]) s fun t =>
      t.get R.TWOWIRE_PTR = 256 * page.toNat + (off.toNat + 1) % 256
      ∧ t.twi.buf.holdAddr = 256 * page.toNat + off.toNat / 4 * 4 ∧ aget 0 (off.toNat % 4) t.twi.buf.held = v.toNat
      ∧ (s.twi.buf.holdAddr = 256 * page.toNat + off.toNat / 4 * 4 →
        ∀ i : Nat, i ≠ off.toNat % 4 → aget 0 i t.twi.buf.held = aget 0 i s.twi.buf.held)
      ∧ (s.twi.buf.holdAddr ≠ 256 * page.toNat + off.toNat / 4 * 4 → t.twi.buf.held = [(off.toNat % 4, v.toNat)])
      ∧ ∀ f : Fld, f.key ∉ [R.TWOWIRE_PTR, R.TWOWIRE_STAT_ADDRESSED].map Fld.key → t.get f = s.get f)
  ∧ (∀ (s : State) (c : List Byte → Instr) (page off v : Byte) (reg : Nat), WritesTo s page c → s.flt.safe = false →
    off.toNat % 4 = 3 → reg = 256 * page.toNat + off.toNat / 4 * 4 →
    exec (c [page, off, v]) s = .next (s.finish (((Behind s page off 1).fabricWrite .twoWire reg
      (s.twi.buf.word reg ((Pointed s page off).keptWord reg) v)).addressed false))
    ∧ ∀ b0 b1 b2 : Byte, s.twi.buf.holdAddr = reg → s.twi.buf.held = [(0, b0.toNat), (1, b1.toNat), (2, b2.toNat)] →
      exec (c [page, off, v]) s = .next (s.finish (((Behind s page off 1).fabricWrite .twoWire reg
        (b0.toNat + 256 * b1.toNat + 65536 * b2.toNat + 16777216 * v.toNat)).addressed false)))
  ∧ (∀ (s : State) (c : List Byte → Instr) (page off b0 b1 b2 b3 : Byte), WritesTo s page c → s.flt.safe = false →
    off.toNat % 4 = 0 →
    exec (c [page, off, b0, b1, b2, b3]) s = .next (s.finish (((Behind s page off 4).fabricWrite .twoWire
      (256 * page.toNat + off.toNat)
      (b0.toNat + 256 * b1.toNat + 65536 * b2.toNat + 16777216 * b3.toNat)).addressed false)))
  ∧ (∀ (s : State) (a : BitVec 7) (p off : Nat), s.twiTarget = true → a.toNat = s.twiAddress →
    s.get R.TWOWIRE_PTR = 256 * p + off → p < 256 → off < 256 → off % 4 = 0 →
    Completes (.twiTargetRead a 4) s fun t => t.twi.out = toBytes 4 ((s.addressed true).twiFetch (256 * p + off))
      ∧ t.get R.TWOWIRE_PTR = 256 * p + (off + 4) % 256)
  ∧ (∀ (s : State) (a : BitVec 7) (l : List Byte) (n : Nat), a.toNat ≠ s.twiAddress ∨ s.twiTarget = false →
    exec (.twiTargetWrite a l) s = .next s ∧ exec (.twiTargetRead a n) s = .next s)
  ∧ (∀ (s : State) (l : List Byte), s.get R.TWOWIRE_CFG_GCEN = 0 ∨ l.head? = some 4 ∨ l.head? = some 6 →
    exec (.twiGeneralCall l) s = .next s)
  ∧ (∀ s : State, s.twiReady = true → Completes (.busabort .address) s fun t => Counted s t R.TWOWIRE_ERR_BUSABORT
      ∧ OnlyFields s t [R.TWOWIRE_ERR_BUSABORT])
  ∧ (∀ (s : State) (page off : Byte), s.twiTarget = true → Completes (.busabort (.write [page, off])) s fun t =>
      Counted s t R.TWOWIRE_ERR_BUSABORT ∧ t.get R.TWOWIRE_PTR = 256 * page.toNat + off.toNat ∧ t.twi.buf.held = [])
  ∧ (∀ (s : State) (page off : Byte), s.twiTarget = true → Completes (.stretchTimeout (.write [page, off])) s fun t =>
      Counted s t R.TWOWIRE_ERR_STRETCHTMO ∧ t.get R.TWOWIRE_PTR = 256 * page.toNat + off.toNat)
  ∧ (∀ (s : State) (n : Nat), s.twiTarget = true → Completes (.stretchTimeout (.read n)) s fun t =>
      t.twi.out.getLast? = some 0xFF)

/-- The port as a controller: a command starts a transfer, and its end gives the result, the byte count, the data, and what the
controller has sent, which the model keeps (its choice: log 103). -/
def Obligations.TwoWireController : Prop :=
  (∀ (s : State) (req : Requester) (len : BitVec 6) (tgt : BitVec 7) (d : TwiEnd), s.Admits req 0x06 0x38 →
    1 ≤ len.toNat → len.toNat ≤ 32 → 8 ≤ tgt.toNat → tgt.toNat ≤ 0x77 → s.get R.TWOWIRE_CSTAT_BUSY = 0 →
    s.flt.safe = false →
    Completes (.twiCtrlWrite (some req) len tgt d) s (fun t => t.get R.TWOWIRE_CSTAT_BUSY = 1 ∧ t.twi.op = 1
      ∧ t.twi.len = len.toNat ∧ t.twi.target = tgt.toNat ∧ t.twi.tries = 0)
    ∧ Completes (.twiCtrlRead (some req) len tgt d) s (fun t => t.get R.TWOWIRE_CSTAT_BUSY = 1 ∧ t.twi.op = 2
      ∧ t.twi.len = len.toNat ∧ t.twi.target = tgt.toNat ∧ t.twi.tries = 0)
    ∧ Completes (.eeread (some req) len d) s fun t => t.get R.TWOWIRE_CSTAT_BUSY = 1 ∧ t.twi.op = 3
      ∧ t.twi.len = len.toNat ∧ t.twi.tries = 0)
  ∧ (∀ (s : State) (l : BitVec 6) (tgt : BitVec 7) (data : List Byte) (op : Nat), s.twiRuns op = true → s.twi.len ≤ 32 →
    s.get R.TWOWIRE_STAT_JOINED = 1 → s.twi.tries = 0 → data.length = s.twi.len →
    (op = 1 → Completes (.twiCtrlWrite none l tgt (.done data)) s fun t => t.get R.TWOWIRE_CSTAT_BUSY = 0
      ∧ t.get R.TWOWIRE_CSTAT_RESULT = 0 ∧ t.get R.TWOWIRE_CSTAT_NBYTES = s.twi.len ∧ t.get R.TWOWIRE_CSTAT_ATTEMPTS = 1
      ∧ t.twi.ctl = addrByte s.twi.target false :: s.cbuf.take s.twi.len)
    ∧ ∀ c ∈ [(2, Instr.twiCtrlRead none l tgt (.done data)), (3, Instr.eeread none l (.done data))], op = c.1 →
      Completes c.2 s fun t => t.get R.TWOWIRE_CSTAT_BUSY = 0 ∧ t.get R.TWOWIRE_CSTAT_RESULT = 0
        ∧ t.get R.TWOWIRE_CSTAT_NBYTES = s.twi.len ∧ t.cbuf = data ++ s.cbuf.drop s.twi.len
        ∧ (op = 3 → t.twi.ctl = [addrByte (s.get R.TWOWIRE_CCFG_EEADDR) false, byteOf (s.get R.TWOWIRE_CADDR / 256),
          byteOf (s.get R.TWOWIRE_CADDR), addrByte (s.get R.TWOWIRE_CCFG_EEADDR) true]))
  ∧ (∀ (s : State) (l : BitVec 6) (tgt : BitVec 7), s.get R.TWOWIRE_STAT_JOINED = 1 →
    ∀ c ∈ [(1, Instr.twiCtrlWrite none l tgt .addrNak), (2, Instr.twiCtrlRead none l tgt .addrNak),
      (3, Instr.eeread none l .addrNak)], s.twiRuns c.1 = true →
      Completes c.2 s fun t => t.get R.TWOWIRE_CSTAT_BUSY = 0 ∧ t.get R.TWOWIRE_CSTAT_RESULT = 1
        ∧ t.get R.TWOWIRE_CSTAT_NBYTES = 0)
  ∧ (∀ (s : State) (req : Requester), s.Admits req 0x06 0x38 →
    (s.get R.TWOWIRE_CSTAT_BUSY = 0 → exec (.twiAbort req) s = .next (s.finish s))
    ∧ (s.get R.TWOWIRE_CSTAT_BUSY = 1 → Completes (.twiAbort req) s fun t => t.get R.TWOWIRE_CSTAT_BUSY = 0
      ∧ t.get R.TWOWIRE_CSTAT_RESULT = 5 ∧ t.twi.op = 0))
  ∧ (∀ s : State, s.twiActive = true → s.get R.TWOWIRE_STAT_JOINED = 1 →
    (Completes (.busClear true) s fun t => Counted s t R.TWOWIRE_ERR_BUSCLEAR ∧ OnlyFields s t [R.TWOWIRE_ERR_BUSCLEAR])
    ∧ (s.get R.TWOWIRE_CSTAT_WBUSY = 0 → Completes (.busClear false) s fun t => t.get R.TWOWIRE_CSTAT_BUSY = 0
      ∧ t.get R.TWOWIRE_CSTAT_RESULT = 4)
    ∧ (s.get R.TWOWIRE_CSTAT_WBUSY = 0 → Completes .arbitrationLost s fun t => Counted s t R.TWOWIRE_ERR_ARBLOST
      ∧ if s.twi.tries < s.get R.TWOWIRE_CCFG_RETRY then
          t.twi.tries = s.twi.tries + 1 ∧ t.get R.TWOWIRE_CSTAT_BUSY = s.get R.TWOWIRE_CSTAT_BUSY
        else t.get R.TWOWIRE_CSTAT_BUSY = 0 ∧ t.get R.TWOWIRE_CSTAT_RESULT = 3))
  ∧ (∀ s : State, s.up = true → s.twi.wmsg ≠ [] → s.get R.TWOWIRE_CSTAT_BUSY = 0 → s.get R.TWOWIRE_CSTAT_WBUSY = 0 →
    s.flt.safe = false → Completes (.wakeMessage none) s fun t => t.get R.TWOWIRE_CSTAT_WBUSY = 1 ∧ t.twi = s.twi)
  ∧ (∀ (s : State) (d : List Byte), s.twiPowered = true → s.get R.TWOWIRE_CSTAT_WBUSY = 1 →
    s.get R.TWOWIRE_STAT_JOINED = 1 → Completes (.wakeMessage (some (.done d))) s fun t =>
      t.get R.TWOWIRE_CSTAT_WBUSY = 0 ∧ t.get R.TWOWIRE_CSTAT_WRESULT = 0 ∧ t.twi.wmsg = s.twi.wmsg.tail
      ∧ t.twi.ctl = [addrByte (s.get R.TWOWIRE_WMSG_WADDR) false, byteOf (s.get R.TWOWIRE_WMSG_PFX0),
        byteOf (s.get R.TWOWIRE_WMSG_PFX1), byteOf (s.twi.wmsg.headD 0)])

/-! ### The Halgon link -/

namespace Sys2Proof.Machine

/-- The last message that has gone out on the link. -/
def State.lastSent (s : State) : Option LinkMsg := s.linkOut.getLast?.map Prod.snd

/-- What has come over a port shows that ROOT is reached over it. -/
def State.heardRoot (s : State) (port : Nat) : State := { s with lf := { s.lf with heard := aput 0 port s.lf.heard } }

/-- Every output is OFF or parked on the apron. -/
def State.Parked (s : State) : Prop := ∀ n : Fin 8, s.outState n = 0 ∨ s.outState n = 1

end Sys2Proof.Machine

/-- Discovery at ROOT: training, ENUM, the members' answers, the closed ring, and the limits. That a failed map
leaves every other position lost without lines is log 35, and that NO_RING is live until the ring closes is log 115.
Discovery at a member: ENUM gives it its position and goes on by the other port, CONFIG gives it the panel and its
clock, and without CONFIG it reports. That ENUM tells the hops and NDEV, and that CONFIG tells whether to acquire, is
log 114. -/
def Obligations.Discovery : Prop :=
  ((∀ s : State, s.discMay = true →
      (∀ map, (s.get R.DEVICE_BOOT_STAGE = 5 ∧ map = s.mapRegs ∧ mapFault map = none)
          ∨ (s.get R.DEVICE_BOOT_STAGE = 7 ∧ map = s.panel.map ∧ aloneMap map = false) →
        Completes (.discovery .start) s fun t => t.get R.LINK_STAT_STATE = 1
          ∧ t.get R.LINK_PORT_UPST = 1 ∧ t.get R.LINK_PORT_DNST = 1 ∧ t.get R.LINK_STAT_RING = 0
          ∧ t.panel = ⟨map, 0, map.length, [], [], []⟩ ∧ t.link.reached = [] ∧ t.link.discTb = s.pow.tb)
      ∧ ∀ k, s.get R.DEVICE_BOOT_STAGE = 5 → mapFault s.mapRegs = some k →
        Completes (.discovery .start) s fun t => t.isLive Kind.cascadeCfg = true
          ∧ (∀ p, 0 < p → p < s.get R.LINK_CFG_NDEV →
            p ∈ t.link.lost ∧ (Kind.devLost, p) ∈ t.flt.live ∧ t.panel.map.getD p (0, 0) = (0, 0)))
    ∧ (∀ s : State, s.inRun = true → s.flt.safe = false → s.isMember = false →
      (s.get R.LINK_STAT_STATE = 1 → s.get R.LINK_PORT_UPST = 2 ∨ s.get R.LINK_PORT_DNST = 2 →
        Completes (.discovery .enumerate) s fun t => t.get R.LINK_STAT_STATE = 2
          ∧ t.lastSent = some (.enum none 0 s.panel.ndev))
      ∧ (∀ (viaUp ret : Bool) (h : Fin 8) (off : List Nat), s.get R.LINK_STAT_STATE = 2 → h ≠ 0 → h < s.panel.ndev →
        Completes (.discovery (.reach viaUp h off ret)) s fun t =>
          (if viaUp then s.panel.ndev - h.val else h.val) ∈ t.link.reached
          ∧ aget 2 (if viaUp then s.panel.ndev - h.val else h.val) t.lf.heard = (if viaUp then 0 else 1)
          ∧ t.regs = s.regs)
      ∧ (s.get R.LINK_STAT_STATE = 3 → s.discOver = true ∨ (∀ p ∈ s.link.reached, p ∈ s.link.confd) →
        Completes (.discovery .done) s fun t => t.get R.LINK_STAT_STATE = 4 ∧ t.get R.LINK_STAT_SYNCOK = 1
          ∧ ∀ p ∈ s.others, p ∉ s.link.confd → p ∈ t.link.lost ∧ (Kind.devLost, p) ∈ t.flt.live)
      ∧ (s.get R.LINK_STAT_STATE = 2 → s.isLive Kind.rootConflict = false →
        ∀ (l : List Nat) (p : Nat) (port : Fin 2) (h : Fin 8) (n : Fin 9), s.link.reached = l ++ [p] →
          Completes (.enum true ⟨port, (h, n)⟩) s fun t => t.get R.LINK_STAT_RING = 1 ∧ t.get R.LINK_STAT_STATE = 3
            ∧ (Kind.noRing, 0) ∉ t.flt.live
            ∧ ∃ c, t.lastSent = some (.config c) ∧ c.pos = p ∧ c.map = s.panel.map ∧ c.off = s.offLines
              ∧ c.tables = (List.range 4).map s.tableWords ∧ c.tb = s.pow.tb ∧ c.ring = true)
      ∧ (∀ (port : Fin 2) (h : Fin 8) (n : Fin 9), Completes (.enum false ⟨port, (h, n)⟩) s fun t =>
        (Kind.rootConflict, 0) ∈ t.flt.live
        ∧ (s.get R.LINK_STAT_STATE = 1 ∨ s.get R.LINK_STAT_STATE = 3 → t.get R.LINK_STAT_STATE = 2))
      ∧ (s.get R.LINK_STAT_STATE = 1 ∨ s.get R.LINK_STAT_STATE = 2 → s.get R.LINK_STAT_RING = 0 →
        s.isLive Kind.rootConflict = false →
        (Completes .enumRepeat s fun t => t.pow.tb = (s.pow.tb + 10000) % 0x1000000000000
          ∧ t.lastSent = some (.enum none 0 s.panel.ndev) ∧ t.get R.LINK_STAT_STATE = 2)
        ∧ Completes .noRing s fun t => (Kind.noRing, 0) ∈ t.flt.live ∧ t.get R.LINK_STAT_STATE = 3)))
  ∧ ((∀ (s : State) (port : Fin 2) (h : Fin 8) (n : Fin 9), s.inRun = true → s.flt.safe = false → s.isMember = true →
      0 < h.val → h.val < n.val →
      Completes (.enum false ⟨port, (h, n)⟩) s fun t => t.lastSent = some (.enum (some (1 - port.val)) h n)
        ∧ aget 2 0 t.lf.heard = port.val
        ∧ (s.inCascade = false → t.get R.LINK_STAT_STATE = 2
          ∧ t.get R.LINK_STAT_POS = if port.val = 1 then n.val - h.val else h.val))
    ∧ (∀ (s : State) (c : LinkConfig), s.inRun = true → s.flt.safe = false → s.isMember = true →
      5 ≤ s.get R.DEVICE_BOOT_STAGE → s.get R.DEVICE_BOOT_STAGE ≠ 8 → (Instr.config c).wf = true → c.pos ≠ 0 →
      Completes (.config c) s fun t => t.lf.mute = false
        ∧ (s.get R.DEVICE_BOOT_STAGE = 7 → s.scan.started = true → c.acquire = false → s.get R.SCAN_CTL_MODE ≠ 2 →
          t.panel = ⟨c.map, c.pos, c.map.length, c.off, [], []⟩
          ∧ t.get R.LINK_STAT_POS = c.pos ∧ t.get R.LINK_STAT_STATE = 4 ∧ t.get R.LINK_STAT_LOCKED = 1
          ∧ t.get R.LINK_STAT_SYNCOK = 1 ∧ (c.ring = true → t.get R.LINK_STAT_RING = 1) ∧ t.lf.tbLoad = some c.tb ∧ t.lf.tables = c.tables ∧ t.lastSent = some .configAck))
    ∧ (∀ s : State, s.inRun = true → s.flt.safe = false → s.isMember = true → s.get R.LINK_STAT_STATE < 4 →
      5 ≤ s.get R.DEVICE_BOOT_STAGE → s.get R.DEVICE_BOOT_STAGE ≠ 8 →
      Completes .noRoot s fun t => (Kind.noRoot, 0) ∈ t.flt.live))

/-- Losing and regaining devices, at ROOT between frames; a member that loses its ROOT stops its bursts and parks its
outputs (log 66). A port goes down and comes back. That NO_RING is live while the ring of a running cascade is open
is log 115. -/
def Obligations.LinkSupervision : Prop :=
  ((∀ (s : State) (p : Fin 8), s.inRun = true → s.inCascade = true → s.panel.pos = 0 → p ≠ 0 → p < s.panel.ndev →
      p.val ∉ s.link.lost → s.scan.phase = .ended ∨ s.scan.phase = .idle →
      ∀ c ∈ [Instr.devLost p, .leaving ⟨0, p⟩, .leaving ⟨1, p⟩], Completes c s fun t => t.link.lost = p.val :: s.link.lost
        ∧ (Kind.devLost, p.val) ∈ t.flt.live ∧ t.scan.phase = s.scan.phase ∧ t.regs = s.regs)
    ∧ (∀ (s : State) (port : Fin 2), s.inRun = true → s.inCascade = true → s.panel.pos ≠ 0 →
      Completes (.leaving ⟨port, 0⟩) s fun t => t.Parked
        ∧ (s.scan.phase ≠ .idle → s.scan.phase ≠ .ended →
          t.scan.phase = .done ∧ t.scan.abandoned = true ∧ t.get R.DRIVE_STAT_BURST = 0)
        ∧ (1 - port.val ∈ s.portsUp → t.lastSent = some (.packet (1 - port.val))))
    ∧ (∀ (s : State) (p : Fin 8), s.inRun = true → s.inCascade = true → s.panel.pos = 0 → (p.val, 0) ∈ s.link.shadow →
      Completes (.devReturn p) s fun t => (∀ n, (p.val, n) ∉ t.link.shadow) ∧ (Kind.devLost, p.val) ∉ t.flt.live))
  ∧ ((∀ (s : State) (p : Fin 2), s.inRun = true → s.get (portState p) ≠ 0 →
      Completes (.linkDown p) s fun t => t.get (portState p) = 0 ∧ Counted s t (portDown p)
        ∧ (Kind.linkDown, p.val) ∈ t.flt.live ∧ t.get R.LINK_STAT_RING = 0
        ∧ (s.get R.LINK_STAT_RING = 1 → s.inCascade = true → s.panel.pos = 0 → s.get R.LINK_STAT_STATE = 4 →
          (Kind.noRing, 0) ∈ t.flt.live))
    ∧ (∀ (s : State) (p : Fin 2), s.inRun = true → s.get (portState p) ≠ 2 → s.cascadeWired = true →
      Completes (.linkUp p) s fun t => t.get (portState p) = 2 ∧ (Kind.linkDown, p.val) ∉ t.flt.live
        ∧ OnlyFields { s with flt := t.flt } t [portState p]))

/-- SYNC and the parameters of a frame. ROOT pulls SYNC 400 ns before its FRAME_START, 38 AFECLK cycles (log 112).
That one missing FRAME_START counts, abandons the member's frame and parks its outputs is log 66. Emergency hops
across devices. -/
def Obligations.FramesAndHopsOverTheLink : Prop :=
  ((∀ (s : State) (dt : Nat), s.inRun = true → s.flt.safe = false → s.inCascade = true → s.panel.pos ≠ 0 →
      dt < 0x800000000000 →
      Completes (.syncPulse dt) s fun t => t.lf.sync = some (t.pow.tb, 0) ∧ t.lf.tbLoad = none
        ∧ t.pow.tb = (match s.lf.tbLoad with
          | some tb => tb
          | none => s.pow.tb + dt) % 0x1000000000000)
    ∧ (∀ (s : State) (dt e : Nat), s.inRun = true → s.flt.safe = false → s.inCascade = true → s.panel.pos = 0 →
      s.scan.started = true → s.scan.stopping = false → s.scan.fresh = false → s.lf.sync = none → s.lf.tbLoad = none →
      38 ≤ s.scan.startFrac + s.scan.period → e = s.scan.startTb + (s.scan.startFrac + s.scan.period - 38) / 96 →
      tbDiff e s.pow.tb < 0x800000000000 →
      Completes (.syncPulse dt) s fun t => t.pow.tb = e % 0x1000000000000
        ∧ t.lf.sync = some (t.pow.tb, (s.scan.startFrac + s.scan.period - 38) % 96))
    ∧ (∀ s : State, s.inRun = true → s.flt.safe = false → s.inCascade = true → s.panel.pos = 0 →
      s.scan.phase = .idle ∨ s.scan.phase = .ended →
      Completes .syncFault s fun t => t.get R.LINK_STAT_SYNCOK = 0 ∧ Counted s t R.LINK_ERRC_SYNCERR
        ∧ (Kind.syncFault, 0) ∈ t.flt.live ∧ ∀ p, 0 < p → p < s.panel.ndev → p ∈ t.link.lost)
    ∧ (∀ s : State, s.inRun = true → s.flt.safe = false → s.inCascade = true → s.panel.pos ≠ 0 → s.scan.started = true →
      Completes .frameStartMissing s fun t => Counted s t R.LINK_ERRC_SYNCERR ∧ t.Parked
        ∧ (s.scan.phase ≠ .idle → s.scan.phase ≠ .ended → t.scan.phase = .done ∧ t.scan.abandoned = true))
    ∧ (∀ s : State, s.inRun = true → s.flt.safe = false → s.inCascade = true → s.panel.pos = 0 → s.scan.started = true →
      s.lf.fp = none → Completes .fparam s fun t => t.lf.acks = [] ∧ ∃ f, t.lf.fp = some f ∧ t.lastSent = some (.fparam f)
        ∧ f.frame = BitVec.ofNat 16 (s.scan.frame + 1) ∧ f.lost = s.link.lost)
    ∧ (∀ (s : State) (port : Fin 2) (f : Fparam), s.inRun = true → s.flt.safe = false → s.inCascade = true →
      s.panel.pos ≠ 0 →
      Completes (.fparamReceive ⟨port, f⟩) s fun t => t.lf.fp = some f ∧ t.lf.miss = []
        ∧ (s.scan.started = true → aget 0 R.SCAN_CTL_HOLD.key f.fields = 0 →
          t.lastSent = some (.fparamAck s.ownMasked s.govWish.1 s.govWish.2) ∧ t.regs = s.regs))
    ∧ (∀ (s : State) (p : Nat), s.inRun = true → s.flt.safe = false → s.inCascade = true → s.panel.pos = 0 →
      s.scan.phase ≠ .idle → s.scan.phase ≠ .ended → s.scan.abandoned = false → s.lf.fp = none → s.missingAcks = [p] →
      aget 0 p s.lf.miss < 7 →
      Completes .linkLate s fun t => t.scan.abandoned = true ∧ Counted s t R.LINK_ERRC_FPAB
        ∧ aget 0 p t.lf.miss = aget 0 p s.lf.miss + 1))
  ∧ ((∀ (s : State) (chip : Nat) (e : Byte), s.inRun = true → s.flt.safe = false → s.inCascade = true → s.panel.pos = 0 →
      s.get R.DRIVE_STAT_BURST = 1 → s.scan.settle = 0 → s.scan.sub = chip + 1 →
      exec (.eOrderedSet chip e) s = .next (s.finish { s with link := { s.link with e := max s.link.e e.toNat } }))
    ∧ (∀ (s : State) (chip : Nat) (e : Byte), s.inRun = true → s.flt.safe = false → s.inCascade = true → s.panel.pos ≠ 0 →
      s.get R.DRIVE_STAT_BURST = 1 → s.scan.settle = 0 → s.scan.sub = chip + 1 →
      Completes (.eOrderedSet chip e) s fun t => t.lastSent = some (.noise chip (max e.toNat (s.get R.NOISE_EMEAS_E))))
    ∧ (∀ (s : State) (port : Fin 2) (i : Fin 32) (chip : Nat), s.inRun = true → s.flt.safe = false → s.inCascade = true →
      s.panel.pos ≠ 0 → s.get R.DRIVE_STAT_BURST = 1 → s.scan.sub ≤ chip →
      Completes (.hopOrderedSet ⟨port, i⟩ chip) s fun t => t.lf.hop = some (i.val, chip + 1 - s.scan.sub) ∧ t.regs = s.regs
        ∧ (1 - port.val ∈ s.portsUp → t.lastSent = some (.packet (1 - port.val)))))

/-- The cuff columns and sub-blob lists of a frame: where what arrives is stored, and what happens where it is late. That parts and
lists are matched by ROOT's frame counter is log 63, and how the waits end is log 106. -/
def Obligations.CuffsAndLists : Prop :=
  (∀ (s : State) (side : Fin 2) (frame : BitVec 16) (v : List Int) (w : List Word), s.inRun = true → s.flt.safe = false →
    s.cuffLink side = true → frame.toNat = s.scan.frame % 65536 → Memory.wf s.fmem = true →
    (s.cuffWaited side = false → Completes (.cuffArrival side true frame v w) s fun t =>
      (if side = 0 then t.link.sigLo else t.link.sigHi) = true ∧ t.regs = s.regs
      ∧ (∀ i, i < v.length → i < 2 * s.ntx →
        t.fm16 ((if side = 0 then 0x2B000 else 0xEB000) + 2 * i) = unsigned16 (v.getD i 0))
      ∧ (∀ j, j < w.length → j < 2 → ∀ k < 4, t.fm8 ((if side = 0 then 0x2A0C0 else 0xEA0C0) + 4 * j + k)
        = (w.getD j 0).toNat / 256 ^ k % 256))
    ∧ Completes (.cuffArrival side false frame v w) s fun t =>
      (if side = 0 then t.link.filtLo else t.link.filtHi) = true ∧ t.regs = s.regs
      ∧ (∀ i, i < v.length → i < 2 * s.ntx →
        t.fm16 ((if side = 0 then 0x2B800 else 0xEB800) + 2 * i) = unsigned16 (v.getD i 0)))
  ∧ (∀ (s : State) (side : Fin 2), s.inRun = true → s.flt.safe = false → s.cuffLink side = true →
    s.scan.phase = .ended → s.disp.ready ≠ [] → (if side = 0 then s.link.sigLo else s.link.sigHi) = false →
    s.cuffWaited side = false →
    Completes (.cuffLate side) s fun t => t.cuffWaited side = true ∧ Counted s t R.LINK_ERRC_LATE
      ∧ t.flt = (s.eventFault Kind.cuffLate 0 side).flt)
  ∧ (∀ (s : State) (p : Fin 8) (frame : BitVec 16) (l : List SubRec) (n : ListRest) (fi : FrameInfo), s.inRun = true →
    s.flt.safe = false → s.inCascade = true → s.panel.pos = 0 → s.disp.cur = some fi → fi.frame % 65536 = frame.toNat →
    s.link.listsDone = false → s.disp.wave < 7 → (∀ q ∈ s.pipe.lists, q.1 ≠ p.val) →
    Completes (.subblobListArrival p frame l n) s fun t =>
      t.pipe.lists = s.pipe.lists ++ [(p.val, (l.take 64).map (SubRec.toSub p.val))] ∧ t.link = s.link
      ∧ p.val ∉ t.lf.late.map Prod.fst ∧ (n.dropped = 0 → t.regs = s.regs))
  ∧ (∀ (s : State) (p : Nat) (fi : FrameInfo), s.inRun = true → s.flt.safe = false → s.inCascade = true →
    s.panel.pos = 0 → s.disp.cur = some fi → s.disp.ended = true →
    s.nextWave fi s.disp.wave = some 7 → s.link.listsDone = false →
    (s.others.filter fun p => s.reaches p && !(s.pipe.lists.any fun q => q.1 = p)) = [p] →
    aget 0 p s.lf.late < 7 →
    Completes .listTimeout s fun t => t.link.listsDone = true ∧ Counted s t R.LINK_ERRC_LLATE
      ∧ aget 0 p t.lf.late = aget 0 p s.lf.late + 1)

/-- Remote accesses: ROOT sends them, a member serves them, and the answer, an error or 1 ms ends them. That a member
serves a read and a reset in the fault safe state too is the model's reading (logs 76 and 114); what a reset leaves
rests on logs 6 and 78. A packet that arrives broken is counted and answered with a NAK; a packet that is not
acknowledged is sent three times in all, and then counted as lost. -/
def Obligations.RemoteAccessesAndRetries : Prop :=
  ((∀ (s : State) (req : Requester) (p : Fin 8) (a : BitVec 16), s.Admits req 0x08 0x40 → s.panel.pos = 0 →
      s.isMember = false → p ≠ 0 → s.get R.LINK_RSTAT_BUSY = 0 →
      (a.toNat % 4 = 0 → p < s.panel.ndev → p.val ∉ s.link.lost →
        (Completes (.remoteRead req p a) s fun t => t.get R.LINK_RSTAT_BUSY = 1
          ∧ t.lf.remote = some (1, p.val, a.toNat, false) ∧ t.lastSent = some (.access 1 p a.toNat 0))
        ∧ (Completes (.remoteWrite req p a) s fun t => t.get R.LINK_RSTAT_BUSY = 1
          ∧ t.lastSent = some (.access 2 p a.toNat (s.get R.LINK_RWDATA)))
        ∧ Completes (.remoteReset req p false) s fun t => t.get R.LINK_RSTAT_BUSY = 1
          ∧ t.lastSent = some (.access 3 p 0 0))
      ∧ (Completes (.remoteReset req p true) s fun t => t.get R.LINK_RSTAT_BUSY = 1 ∧ t.lastSent = some (.access 3 0xF 0 0))
      ∧ (a.toNat % 4 ≠ 0 → Completes (.remoteRead req p a) s fun t => t.get R.LINK_RSTAT_RESULT = 3
        ∧ t.get R.LINK_RSTAT_BUSY = 0)
      ∧ (a.toNat % 4 = 0 → s.panel.ndev ≤ p ∨ p.val ∈ s.link.lost → Completes (.remoteRead req p a) s fun t =>
        t.get R.LINK_RSTAT_RESULT = 1 ∧ t.get R.LINK_RSTAT_BUSY = 0))
    ∧ (∀ s : State, s.inRun = true → s.get R.LINK_RSTAT_BUSY = 1 → Completes .remoteTimeout s fun t =>
        t.get R.LINK_RSTAT_BUSY = 0 ∧ t.get R.LINK_RSTAT_RESULT = 2 ∧ t.lf.remote = none
        ∧ (tbDiff (s.lf.remoteTb + 1000) s.pow.tb < 0x800000000000 →
          t.pow.tb = (s.lf.remoteTb + 1000) % 0x1000000000000))
    ∧ (∀ (s : State) (port : Fin 2) (a : BitVec 16) (d : Word), s.portUp port = true → s.panel.pos ≠ 0 →
      (Completes (.packetReceive port (.good (.access 1 a d false))) s fun t =>
        t.lastSent = some (.access 1 s.panel.pos a.toNat ((s.heardRoot port).readReg (a.toNat / 256) (a.toNat % 256))))
      ∧ (s.flt.safe = false → exec (.packetReceive port (.good (.access 2 a d false))) s =
        .next (s.finish (((s.heardRoot port).fabricWrite .link a.toNat d.toNat).send (.access 2 s.panel.pos a.toNat 0))))
      ∧ ∀ all, Completes (.packetReceive port (.good (.access 3 a d all))) s fun t => AfterReset s t R.DEVICE_RSTCAUSE_LINK))
  ∧ ((∀ (s : State) (port : Fin 2), s.portUp port = true → s.flt.safe = false →
      (Completes (.packetReceive port .crc) s fun t => Counted s t (portCrc port) ∧ t.get (portCode port) = s.get (portCode port)
        ∧ t.lastSent = some (.nak port))
      ∧ (Completes (.packetReceive port .code) s fun t => Counted s t (portCrc port) ∧ Counted s t (portCode port)
        ∧ t.lastSent = some (.nak port))
      ∧ ∀ d : Fin 8, d.val ≠ s.panel.pos →
        Completes (.packetReceive port (.good (.other d))) s fun t => t.lastSent = some (.packet (1 - port.val)))
    ∧ (∀ (s : State) (port : Fin 2) (n : Nat), s.portUp port = true → s.flt.safe = false →
      (n < 3 → Completes (.nak port n) s fun t => t.lastSent = some (.packet port) ∧ t.regs = s.regs)
      ∧ (3 ≤ n → Completes (.nak port n) s fun t => Counted s t (portLost port) ∧ OnlyFields s t [portLost port])))

/-! ### The frame and its scan phase -/

/-- VTX becomes good or fails, and the generator finishes a sequence: what waits for them goes on. The ends of the
parts of a scan word: listen windows, chips, bursts, self and test passes, waits. -/
def Obligations.SequencesAndWords : Prop :=
  ((∀ (s : State) (a : Nat) (d : Bool), s.inRun = true → s.flt.safe = false → s.get R.DRIVE_STAT_VTXACT ≠ 0 →
      s.get R.DRIVE_STAT_VTXGOOD = 0 →
      Completes (.vtxGood a d) s fun t => t.get R.DRIVE_STAT_VTXGOOD = 1 ∧ t.scan.dropout = d
        ∧ (s.scan.phase = .waitVtx → (∃ q ∈ s.scan.seqs, q.burst = s.scan.burst) →
          t.scan.phase = .word ∧ t.get R.DRIVE_STAT_BURST = 1 ∧ t.scan.sub = 0)
        ∧ (s.scan.phase ≠ .waitVtx → t.scan.phase = s.scan.phase))
    ∧ (∀ (s : State) (a : Nat) (d : Bool), s.inRun = true → s.flt.safe = false → s.get R.DRIVE_STAT_VTXACT ≠ 0 →
      s.get R.DRIVE_STAT_VTXGOOD = 1 → s.scan.dropout = !d → s.scan.phase ≠ .waitVtx →
      Completes (.vtxGood a d) s fun t => t.scan.dropout = d ∧ t.scan.phase = s.scan.phase ∧ t.get R.DRIVE_STAT_VTXGOOD = 1)
    ∧ (∀ s : State, s.inRun = true → s.get R.DRIVE_STAT_VTXACT ≠ 0 → s.get R.DRIVE_STAT_VTXGOOD = 0 →
      s.flt.queue.length < 32 →
      Completes .vtxFault s fun t => t.flt.queue = s.flt.queue ++
        [⟨0x14, 0x08, 3, 0, s.get R.DRIVE_STAT_VTXACT, false⟩])
    ∧ (∀ (s : State) (a : Nat) (b : Nat × Nat × Nat × Nat), s.inRun = true → s.flt.safe = false →
      s.get R.DRIVE_STAT_VTXACT ≠ 0 → s.bursts[s.scan.built]? = some b → s.seqEntries + codeLen b.2.2.1 ≤ 512 →
      (s.scan.phase = .word → Completes (.compensationSequenceReady a) s fun t => t.scan.built = s.scan.built + 1
        ∧ t.scan.phase = .word ∧ t.scan.clk = s.scan.clk)
      ∧ (s.scan.phase = .waitComp → s.scan.built = s.scan.burst → s.get R.DRIVE_STAT_VTXGOOD = 1 →
        Completes (.compensationSequenceReady a) s fun t => t.scan.built = s.scan.built + 1 ∧ t.scan.phase = .word
          ∧ t.get R.DRIVE_STAT_BURST = 1 ∧ t.scan.clk = max a s.scan.clk)))
  ∧ ((∀ (s : State) (l : List Nat) (t n : Nat), s.scanRuns = true → s.curWord = .listen t n →
      Completes (.listenWindowEnd l) s fun u => u.scan.windows.length = s.scan.windows.length + 1
        ∧ u.scan.clk = s.scan.clk + 96 * t
        ∧ (s.scan.sub < n → u.scan.sub = s.scan.sub + 1 ∧ u.curWord = .listen t n))
    ∧ (∀ (s : State) (l : List Nat), s.scanRuns = true → s.get R.DRIVE_STAT_BURST = 1 → 0 < s.scan.settle →
      Completes (.chipEnd l) s fun t => t.scan.settle = s.scan.settle - 1 ∧ t.scan.sub = s.scan.sub
        ∧ (s.scan.settle = 1 → t.get R.DRIVE_STAT_SETTLING = 0))
    ∧ (∀ (s : State) (l : List Nat), s.scanRuns = true → s.get R.DRIVE_STAT_BURST = 1 → s.scan.settle = 0 →
      s.scan.sub < s.burstChips → s.inCascade = false → s.lf.hop = none → s.inForce R.NOISE_EHOP_EEN = 0 →
      Completes (.chipEnd l) s fun t => t.scan.sub = s.scan.sub + 1 ∧ t.get R.NOISE_EMEAS_E = s.measure l % 256
        ∧ t.scan.clk = s.scan.clk + s.kAct * s.divider s.fcur)
    ∧ (∀ (s : State) (r : List (List Int)) (a b l c : Nat), s.scanRuns = true → s.curWord = .burst a b l c →
      s.get R.DRIVE_STAT_BURST = 1 → s.scan.settle = 0 → s.burstChips ≤ s.scan.sub →
      (s.bufferHeld = false → Completes (.burstEnd r) s fun t => t.scan.burst = s.scan.burst + 1 ∧ t.lf.hop = none
        ∧ t.scan.waits = false ∧ (s.scan.waits = false → t.scan.clk = s.scan.clk) ∧ ∀ q ∈ t.scan.seqs, q.burst ≠ s.scan.burst)
      ∧ (s.bufferHeld = true → Completes (.burstEnd r) s fun t => t.scan.waits = true ∧ t.fmem = s.fmem ∧ t.regs = s.regs
        ∧ t.scan.burst = s.scan.burst ∧ t.curWord = .burst a b l c))
    ∧ (∀ (s : State) (l : List Nat) (axis k sl tm : Nat), s.scanRuns = true → s.curWord = .self axis k sl tm →
      Completes (.selfPassEnd l) s fun t => t.scan.clk = s.scan.clk + 768 * tm
        ∧ (s.scan.sub + 1 < (passes axis).length → t.scan.sub = s.scan.sub + 1 ∧ t.scan.phase = .word
          ∧ ∀ c < 96, s.converts sl ((passes axis).getD s.scan.sub 0) c = false →
            t.scan.staging.getD (stripEntry ((passes axis).getD s.scan.sub 0) c) 0
              = s.scan.staging.getD (stripEntry ((passes axis).getD s.scan.sub 0) c) 0))
    ∧ (∀ (s : State) (l : List Nat) (ty sl st tm : Nat), s.scanRuns = true → s.curWord = .test ty sl st tm →
      s.scan.test = false → s.scan.sub + 1 < (passes ty).length →
      Completes (.testPassEnd l) s fun t => t.scan.sub = s.scan.sub + 1 ∧ t.scan.phase = .word
        ∧ t.scan.clk = s.scan.clk + 768 * tm)
    ∧ (∀ (s : State) (us : Nat), s.scanRuns = true → s.curWord = .wait us →
      Completes .waitEnd s fun t => t.scan.clk = s.scan.clk + 96 * us ∧ t.fmem = s.fmem ∧ t.scan.windows = s.scan.windows))

/-- Every FRAME_START advances the frame counter by one, to the number that FPARAM tells at a member (log 63), and
uses up the SYNC edge and the parameters that it was sent. Where scanning does not run, no frame starts; a member
that has no FPARAM for the frame counts it and drives nothing. SCAN_END ends the scan phase 12 µs later; a frame to
be processed waits for its DISPATCH, an abandoned one is a gap. -/
def Obligations.FramesStartEndAndWait : Prop :=
  (∀ (s : State) (dt : Nat) (m : GovMeas), s.frameMay = true →
      Completes (.frameStart dt m) s fun t => t.lf.sync = none ∧ t.lf.fp = none
        ∧ (s.follows = false ∨ s.lf.fp = none → t.scan.frame = (s.scan.frame + 1) % 0x100000000)
        ∧ ∀ f, s.follows = true → s.lf.fp = some f → t.scan.frame % 65536 = f.frame.toNat)
  ∧ ((∀ (s : State) (dt : Nat) (m : GovMeas), s.frameMay = false → exec (.frameStart dt m) s = .next s)
    ∧ (∀ (s : State) (dt : Nat) (m : GovMeas), s.frameMay = true → s.inCascade = true → s.lf.fp = none →
      Completes (.frameStart dt m) s fun t => t.scan.abandoned = true ∧ t.scan.phase = .done ∧ t.scan.words = []))
  ∧ (∀ s : State, s.inRun = true → s.flt.safe = false → s.scan.phase = .done →
      (s.bufferHeld = true → Completes .scanEnd s fun t => t.scan.phase = .done ∧ t.scan.waits = true ∧ t.fmem = s.fmem
        ∧ t.regs = s.regs)
      ∧ (s.bufferHeld = false → s.scan.stopping = false → s.scan.test = false →
      Completes .scanEnd s fun t => t.scan.phase = .ended ∧ t.get R.SCAN_STAT_INSCAN = 0
        ∧ (s.scan.abandoned = false → s.scan.waits = false →
          t.get R.SCAN_TIMING_LASTUS = min ((s.scan.clk + 1152) / 96) 0xFFFF)
        ∧ (s.scan.abandoned = true → t.pipe.gap = true ∧ t.disp.ready = s.disp.ready)
        ∧ (s.scan.abandoned = false → s.base.acq = none →
          ∃ fi, t.disp.ready = s.disp.ready ++ [fi] ∧ fi.frame = s.scan.frame ∧ fi.tag = s.scan.tag)
        ∧ (s.scan.abandoned = false → s.base.acq ≠ none → t.disp.ready = s.disp.ready)))

/-- Blanking freezes the sequencers, its release lets them go on, and an interval beyond the limit voids what it
holds once. That the length of an interval is added and judged at its release, from where BLANK_ASSERT says that it
fell, and that a chip not yet begun counts as voided, is log 85. The acquisition takes its frames one by one; the
last one completes it, and that of the boot the boot too. -/
def Obligations.BlankingAndAcquisition : Prop :=
  ((∀ (s : State) (v : Bool) (b : BlankAt), s.up = true → s.inForce R.DRIVE_BLANK_EN0 ≠ 0 →
      v = decide (s.inForce R.DRIVE_BLANK_POL0 = 0) → s.scan.blank.frozen = false →
      Completes (.blankAssert 0 v b) s fun t => t.scan.blank.level0 = v ∧ t.get R.DRIVE_BSTAT_LIVE0 = 1
        ∧ t.scan.blank.frozen = true ∧ t.scan.blank.start = b.at_ ∧ t.scan.phase = s.scan.phase ∧ t.scan.clk = s.scan.clk
        ∧ (b.inTransition = false → t.scan.blank.voids = s.scan.blank.voids ∧ t.scan.blank.voided = false))
    ∧ (∀ (s : State) (v : Bool) (us : Nat), s.up = true → s.inForce R.DRIVE_BLANK_EN1 = 0 → s.scan.blank.frozen = true →
      v ≠ decide (s.inForce R.DRIVE_BLANK_POL0 = 0) → us ≤ s.inForce R.DRIVE_BLANK_LIM →
      Completes (.blankRelease 0 v us) s fun t => t.scan.blank.frozen = false
        ∧ t.scan.blank.us = s.scan.blank.us + (us - s.scan.blank.before)
        ∧ t.scan.blank.voids = s.scan.blank.voids ∧ t.get R.DRIVE_BSTAT_LIVE0 = 0
        ∧ (s.scan.phase = .word → s.scan.blank.voided = false → s.scan.clk ≤ s.scan.blank.start →
          t.scan.clk = s.scan.clk + 96 * (us - s.scan.blank.before)))
    ∧ (∀ (s : State) (a b l c : Nat), s.scan.blank.frozen = true → s.scan.blank.voided = false → s.inCascade = false →
      s.scan.phase = .word → s.curWord = .burst a b l c →
      (s.scan.settle ≠ 0 ∨ s.scan.sub < s.burstChips →
        Completes .blankingLimit s fun t => t.scan.blank.voided = true ∧ t.regs = s.regs
          ∧ t.scan.blank.voids = s.scan.blank.voids + if s.scan.settle = 0 then 1 else 0)
      ∧ (s.scan.settle = 0 → s.burstChips ≤ s.scan.sub → exec .blankingLimit s = .next (s.finish s)))
    ∧ (∀ (s : State) (axis k sl tm : Nat), s.scan.blank.frozen = true → s.scan.blank.voided = false → s.inCascade = false →
      s.scan.phase = .word → s.curWord = .self axis k sl tm →
      Completes .blankingLimit s fun t => t.scan.blank.voided = true ∧ t.scan.blank.voids = s.scan.blank.voids
        ∧ t.scan.blank.passVoids = s.scan.blank.passVoids ++ [s.scan.blank.start - s.scan.clk])
    ∧ (∀ s : State, s.scan.blank.frozen = true → s.scan.blank.voided = true → exec .blankingLimit s = .next (s.finish s))
    ∧ (∀ s : State, s.scan.blank.frozen = true → s.scan.blank.voided = false → s.inCascade = true → s.panel.pos = 0 →
      s.scan.phase ≠ .idle → s.scan.phase ≠ .ended →
      Completes .blankingLimit s fun t => t.scan.abandoned = true ∧ Counted s t R.LINK_ERRC_FPAB
        ∧ t.lastSent = some (.abandon s.scan.frame)))
  ∧ (∀ (s : State) (i us : Nat), s.inRun = true → s.flt.safe = false → s.scan.phase = .ended →
      s.scan.test = false → s.scan.abandoned = false → s.base.acqFrame ≠ s.scan.frame → s.base.acq = some i →
      (i ≠ 7 → Completes (.acquisition us) s fun t => t.base.acq = some (i + 1) ∧ t.base.acqFrame = s.scan.frame
        ∧ t.get R.DEVICE_BOOT_STAGE = s.get R.DEVICE_BOOT_STAGE)
      ∧ (i = 7 → Completes (.acquisition us) s fun t => t.base.acq = none ∧ t.base.frames = []
        ∧ (s.get R.DEVICE_BOOT_STAGE = 6 → t.get R.DEVICE_BOOT_STAGE = 7)))

/-! ### The dispatcher and the tasks -/

/-- An engine that takes a task of the vendor program takes it, does its stage's work on its frame, and ends it DONE; it holds
no task then. That a task takes effect as a whole, when its command comes, is log 87. What the tasks of a tile and of HOUSE do at a
node and at an electrode: the baseline takes a NEW node's raw value, tracks a small error, stands still under a touch, and goes
where the node has no value; the filter follows; stage 3 gives g, and stage 4 the on state. -/
def Obligations.TasksRunTheirStage : Prop :=
  (∀ (s : State) (e q : Fin 32) (us : BitVec 16),
    ∀ c ∈ [(1, Instr.tileA e q, fun (k : Task) (fi : FrameInfo) (u : State) => u.tileA fi k),
      (2, .tileB e q, fun k fi u => u.tileB fi k), (3, .extract e q, fun k fi u => u.extract fi k.slice),
      (4, .track e q, fun _ fi u => u.track fi), (5, .report e q us, fun _ fi u => u.reportCommit fi us.toNat),
      (6, .house e q, fun k fi u => if k.row0 = 0 then u.selfHouse fi.frame k.slice else u)],
      (s.nextTask e q (· = c.1) = none → exec c.2.1 s = .next (s.finish s))
      ∧ ∀ (i : Nat) (k : Task) (fi : FrameInfo), s.nextTask e q (· = c.1) = some (i, k, fi) →
        Completes c.2.1 s fun t => (t.eng e).task = false ∧ (t.eng e).xmode = none
          ∧ t = s.finish ((((s.takeTask e q i).within fi (c.2.2 k fi)).breakChanged (s.takeTask e q i) e).tdone e 0))
  ∧ (∀ (s : State) (fi : FrameInfo) (k : Task) (d c : Nat), Memory.wf s.fmem = true → fi.hasMutual = true →
    aget Tag.reset (6 * (k.row0 / 16) + k.col0 / 16) s.base.tags = fi.tag → k.row0 + k.nrow ≤ 512 → k.col0 + k.ncol ≤ 96 →
    s.link.shadow = [] → s.pipe.lastShadow = [] →
    ((d, c) ∉ k.nodes → d < 512 → c < 96 → (s.tileA fi k).baseAt d c = s.baseAt d c
      ∧ (s.tileA fi k).filtAt d c = s.filtAt d c ∧ (s.tileA fi k).flagsAt d c = s.flagsAt d c)
    ∧ ((d, c) ∈ k.nodes → s.nodeLive d c = false → s.flagsAt d c = 0 → (s.tileA fi k).flagsAt d c = 4
      ∧ (s.tileA fi k).baseAt d c = -32768 ∧ (s.tileA fi k).filtAt d c = 0)
    ∧ ((d, c) ∈ k.nodes → s.nodeLive d c = true → s.rawAt fi.frame d c ≠ -32768 →
      (s.flagsAt d c = 0x20 → (s.tileA fi k).flagsAt d c = 0 ∧ (s.tileA fi k).baseAt d c = s.rawAt fi.frame d c
        ∧ (s.tileA fi k).filtAt d c = 0)
      ∧ (∀ e : Int, e = s.rawAt fi.frame d c - s.baseAt d c → s.flagsAt d c = 0 → 96 * d + c ∉ s.pipe.segOn →
        (e < fi.tag.thr c (s.inForce R.BASE_THR_REVTH) → -fi.tag.thr c (s.inForce R.BASE_THR_TRKTH) < e →
          s.inForce R.BASE_CTL_TRKEN ≠ 0 → s.inForce R.PIPE_FILT_JUMP = 0 →
          (∀ step : Int, step = (if Int.tdiv e (2 ^ s.inForce R.BASE_CTL_TRKSH : Nat) = 0 ∧ e ≠ 0
              ∧ fi.frame % (s.inForce R.BASE_CTL_TRKDIV + 1) = 0 then (if 0 < e then 1 else -1)
              else Int.tdiv e (2 ^ s.inForce R.BASE_CTL_TRKSH : Nat)) →
            (s.tileA fi k).baseAt d c = clampInt (-32767) 32767 (s.baseAt d c + step)
            ∧ (s.tileA fi k).stepAt fi.frame d c = clampInt (-128) 127 step)
          ∧ (s.tileA fi k).flagsAt d c = 0
          ∧ (s.tileA fi k).filtAt d c = clampInt (-32767) 32767
            (s.filtAt d c + roundDiv ((-e - s.filtAt d c) * s.inForce R.PIPE_FILT_TCOEF) 16))
        ∧ (e ≤ -fi.tag.thr c (s.inForce R.BASE_THR_TRKTH) → s.inForce R.BASE_CTL_BORROWEN = 0 → s.baseAt d c ≠ -32768 →
          (s.tileA fi k).baseAt d c = s.baseAt d c ∧ (s.tileA fi k).flagsAt d c = 1
          ∧ (s.tileA fi k).stepAt fi.frame d c = 0))))
  ∧ (∀ (s : State) (fi : FrameInfo) (k : Task) (d c p : Nat), Memory.wf s.fmem = true → fi.hasMutual = true →
    k.row0 + k.nrow ≤ 512 → k.col0 + k.ncol ≤ 96 → s.link.shadow = [] → (d, c) ∈ k.nodes → s.ntx ≤ 512 → d < s.ntx → c < s.ownRx →
    p = c + s.rxBase s.panel.pos →
    (s.hasSignal fi d c = false → (s.tileB fi k).gAt d c = 0 ∧ (s.tileB fi k).isOn d c = false)
    ∧ (s.hasSignal fi d c = true → (s.tileB fi k).wasOn d c = s.wasOn d c
      ∧ ((s.tileB fi k).isOn d c = true ↔ c ∉ fi.ovl ∧ (fi.thrU c (s.inForce R.PIPE_THR_TON) ≤ s.stage3 fi d p
        ∨ (s.wasOn d c = true ∧ s.toffU fi c ≤ s.stage3 fi d p)))
      ∧ (s.inForce R.PIPE_FILT_SPK = 0 → (s.tileB fi k).gAt d c = s.filtAt d c ∧ s.stage3 fi d p = s.filtAt d c)
      ∧ ∀ f : Nat → Nat → Int, s.inForce R.PIPE_FILT_SPK ≠ 0 → 0 < d → 0 < p →
        (∀ i j, i ≤ 2 → j ≤ 2 → s.filtOf fi (d - 1 + i) (p - 1 + j) = some (f i j)) →
        s.stage3 fi d p = roundDiv (4 * f 1 1 + 2 * (f 0 1 + f 1 0 + f 1 2 + f 2 1) + (f 0 0 + f 0 2 + f 2 0 + f 2 2)) 16
        ∧ (s.tileB fi k).gAt d c = signed16 (unsigned16 (s.stage3 fi d p))))
  ∧ (∀ (s : State) (frame k c : Nat), Memory.wf s.fmem = true → k < 4 → c < s.ownRx → c / 24 = k → s.chanOn c = true →
    isCount (s.selfCount frame (rxEntry c)) = true →
    (s.selfFlags (rxEntry c) = 0x20 → (s.selfHouse frame k).selfBase (rxEntry c) = s.selfCount frame (rxEntry c)
      ∧ (s.selfHouse frame k).selfFlags (rxEntry c) = 0)
    ∧ ∀ e : Int, e = (s.selfCount frame (rxEntry c) : Int) - s.selfBase (rxEntry c) → s.selfFlags (rxEntry c) = 0 →
      e < s.inForce R.BASE_STHR_REVTH → -(s.inForce R.BASE_STHR_TRKTH : Int) < e → s.inForce R.BASE_CTL_TRKEN ≠ 0 →
      Int.tdiv e (2 ^ s.inForce R.BASE_CTL_TRKSH : Nat) ≠ 0 →
      ((s.selfHouse frame k).selfBase (rxEntry c) : Int)
        = clampInt (-32767) 32767 (s.selfBase (rxEntry c) + Int.tdiv e (2 ^ s.inForce R.BASE_CTL_TRKSH : Nat)))

/-- Stages 5 to 11 of a frame of a device alone: an on node that is a seed is a sub-blob, with its neighbour where that one is on
too; a sub-blob starts a track, moves the one that it matches, and a track without one coasts until it ends; the report gives a
new track the first free ID and commits the record to Q0. -/
def Obligations.StagesMakeTheReport : Prop :=
  (∀ (s : State) (fi : FrameInfo) (k d c p : Nat), fi.hasMutual = true → s.inCascade = false → s.link.cuffLo = false →
    s.link.cuffHi = false → s.link.shadow = [] → p = c + s.rxBase s.panel.pos → c < s.ownRx → c + 1 < 96 → d < s.ntx → c / 24 = k →
    1 < s.inForce R.PIPE_CLS_PALMA → fi.thrU c (s.inForce R.PIPE_THR_TPEAK) ≤ s.gAt d c →
    (∀ q ∈ neighbours d p, s.gOf fi q.1 q.2 < s.gAt d c) →
    (s.nodes.filter (fun q => s.isOn q.1 q.2) = [(d, c)] →
      (s.inForce R.PIPE_SEG_MINAREA ≤ 1 → ∃ b : SubBlob, (s.extract fi k).pipe.subs = s.pipe.subs ++ [b] ∧ b.seedD = d ∧ b.seedC = p
        ∧ b.palm = false ∧ b.n = 1 ∧ b.nodes = [(d, p)]
        ∧ b.sw = max 0 (s.gAt d c - fi.thrU c (s.inForce R.PIPE_THR_TOFF)) ∧ b.swc = b.sw * p ∧ b.swd = b.sw * d)
      ∧ (1 < s.inForce R.PIPE_SEG_MINAREA → (s.extract fi k).pipe.subs = s.pipe.subs))
    ∧ (s.nodes.filter (fun q => s.isOn q.1 q.2) = [(d, c), (d, c + 1)] → c + 1 < s.ownRx →
      2 < s.inForce R.PIPE_CLS_PALMA → s.inForce R.PIPE_SEG_MINAREA ≤ 2 →
      ∃ b : SubBlob, (s.extract fi k).pipe.subs = s.pipe.subs ++ [b] ∧ b.seedD = d ∧ b.seedC = p ∧ b.n = 2
        ∧ b.nodes = [(d, p), (d, p + 1)]
        ∧ b.sw = max 0 (s.gAt d c - fi.thrU c (s.inForce R.PIPE_THR_TOFF))
          + max 0 (s.gAt d (c + 1) - fi.thrU (c + 1) (s.inForce R.PIPE_THR_TOFF))
        ∧ b.swd = b.sw * d))
  ∧ (∀ (s : State) (fi : FrameInfo) (b : SubBlob), fi.hasMutual = true → s.inCascade = false →
    (∀ x y : Int, s.pipe.subs = [b] → s.classify fi b ≠ 6 → b.fast = false → 0 < b.sw →
      x = s.clampX (roundDiv (64 * b.swc) b.sw.toNat) → y = s.clampY (roundDiv (64 * b.swd) b.sw.toNat) →
      (s.pipe.tracks = [] → ∃ t, (s.track fi).pipe.tracks = [t] ∧ t.id = 0 ∧ t.x = x ∧ t.y = y ∧ t.cls = s.classify fi b
        ∧ t.area = min 0xFFFF b.n ∧ t.volume = b.v ∧ t.coast = 0 ∧ t.ends = false)
      ∧ ∀ t : Track, s.pipe.tracks = [t] →
        ((x - (2 * t.x - t.px)) * (x - (2 * t.x - t.px)) + (y - (2 * t.y - t.py)) * (y - (2 * t.y - t.py))).toNat
          ≤ 4096 * s.inForce R.PIPE_TRACK_GATE * s.inForce R.PIPE_TRACK_GATE →
        ∃ u, (s.track fi).pipe.tracks = [u] ∧ u.id = t.id ∧ u.x = x ∧ u.y = y ∧ u.px = t.x ∧ u.py = t.y ∧ u.coast = 0)
    ∧ ∀ t : Track, s.pipe.subs = [] → fi.mode ≠ 2 → s.pipe.tracks = [t] →
      ∃ u, (s.track fi).pipe.tracks = [u] ∧ u.id = t.id ∧ u.x = t.x ∧ u.y = t.y ∧ u.coast = t.coast + 1
        ∧ u.ends = decide (s.inForce R.PIPE_CTL_LIFTFR ≤ t.coast + 1))
  ∧ ∀ (s : State) (fi : FrameInfo) (us id : Nat) (rest : List Nat) (t : Track), s.inCascade = false →
    s.lastReport fi.frame = false → s.pipe.cancelAll = false →
    (∀ k < 16, s.inForce (R.VCTRL_DEF_TYPE k) = 0 ∧ (s.control k).owner = 0) → s.pipe.pinch = none → s.pipe.modes = [] →
    s.inForce R.PIPE_GEST_DRAGEN = 0 → s.inForce R.PIPE_CTL_AUTOGLV = 0 → 0 < s.queues.length →
    (s.queue 0).level + 48 ≤ 16384 → s.pipe.tracks = [t] → t.id = 0 → t.barred = false → t.ends = false → t.edge = false →
    t.suspect = false → t.coast = 0 → bit (s.inForce R.PIPE_CTL_RPTMASK) t.cls = true → t.cls ≠ 5 → 0 ≤ t.x → 0 ≤ t.y →
    0 < t.volume → s.pipe.freeIds = id :: rest → id ≠ 0 →
    ∃ (r : List Byte) (u : Track), ((s.reportCommit fi us).queue 0).recs = (s.queue 0).recs ++ [r]
      ∧ r.take 8 = [0xC1, 1] ++ toBytes 2 (s.get (R.QUEUE_SEQ_NEXT 0)) ++ toBytes 4 fi.frame ∧ r.length = 48
      ∧ (r.drop 30).take 2 = toBytes 2 (crc16 (r.take 30 ++ r.drop 32))
      ∧ r.drop 32 = [byteOf id, 1, byteOf t.cls, 64] ++ toBytes 2 t.x.toNat ++ toBytes 2 t.y.toNat ++ toBytes 2 t.area
        ++ toBytes 2 t.peak ++ toBytes 4 0
      ∧ (s.reportCommit fi us).pipe.tracks = [u] ∧ u.id = id ∧ (s.reportCommit fi us).pipe.freeIds = rest

/-- Dispatch, waves, posting, and what is done about waves, engines and parks that are late. A wave is held to the
limit that its frame's FRAME_START has taken. That a task which waits for room goes to another active engine of its
slice where its own is active no more is log 111. An extension task is called with its entry as the PC, its frame on
the stack, events enabled and XMODE on. -/
def Obligations.WavesAndExtensionTasks : Prop :=
  ((∀ (s : State) (fi : FrameInfo) (l : List FrameInfo), s.inRun = true → s.flt.safe = false → s.disp.ready = fi :: l →
      s.cuffsReady fi = true → s.disp.cur = none ∨ s.disp.reported = true →
      Completes .dispatch s fun t => t.disp.cur = some fi ∧ t.disp.ready = l ∧ t.disp.wave = 1 ∧ t.disp.reported = false
        ∧ t.disp.gen = fi.frame % 256 ∧ t.disp.waveTb = s.pow.tb)
    ∧ (∀ (s : State) (fi : FrameInfo) (w : Nat), s.inRun = true → s.flt.safe = false → s.disp.cur = some fi →
      s.nextWave fi s.disp.wave = some w → s.disp.ended = true → w ≠ 7 ∨ s.listsReady = true →
      Completes .wavePost s fun t => t.disp.wave = w ∧ s.disp.wave < w ∧ t.disp.ended = false ∧ t.disp.cur = some fi)
    ∧ (∀ (s : State) (q : Nat) (k : Task) (l : List (Nat × Task)), s.inRun = true → s.flt.safe = false →
      s.disp.waiting = (q, k) :: l → s.qRoom (s.queueFor q k) = true →
      Completes .taskPost s fun t => t.disp.waiting = l
        ∧ t.disp.tasks = s.disp.tasks ++ [{ k with tid := s.disp.tid, state := .posted (s.queueFor q k) }]
        ∧ t.disp.tid = (s.disp.tid + 1) % 65536)
    ∧ (∀ (s : State) (fi : FrameInfo), s.disp.cur = some fi → s.disp.wave ≠ 0 → s.disp.ended = false →
      100 * ({ s with force := fi.force }).inForce R.WORKRING_CTL_WAVETMO ≤ tbDiff s.pow.tb s.disp.waveTb →
      Completes .waveTimeout s fun t => t.disp.cur = none ∧ t.disp.waiting = [] ∧ Counted s t R.WORKRING_ERR_WTMO)
    ∧ (∀ (s : State) (e : Fin 32) (tb : Nat), (s.disp.parkReq.find? fun p => p.1 = e.val) = some (e.val, some tb) →
      (s.eng e).state = .run → 2000 ≤ tbDiff s.pow.tb tb →
      Completes (.parkLate e) s fun t => Counted s t R.WORKRING_ERR_PARKLATE
        ∧ (t.disp.parkReq.find? fun p => p.1 = e.val) = some (e.val, none))
    ∧ (∀ s : State, s.unstopped < 4 → Completes .engExhausted s fun t => (Kind.engExhausted, 0) ∈ t.flt.live
        ∧ t.regs = s.regs))
  ∧ (∀ (s : State) (e q : Fin 32) (i : Nat) (k : Task) (fi : FrameInfo) (x : ExtEntry), e < s.engines.length →
      s.nextTask e q (0x10 ≤ ·) = some (i, k, fi) → s.disp.ext[k.kind - 0x10]? = some x →
      Completes (.extensionTask e q) s fun t => (t.eng e).core.pc = BitVec.ofNat 16 x.entry
        ∧ (t.eng e).core.sp = (s.eng e).core.sp - 2 ∧ (t.eng e).core.fl = (s.eng e).core.fl ||| 0x20
        ∧ (t.eng e).xmode = some ((s.eng e).core.sp - 2, (s.eng e).core.depth) ∧ (t.eng e).task = true)

/-! ### Engine-local ports, vectors, reservations and results -/

/-- A write of an engine-local port takes the slot of its OUT, and shows where the rules say; an engine that a STEP
lets issue is halted again behind it, and sleeps or is parked as it goes on; under XMODE the guarded ports trap with
WPROT. That the command of a port access takes the slot of an OUT is log 26. A sleeping engine wakes on a doorbell or
an enabled cause, a parked one as it becomes active again. -/
def Obligations.EnginePorts : Prop :=
  (∀ (s : State) (e : Fin 32), s.canIssue e = true → e < s.engines.length →
      ((s.eng e).inExt = false →
        (∀ (k : Fin 7) (v : Byte), Completes (.windowSet e k v) s fun t =>
          ⟨(s.eng e).core.slot + 3, .port (0x11 + k), v, false⟩ ∈ (t.eng e).late
            ∧ (t.eng e).core.slot = (s.eng e).core.slot + 1 ∧ (t.eng e).core.pc = (s.eng e).core.pc)
        ∧ (∀ v : Byte, Completes (.fevtClear e v) s fun t =>
          ⟨(s.eng e).core.slot + 3, .port 0x28, v, false⟩ ∈ (t.eng e).late
            ∧ (t.eng e).core.slot = (s.eng e).core.slot + 1)
        ∧ (∀ v : Byte, Completes (.dbgoutWrite e v) s fun t =>
          (t.eng e).dbg = (if (s.eng e).dbg.length < 16 then (s.eng e).dbg ++ [v] else (s.eng e).dbg)
            ∧ (t.eng e).drops = (if (s.eng e).dbg.length < 16 then (s.eng e).drops else min 255 ((s.eng e).drops + 1)))
        ∧ (Completes (.engineSleep e) s fun t =>
          ((s.eng e).state = .run → s.flag (R.ENG_CTL_HALT e) = false → (t.eng e).state =
            if (s.eng e).fevt &&& ((s.eng e).fevten ||| 8) = 0 then .sleep else .run)
          ∧ ((s.eng e).state = .halted → (s.eng e).core.pre = none → (t.eng e).state = .halted ∧ (t.eng e).step = false
            ∧ (t.eng e).prior = if (s.eng e).fevt &&& ((s.eng e).fevten ||| 8) = 0 then .sleep else (s.eng e).prior))
        ∧ (Completes (.enginePark e) s fun t => ((s.eng e).state = .run → (t.eng e).state = .parked)
          ∧ ((s.eng e).state = .halted → (s.eng e).core.pre = none → (t.eng e).state = .halted ∧ (t.eng e).prior = .parked))
        ∧ ((s.eng e).late = [] → Completes (.engineTstart e) s fun t => (t.eng e).task = true
          ∧ (t.eng e).tid = (s.eng e).tidStage)
        ∧ (∀ v : Byte, Completes (.engineTdone e v) s fun t => (t.eng e).task = false ∧ (t.eng e).xmode = none
          ∧ (t.eng e).core.slot = (s.eng e).core.slot + 1 ∧ (t.eng e).wbuf = []
          ∧ (∀ k, s.taskOf (s.eng e).tid = some k → k.state = .running e →
            (t.eng e).tasks = ((s.eng e).tasks + 1) % 0x100000000 ∧ (t.eng e).aborted = decide (v ≠ 0))
          ∧ (s.taskOf (s.eng e).tid = none → (t.eng e).tasks = (s.eng e).tasks ∧ t.disp.tasks = s.disp.tasks)))
      ∧ (Completes (.victimRead e) s fun t => (t.eng e).core.slot = (s.eng e).core.slot + 1
        ∧ if (s.eng e).given < 31 then (t.eng e).given = (s.eng e).given + 1 ∧ (t.eng e).round = (s.eng e).round
          else (t.eng e).given = 0 ∧ (t.eng e).round = (s.eng e).round + 1)
      ∧ ((s.eng e).inExt = true → (s.eng e).core.trapAt = none →
        ∀ c ∈ [Instr.engineTstart e, .engineTdone e 0, .engineSleep e, .enginePark e, .windowSet e 0 0],
          Completes c s fun t => (t.eng e).core.cause = 0x11 ∧ (t.eng e).core.pc = 8
            ∧ (t.eng e).core.trapPc = (s.eng e).core.pc))
  ∧ (∀ (s : State) (e : Fin 32), s.inRun = true → e < s.engines.length →
      ((s.eng e).state = .sleep → (s.eng e).fevt &&& ((s.eng e).fevten ||| 8) ≠ 0 →
        Completes (.engineWake e) s fun t => (t.eng e).state = .run ∧ (t.eng e).core = (s.eng e).core)
      ∧ ((s.eng e).state = .parked → e.val ∈ s.disp.active →
        Completes (.engineWake e) s fun t => (t.eng e).state = .run ∧ (t.eng e).core = (s.eng e).core)
      ∧ ((s.eng e).state = .sleep → (s.eng e).fevt &&& ((s.eng e).fevten ||| 8) = 0 →
        exec (.engineWake e) s = .next s))

namespace Sys2Proof.Machine

/-- Engine e takes the trap `cause` after `slots` slots (10 R286 to R289): the cause and the PC of the instruction are recorded,
the handler is at 0x0008, events are off, and the frame with its return PC is on its way to the stack. -/
def Traps (s t : State) (e cause : Nat) (pc ret : BitVec 16) (slots : Nat := 4) : Prop :=
  (t.eng e).core.cause = cause ∧ (t.eng e).core.trapPc = pc ∧ (t.eng e).core.pc = 8
    ∧ (t.eng e).core.sp = (s.eng e).core.sp - 4 ∧ (t.eng e).core.fl.getLsbD 5 = false ∧ (t.eng e).core.rsv = none
    ∧ (t.eng e).core.trapAt = some (t.eng e).core.depth ∧ (t.eng e).core.pre = none ∧ (t.eng e).core.delay = .none
    ∧ (t.eng e).core.slot = (s.eng e).core.slot + slots
    ∧ ∀ w ∈ [(255, byteOf (ret.toNat / 256)), (254, byteOf ret.toNat)],
      ⟨(s.eng e).core.slot + slots + 2, .ram (((s.eng e).core.sp.toNat + w.1) % 256), w.2, false⟩ ∈ (t.eng e).late

/-- The frame that engine e has on its way to the stack after `slots` slots: return PC, FL and RC (10 R283). -/
def Saved (s t : State) (e slots : Nat) (ret : BitVec 16) (fl rc : Byte) : Prop :=
  ∀ w ∈ [(1, byteOf (ret.toNat / 256)), (2, byteOf ret.toNat), (3, fl), (4, rc)],
    ⟨(s.eng e).core.slot + slots + 2, .ram (((s.eng e).core.sp.toNat + 256 - w.1) % 256), w.2, false⟩ ∈ (t.eng e).late

end Sys2Proof.Machine

/-- Events and traps take their vectors: the frame goes to the stack with FL and RC, bit 7 of the saved FL set inside a REPI
with repetitions left; IE and the reservation go. An encoding cause returns to the instruction or to its prefix, with RC as before
the prefix; an execution cause to what comes next. What the command adds to the slots of the trapping instruction is log 26, and
what becomes of an open delay slot is log 44. -/
def Obligations.VectorsAreTaken : Prop :=
  (∀ (s : State) (e : Fin 32) (v : BitVec 16), s.inRun = true → e < s.engines.length → (s.eng e).eventVector = some v →
    (s.eng e).state = .run → (s.eng e).core.permitted = true →
    Completes (.interruptEntry e) s fun t => (t.eng e).core.pc = v ∧ (t.eng e).core.sp = (s.eng e).core.sp - 4
      ∧ (t.eng e).core.fl = (s.eng e).core.fl &&& 0xDF ∧ (t.eng e).core.rsv = none ∧ (t.eng e).core.pre = none
      ∧ (t.eng e).core.slot = (s.eng e).core.slot + 3 ∧ (t.eng e).core.depth = (s.eng e).core.depth + 1
      ∧ Saved s t e 3 (s.eng e).core.pc
        (if (s.eng e).core.pre.isSome = true ∧ (s.eng e).core.rc ≠ 0 then (s.eng e).core.fl ||| 0x80 else (s.eng e).core.fl)
        (s.eng e).core.rc)
  ∧ (∀ (s : State) (e : Fin 32) (cause : Byte) (nxt : BitVec 16), s.canIssue e = true → e < s.engines.length →
    cause.toNat ∈ trapCauses → (s.eng e).core.trapAt = none →
    let c := (s.eng e).core
    (c.pre = none → c.delay = .none → ∀ ret, ret = (if cause.toNat < 0x10 then c.pc else nxt) →
      Completes (.trapEntry e cause nxt) s fun t => Traps s t e cause.toNat c.pc ret ∧ Saved s t e 4 ret c.fl c.rc)
    ∧ (∀ p : Prefix, c.pre = some p → p.begun = false → c.delay = .none → cause.toNat < 0x10 →
      Completes (.trapEntry e cause nxt) s fun t => Traps s t e cause.toNat p.pc p.pc 3 ∧ Saved s t e 3 p.pc c.fl c.held.1)
    ∧ (∀ p : Prefix, c.pre = some p → p.inter = true → p.count ≠ 0 → c.rc ≠ 1 → 0x10 ≤ cause.toNat →
      Completes (.trapEntry e cause nxt) s fun t => Traps s t e cause.toNat c.pc c.pc
        ∧ Saved s t e 4 c.pc (c.fl ||| 0x80) (c.rc - 1)))
  ∧ (∀ (s : State) (e : Fin 32) (cause : Byte) (nxt : BitVec 16), s.canIssue e = true → e < s.engines.length →
    cause.toNat ∈ trapCauses → (s.eng e).core.trapAt.isSome = true → s.heldTask e = none → (s.eng e).core.pre = none →
    Completes (.trapEntry e cause nxt) s fun t => (t.eng e).core.double = true ∧ (t.eng e).state = .stopped
      ∧ (Kind.engDoubleTrap, e.val) ∈ t.flt.live)

/-- A reservation ends by time and by a write of another requester to its line. Results arrive: a product in MH:ML, a
quotient in MQ and MR, what a Quince or Sloe operation writes; the bytes of a Sloe operation are its result over the
bytes that it reads, where none of them has changed since its issue. That these commands let the slots up to the
arrival pass is log 27, and what a Sloe operation reads of a byte that changes meanwhile is log 18. -/
def Obligations.ReservationsAndResults : Prop :=
  ((∀ (s : State) (e : Fin 32) (line at_ : Nat), s.inRun = true → e < s.engines.length →
      (s.eng e).core.rsv = some (line, at_) →
      Completes (.reservationTimeout e) s fun t => (t.eng e).core.rsv = none
        ∧ (t.eng e).core.cyc = max (s.eng e).core.cyc (at_ + 64) ∧ (t.eng e).core.slot = (s.eng e).core.slot)
    ∧ (∀ (s : State) (r : Fin 33) (a : BitVec 20) (v : Byte), s.inRun = true → Memory.wf s.fmem = true →
      Completes (.reservationBreak r a v) s fun t =>
        (∀ b, Memory.read t.fmem b = if b = a.toNat then v else Memory.read s.fmem b)
        ∧ ∀ e : Fin 32, e < s.engines.length → (t.eng e).core.rsv =
          match (s.eng e).core.rsv with
          | some (line, at_) => if e.val ≠ r.val ∧ line = a.toNat / 8 then none else some (line, at_)
          | none => none))
  ∧ ((∀ (s : State) (e : Fin 32) (p : Product) (l : List Product), s.inRun = true → e < s.engines.length →
      (s.eng e).core.prods = p :: l →
      Completes (.mulResult e) s fun t => (t.eng e).core.slot = max (s.eng e).core.slot p.due
        ∧ (∀ x ∈ (t.eng e).core.prods, p.due < x.due)
        ∧ (l = [] → p.mac = false → (t.eng e).core.mh = byteOf (p.val / 256) ∧ (t.eng e).core.ml = byteOf p.val)
        ∧ (l = [] → p.mac = true → 256 * (t.eng e).core.mh.toNat + (t.eng e).core.ml.toNat
          = (256 * (s.eng e).core.mh.toNat + (s.eng e).core.ml.toNat + p.val) % 65536))
    ∧ (∀ (s : State) (e : Fin 32) (due : Nat) (q r : Byte), s.inRun = true → e < s.engines.length →
      (s.eng e).core.quot = some (due, q, r) →
      Completes (.divResult e) s fun t => (t.eng e).core.mq = q ∧ (t.eng e).core.mr = r ∧ (t.eng e).core.quot = none)
    ∧ (∀ (s : State) (e : Fin 32) (q : Nat × Nat), s.inRun = true → e < s.engines.length →
      (s.eng e).core.quince = some q → (s.eng e).core.slot < q.2 →
      Completes (.quinceResult e) s fun t => (t.eng e).core.slot = q.2 ∧ (t.eng e).core.qbusy = false
        ∧ (∀ x ∈ (t.eng e).late, q.2 < x.due)
        ∧ ∀ a w, (s.eng e).late = [w] → w.due ≤ q.2 → w.place = .ram a → Memory.wf (s.eng e).ram = true →
          (s.eng e).core.sloe = none → Memory.read (t.eng e).ram a = w.val)
    ∧ (∀ (s : State) (e : Fin 32) (o : Sloe), s.inRun = true → e < s.engines.length → (s.eng e).core.sloe = some o →
      Completes (.sloeResult e) s fun t => (t.eng e).core.sloe = none
        ∧ (t.eng e).core.cyc = max (s.eng e).core.cyc o.due
        ∧ ∀ a k, (s.eng e).late = [] → (s.eng e).hidden = [] → o.dst = [(.ram a, k)] → Memory.wf (s.eng e).ram = true →
          (∀ p ∈ o.src, ∀ q, p.1 = some q → p.2.getLastD 0 = s.seen e q) →
          Memory.read (t.eng e).ram a = o.bytes.getD k 0)
    ∧ (∀ (o : Sloe) (vals : List Byte) (n : Nat), vals = o.src.map (fun p => p.2.headD 0) → (∀ p ∈ o.src, p.2.length = 1) →
      n = o.src.length / 2 - o.op.counts →
      o.bytes = o.op.result o.ncol (wordPairs (vals.take (2 * n))) (wordPairs (vals.drop (2 * n)))))

/-! ### Frarid-8 -/

namespace Sys2Proof.Machine

/-- The run of an instruction of engine e at its issue. -/
def Run.start (s : State) (e : Nat) : Run := ⟨s.setEng e fun g => { g with pass := false, brk := false }, [], 0, [], false⟩

/-- Engine e issues its next instruction, no prefix governing it (09 R255, 10 R281, R282): it may issue, no halt is asked
for, no breakpoint is met, and no event is due. -/
structure State.Issues (s : State) (e : Nat) : Prop where
  here : e < s.engines.length
  may : s.canIssue e = true
  calm : (s.eng e).state = .run → s.flag (R.ENG_CTL_HALT e) = false
    ∧ ((s.eng e).pass = true ∨ s.atBreakpoint e = false)
    ∧ ((s.eng e).core.permitted = true → (s.eng e).eventVector = none)
  alone : (s.eng e).core.pre = none

/-- The instruction does not stand in the delay slot of a RETI. -/
def Core.notReti (c : Core) : Prop := ∀ pc fl rc, c.delay ≠ .reti pc fl rc

/-- Where an instruction of `len` bytes goes on (10 R269). -/
def Core.nextPc (c : Core) (len : Nat) : BitVec 16 :=
  match c.delay with
  | .none => c.pc + BitVec.ofNat 16 len
  | .flow t _ => t.getD (c.pc + BitVec.ofNat 16 len)
  | .call t _ _ _ => t
  | .reti pc _ _ => pc

/-- The instruction takes one slot, and the engine goes on behind it (10 R266, R269). -/
def Advances (s t : State) (e len : Nat) : Prop :=
  (t.eng e).core.pc = (s.eng e).core.nextPc len ∧ (t.eng e).core.slot = (s.eng e).core.slot + 1
    ∧ (t.eng e).core.delay = .none

/-- The destination exists, accepts a write, and no MAC arrives on it in the next slot (09 R252, 10 R259, R275). -/
def DestOk (r : Run) (e : Nat) (m : BitVec 4) (f : BitVec 16) : Prop :=
  if m = 8 then f.toNat % 256 = 4 ∨ f.toNat % 256 = 5 → ∀ p ∈ (r.core e).prods, p.due ≤ (r.core e).slot + 1 → p.mac = false
  else ∃ p, (r.s.eng e).place (r.addr e m f).1 = some p ∧ (r.s.eng e).accepts p = true

/-- A byte is on its way to its place, where it is seen from the third slot (10 R267); a frame byte that a stepped engine
stores is in frame memory as it halts again (09 R232, R255). -/
def Lands (s t : State) (e : Nat) (p : Place) (v : Byte) : Prop :=
  ⟨(s.eng e).core.slot + 3, p, v, false⟩ ∈ (t.eng e).late
    ∨ ((s.eng e).state = .halted ∧ ∃ a, p = .frame a ∧ (Memory.wf s.fmem = true →
      (∀ l ∈ (s.eng e).late, l.due ≤ (s.eng e).core.slot + 3) → Memory.read t.fmem a = v))

/-- The destination takes a byte: a special register in the next slot, where bit 7 of FL reads 0, memory in the third
(10 R262, R267). -/
def DestTakes (r : Run) (e : Nat) (m : BitVec 4) (f : BitVec 16) (v : Byte) (t : State) : Prop :=
  if m = 8 then t.special e (f.toNat % 256) = if f.toNat % 256 = 0 then v &&& 0x7F else v
  else ∀ p, (r.s.eng e).place (r.addr e m f).1 = some p → Lands r.s t e p v

/-- What an instruction does to C, Z, N and V: a new value, or nothing. -/
structure Want where
  val : Byte
  c : Option Bool
  z : Option Bool
  n : Option Bool
  v : Option Bool

/-- Z and N of the result (11 R295). -/
def Want.zn (val : Byte) (c v : Option Bool) : Want := ⟨val, c, some (decide (val = 0)), some val.msb, v⟩

/-- The flags as wanted; every other bit of FL as it was. -/
def FlagsBecome (fl fl' : Byte) (x : Want) : Prop :=
  ∀ i < 8, fl'.getLsbD i = (([x.c, x.z, x.n, x.v].getD i none).getD (fl.getLsbD i))

/-- The carry as a number. -/
def cy (fl : Byte) : Nat := (fl.getLsbD 0).toNat

/-- A signed result does not fit a byte. -/
def overflows (i : Int) : Bool := decide (i < -128 ∨ 127 < i)

/-- A shift by an effective count: with 0, d = a and C as it was; V = 0 (11 R300). -/
def Want.shift (a : Byte) (n v : Nat) (c : Bool) : Want :=
  if n = 0 then .zn a none (some false) else .zn (BitVec.ofNat 8 v) (some c) (some false)

/-- C:a of 9 bits, rotated left by n. -/
def rot9 (fl a : Byte) (n : Nat) : Nat := (cy fl * 256 + a.toNat) * 2 ^ n % 512 + (cy fl * 256 + a.toNat) / 2 ^ (9 - n)

/-- The three-operand instructions: what they give for FL, a and b (11 R296, R300). -/
def threeRows : List ((Fin 32 → Enc → Instr) × (Byte → Byte → Byte → Want)) := [
  (.isaAdd, fun _ a b => .zn (a + b) (some (decide (256 ≤ a.toNat + b.toNat))) (some (overflows (a.toInt + b.toInt)))),
  (.isaAddc, fun fl a b => .zn (a + b + BitVec.ofNat 8 (cy fl)) (some (decide (256 ≤ a.toNat + b.toNat + cy fl)))
    (some (overflows (a.toInt + b.toInt + cy fl)))),
  (.isaSub, fun _ a b => .zn (a - b) (some (decide (a.toNat < b.toNat))) (some (overflows (a.toInt - b.toInt)))),
  (.isaSubc, fun fl a b => { Want.zn (a - b - BitVec.ofNat 8 (cy fl)) (some (decide (a.toNat < b.toNat + cy fl)))
    (some (overflows (a.toInt - b.toInt - cy fl))) with
    z := some (decide (a - b - BitVec.ofNat 8 (cy fl) = 0) && fl.getLsbD 1) }),
  (.isaAnd, fun _ a b => .zn (a &&& b) none (some false)),
  (.isaOr, fun _ a b => .zn (a ||| b) none (some false)),
  (.isaXor, fun _ a b => .zn (a ^^^ b) none (some false)),
  (.isaAndn, fun _ a b => .zn (a &&& ~~~b) none (some false)),
  (.isaMin, fun _ a b => .zn (BitVec.ofNat 8 (min a.toNat b.toNat)) none none),
  (.isaMax, fun _ a b => .zn (BitVec.ofNat 8 (max a.toNat b.toNat)) none none),
  (.isaMins, fun _ a b => .zn (BitVec.ofInt 8 (min a.toInt b.toInt)) none none),
  (.isaMaxs, fun _ a b => .zn (BitVec.ofInt 8 (max a.toInt b.toInt)) none none),
  (.isaAdds, fun _ a b => .zn (BitVec.ofInt 8 (max (-128) (min 127 (a.toInt + b.toInt)))) none
    (some (overflows (a.toInt + b.toInt)))),
  (.isaSubs, fun _ a b => .zn (BitVec.ofInt 8 (max (-128) (min 127 (a.toInt - b.toInt)))) none
    (some (overflows (a.toInt - b.toInt)))),
  (.isaAddus, fun _ a b => .zn (BitVec.ofNat 8 (min 255 (a.toNat + b.toNat))) (some (decide (255 < a.toNat + b.toNat))) none),
  (.isaSubus, fun _ a b => .zn (BitVec.ofNat 8 (a.toNat - b.toNat)) (some (decide (a.toNat < b.toNat))) none),
  (.isaAbsd, fun _ a b => .zn (BitVec.ofNat 8 (max a.toNat b.toNat - min a.toNat b.toNat))
    (some (decide (a.toNat < b.toNat))) none),
  (.isaAbsds, fun _ a b => .zn (BitVec.ofInt 8 (max a.toInt b.toInt - min a.toInt b.toInt))
    (some (decide (a.toInt < b.toInt))) none),
  (.isaAvg, fun _ a b => .zn (BitVec.ofNat 8 ((a.toNat + b.toNat + 1) / 2)) none none),
  (.isaShl, fun _ a b => .shift a b.toNat (a.toNat * 2 ^ b.toNat) (decide (a.toNat * 2 ^ b.toNat / 256 % 2 = 1))),
  (.isaShr, fun _ a b => .shift a b.toNat (a.toNat / 2 ^ b.toNat) (decide (a.toNat / 2 ^ (b.toNat - 1) % 2 = 1))),
  (.isaSar, fun _ a b => .shift a b.toNat (BitVec.ofInt 8 (a.toInt / 2 ^ b.toNat)).toNat
    (decide (a.toInt / 2 ^ (b.toNat - 1) % 2 = 1))),
  (.isaRol, fun _ a b => .shift a (b.toNat % 8) (a.toNat * 2 ^ (b.toNat % 8) + a.toNat / 2 ^ (8 - b.toNat % 8))
    (decide (a.toNat / 2 ^ (8 - b.toNat % 8) % 2 = 1))),
  (.isaRor, fun _ a b => .shift a (b.toNat % 8) (a.toNat / 2 ^ (b.toNat % 8) + a.toNat * 2 ^ (8 - b.toNat % 8))
    (decide (a.toNat / 2 ^ (b.toNat % 8 - 1) % 2 = 1))),
  (.isaRlc, fun fl a b => .shift a (b.toNat % 9) (rot9 fl a (b.toNat % 9)) (decide (256 ≤ rot9 fl a (b.toNat % 9)))),
  (.isaRrc, fun fl a b => .shift a (b.toNat % 9) (rot9 fl a (9 - b.toNat % 9))
    (decide (256 ≤ rot9 fl a (9 - b.toNat % 9))))]

/-- The two-operand instructions: what they give for a (11 R298). -/
def unaryRows : List ((Fin 32 → Enc → Instr) × (Byte → Want)) := [
  (.isaMov, fun a => ⟨a, none, none, none, none⟩),
  (.isaNot, fun a => .zn (~~~a) none (some false)),
  (.isaNeg, fun a => .zn (0 - a) (some (decide (a ≠ 0))) (some (decide (a = 0x80)))),
  (.isaAbs, fun a => .zn (BitVec.ofNat 8 a.toInt.natAbs) none (some (decide (a = 0x80)))),
  (.isaInc, fun a => .zn (a + 1) (some (decide (a = 0xFF))) (some (decide (a = 0x7F)))),
  (.isaDec, fun a => .zn (a - 1) (some (decide (a = 0))) (some (decide (a = 0x80)))),
  (.isaSgn, fun a => .zn (if a.toInt < 0 then 0xFF else 0) none none),
  (.isaSwap, fun a => .zn (BitVec.ofNat 8 (a.toNat % 16 * 16 + a.toNat / 16)) none none),
  (.isaClz, fun a => .zn (BitVec.ofNat 8 (if a = 0 then 8 else 7 - Nat.log2 a.toNat)) none none),
  (.isaPopc, fun a => .zn (BitVec.ofNat 8 (sumNat ((List.range 8).map fun i => a.toNat / 2 ^ i % 2))) none none)]

/-- The compares: the flags that they give for FL, a and b (11 R298). -/
def compareRows : List ((Fin 32 → Enc → Instr) × (Byte → Byte → Byte → Want)) := [
  (.isaCmp, fun _ a b => .zn (a - b) (some (decide (a.toNat < b.toNat))) (some (overflows (a.toInt - b.toInt)))),
  (.isaCmpc, fun fl a b => { Want.zn (a - b - BitVec.ofNat 8 (cy fl)) (some (decide (a.toNat < b.toNat + cy fl)))
    (some (overflows (a.toInt - b.toInt - cy fl))) with
    z := some (decide (a - b - BitVec.ofNat 8 (cy fl) = 0) && fl.getLsbD 1) }),
  (.isaTst, fun _ a b => .zn (a &&& b) none (some false))]

/-- The multiplies: the 16-bit product, and whether it is added (10 R274, R275). -/
def mulRows : List ((Fin 32 → Enc → Instr) × (Byte → Byte → Nat) × Bool) := [
  (.isaMul, fun a b => a.toNat * b.toNat, false),
  (.isaMuls, fun a b => ((a.toInt * b.toInt) % 65536).toNat, false),
  (.isaMac, fun a b => ((a.toInt * b.toInt) % 65536).toNat, true)]

/-- The divides: quotient, remainder and V (10 R276, 11 R296). -/
def divRows : List ((Fin 32 → Enc → Instr) × (Byte → Byte → Byte × Byte × Bool)) := [
  (.isaDiv, fun a b => if b = 0 then (0xFF, a, false)
    else (BitVec.ofNat 8 (a.toNat / b.toNat), BitVec.ofNat 8 (a.toNat % b.toNat), false)),
  (.isaDivs, fun a b => if b = 0 then (0xFF, a, false)
    else (BitVec.ofInt 8 (a.toInt.tdiv b.toInt), BitVec.ofInt 8 (a.toInt.tmod b.toInt), decide (a = 0x80 ∧ b = 0xFF)))]

/-- The conditional branches and the flags on which they are taken (11 R303). -/
def branchRows : List ((Fin 32 → Enc → Instr) × (Bool → Bool → Bool → Bool → Bool)) := [
  (.isaJmp, fun _ _ _ _ => true),
  (.isaBz, fun _ z _ _ => z), (.isaBnz, fun _ z _ _ => !z), (.isaBc, fun c _ _ _ => c), (.isaBnc, fun c _ _ _ => !c),
  (.isaBn, fun _ _ n _ => n), (.isaBnn, fun _ _ n _ => !n), (.isaBv, fun _ _ _ v => v), (.isaBnv, fun _ _ _ v => !v),
  (.isaBhi, fun c z _ _ => !c && !z), (.isaBls, fun c z _ _ => c || z), (.isaBlt, fun _ _ n v => n != v),
  (.isaBge, fun _ _ n v => n == v), (.isaBgt, fun _ z n v => !z && n == v), (.isaBle, fun _ z n v => z || n != v)]

/-- Engine e runs, nothing of it that is on its way arrives in the next slot, and no delay slot is open. -/
structure State.Settled (s : State) (e : Nat) : Prop where
  running : (s.eng e).state = .run
  delay : (s.eng e).core.delay = .none
  prods : ∀ p ∈ (s.eng e).core.prods, (s.eng e).core.slot + 1 < p.due
  quot : ∀ q ∈ (s.eng e).core.quot, (s.eng e).core.slot + 1 < q.1
  late : ∀ w ∈ (s.eng e).late, (s.eng e).core.slot + 1 < w.due
  hidden : ∀ h ∈ (s.eng e).hidden, (s.eng e).core.slot + 1 < h.1
  sloe : (s.eng e).core.sloe = none

/-- The near-page bytes of a pointer that an operand of mode 4 or 5 updates (10 R263). -/
def pointerByte (m : BitVec 4) (f : BitVec 16) (p : Place) : Prop :=
  (m = 4 ∨ m = 5) ∧ (p = .ram (f.toNat % 256) ∨ p = .ram ((f.toNat % 256 + 1) % 256))

/-- Where an instruction stores: its destination in memory, if it has one, and the pointers that it updates. -/
def Stored (r : Run) (e : Nat) (dest : Bool) (w : Enc) (p : Place) : Prop :=
  (dest = true ∧ w.dm ≠ 8 ∧ (r.s.eng e).place (r.addr e w.dm w.d).1 = some p)
    ∨ pointerByte w.am w.a p ∨ pointerByte w.bm w.b p ∨ (dest = true ∧ pointerByte w.dm w.d p)

/-- The frame of an instruction: the special registers are those of c; of memory, ports and everything else, nothing
changes but what is on its way to the places of `stored`; cycles pass, snapshots and the reservation may change. -/
def Frame (s t : State) (e : Nat) (c : Core) (stored : Place → Prop) : Prop :=
  t = s.finish { s with engines := t.engines }
  ∧ (∀ k, k ≠ e → t.eng k = s.eng k)
  ∧ t.eng e = { s.eng e with
      core := (t.eng e).core, late := (t.eng e).late, wbuf := (t.eng e).wbuf, busy := (t.eng e).busy
      stall := (t.eng e).stall, pass := (t.eng e).pass, brk := (t.eng e).brk }
  ∧ (t.eng e).core = { c with
      cyc := (t.eng e).core.cyc, cycSnap := (t.eng e).core.cycSnap, tbsSnap := (t.eng e).core.tbsSnap
      rsv := (t.eng e).core.rsv }
  ∧ ((t.eng e).core.rsv = (s.eng e).core.rsv ∨ (t.eng e).core.rsv = none)
  ∧ ∀ l ∈ (t.eng e).late, l ∈ (s.eng e).late ∨ stored l.place

/-- The registers after an instruction of `len` bytes with a destination that takes v, and FL otherwise as it stands after. -/
def Core.after (c : Core) (len : Nat) (fl : Byte) (w : Enc) (v : Byte) : Core :=
  let c := { c with pc := c.pc + BitVec.ofNat 16 len, slot := c.slot + 1, fl := fl }
  if w.dm = 8 then c.setSpecial (w.d.toNat % 256) v else c

/-- The registers after an instruction of `len` bytes without a destination. -/
def Core.onward (c : Core) (len : Nat) (fl : Byte) : Core :=
  { c with pc := c.pc + BitVec.ofNat 16 len, slot := c.slot + 1, fl := fl }

/-- The target of a control instruction of `len` bytes (10 R265). -/
def State.targetOf (s : State) (e : Nat) (w : Enc) (len : Nat) : BitVec 16 :=
  if w.am = 0 then (s.eng e).core.pc + BitVec.ofNat 16 len + BitVec.ofInt 16 (w.a.setWidth 8).toInt
  else if w.am = 2 then w.a
  else BitVec.ofNat 16 ((s.readPlace e (.ram (w.a.toNat % 256))).toNat
    + 256 * (s.readPlace e (.ram ((w.a.toNat % 256 + 1) % 256))).toNat)

/-- A 16-bit pointer in the near page, as it is visible (10 R259). -/
def State.pointer (s : State) (e nn : Nat) : Nat :=
  (s.readPlace e (.ram (nn % 256))).toNat + 256 * (s.readPlace e (.ram ((nn + 1) % 256))).toNat

/-- The data address of an operand of mode 1 to 7 that comes first (10 R263). -/
def State.operandAddress (s : State) (e : Nat) (m f : Nat) : Nat :=
  let nn := f % 256
  let x := (s.eng e).core.x.toNat
  [0, nn, f, s.pointer e nn, s.pointer e nn, (s.pointer e nn + 65535) % 65536, (s.pointer e nn + x) % 65536, (nn + x) % 256].getD m 0

end Sys2Proof.Machine

/-- Every three-operand instruction, shift and rotate writes its result and the flags that its row lists; FL as the
destination takes the result alone. -/
def Obligations.ThreeOperandInstructions : Prop :=
  ∀ (s : State) (e : Fin 32) (w : Enc), s.Issues e → (s.eng e).core.notReti → (Shape.plain .d .s .s).check w = none →
    ∀ a b : Byte × Run, (Run.start s e).source e w.am w.a = a → a.2.source e w.bm w.b = b → b.2.causes = [] →
      DestOk b.2 e w.dm w.d → ∀ row ∈ threeRows, Completes (row.1 e w) s fun t =>
        let x := row.2 (s.eng e).core.fl a.1 b.1
        Advances s t e ((Shape.plain .d .s .s).len w) ∧ DestTakes b.2 e w.dm w.d x.val t
        ∧ (toFl w = false → FlagsBecome (s.eng e).core.fl (t.eng e).core.fl x)
        ∧ (s.Settled e → Frame s t e ((s.eng e).core.after ((Shape.plain .d .s .s).len w) (t.eng e).core.fl w x.val)
          (Stored b.2 e true w))

/-- Every two-operand instruction writes its result and the flags that its row lists. -/
def Obligations.UnaryInstructions : Prop :=
  ∀ (s : State) (e : Fin 32) (w : Enc), s.Issues e → (s.eng e).core.notReti → (Shape.plain .d .s .none).check w = none →
    ∀ a : Byte × Run, (Run.start s e).source e w.am w.a = a → a.2.causes = [] → DestOk a.2 e w.dm w.d →
      ∀ row ∈ unaryRows, Completes (row.1 e w) s fun t =>
        Advances s t e ((Shape.plain .d .s .none).len w) ∧ DestTakes a.2 e w.dm w.d (row.2 a.1).val t
        ∧ (toFl w = false → FlagsBecome (s.eng e).core.fl (t.eng e).core.fl (row.2 a.1))
        ∧ (s.Settled e → Frame s t e ((s.eng e).core.after ((Shape.plain .d .s .none).len w) (t.eng e).core.fl w (row.2 a.1).val)
          (Stored a.2 e true w))

/-- Compares change flags only; a product leaves for MH:ML and a quotient for MQ and MR, with DZ and V set at issue. -/
def Obligations.ComparesMultipliesAndDivides : Prop :=
  ∀ (s : State) (e : Fin 32) (w : Enc), s.Issues e → (s.eng e).core.notReti → (Shape.plain .none .s .s).check w = none →
    ∀ a b : Byte × Run, (Run.start s e).source e w.am w.a = a → a.2.source e w.bm w.b = b → b.2.causes = [] →
      let len := (Shape.plain .none .s .s).len w
      (∀ row ∈ compareRows, Completes (row.1 e w) s fun t =>
        Advances s t e len ∧ FlagsBecome (s.eng e).core.fl (t.eng e).core.fl (row.2 (s.eng e).core.fl a.1 b.1)
        ∧ (s.Settled e → Frame s t e ((s.eng e).core.onward len (t.eng e).core.fl) (Stored b.2 e false w)))
      ∧ (∀ row ∈ mulRows, Completes (row.1 e w) s fun t =>
        Advances s t e len ∧ (t.eng e).core.fl = (s.eng e).core.fl
        ∧ ⟨(s.eng e).core.slot + 4, row.2.1 a.1 b.1, row.2.2⟩ ∈ (t.eng e).core.prods
        ∧ (s.Settled e → Frame s t e { (s.eng e).core.onward len (s.eng e).core.fl with
          prods := (s.eng e).core.prods ++ [⟨(s.eng e).core.slot + 4, row.2.1 a.1 b.1, row.2.2⟩] } (Stored b.2 e false w)))
      ∧ (∀ row ∈ divRows, b.1 ≠ 0 ∨ (s.eng e).core.fl.getLsbD 6 = false → Completes (row.1 e w) s fun t =>
        let x := row.2 a.1 b.1
        Advances s t e len ∧ (t.eng e).core.quot = some ((s.eng e).core.slot + 10, x.1, x.2.1)
        ∧ (∀ i < 8, (t.eng e).core.fl.getLsbD i = if i = 3 then x.2.2
          else if i = 4 then (s.eng e).core.fl.getLsbD 4 || decide (b.1 = 0) else (s.eng e).core.fl.getLsbD i)
        ∧ (s.Settled e → Frame s t e { (s.eng e).core.onward len (t.eng e).core.fl with
          quot := (t.eng e).core.quot } (Stored b.2 e false w)))

/-- LDI reads instruction space; PUSH and POP move a byte and SP. -/
def Obligations.LoadImmediateAndStack : Prop :=
  ∀ (s : State) (e : Fin 32) (w : Enc), s.Issues e → (s.eng e).core.notReti →
    ((Shape.plain .d .ia .none).check w = none → ∀ p : Nat × Run, (Run.start s e).addr e w.am w.a = p →
      DestOk p.2 e w.dm w.d → Completes (.isaLdi e w) s fun t =>
        Advances s t e ((Shape.plain .d .ia .none).len w) ∧ DestTakes p.2 e w.dm w.d (Memory.read s.iram p.1) t
        ∧ (toFl w = false → (t.eng e).core.fl = (s.eng e).core.fl)
        ∧ (s.Settled e → Frame s t e
          ((s.eng e).core.after ((Shape.plain .d .ia .none).len w) (t.eng e).core.fl w (Memory.read s.iram p.1))
          (Stored p.2 e true w)))
    ∧ ((Shape.plain .none .s .none).check w = none → ∀ a : Byte × Run, (Run.start s e).source e w.am w.a = a →
      a.2.causes = [] → Completes (.isaPush e w) s fun t =>
        Advances s t e ((Shape.plain .none .s .none).len w) ∧ (t.eng e).core.sp = (s.eng e).core.sp - 1
        ∧ ⟨(s.eng e).core.slot + 3, .ram ((s.eng e).core.sp - 1).toNat, a.1, false⟩ ∈ (t.eng e).late
        ∧ (s.Settled e → Frame s t e { (s.eng e).core.onward ((Shape.plain .none .s .none).len w) (s.eng e).core.fl with
          sp := (s.eng e).core.sp - 1 } fun p => p = .ram ((s.eng e).core.sp - 1).toNat ∨ pointerByte w.am w.a p))
    ∧ ((Shape.plain .d .none .none).check w = none →
      ∀ r : Run, r = (Run.start s e).setSpecial e 2 ((s.eng e).core.sp + 1) → DestOk r e w.dm w.d →
        Completes (.isaPop e w) s fun t =>
          let v := s.readPlace e (.ram (s.eng e).core.sp.toNat)
          Advances s t e ((Shape.plain .d .none .none).len w) ∧ DestTakes r e w.dm w.d v t
          ∧ (¬ (w.dm = 8 ∧ w.d.toNat % 256 = 2) → (t.eng e).core.sp = (s.eng e).core.sp + 1)
          ∧ (toFl w = false → (t.eng e).core.fl = (s.eng e).core.fl)
          ∧ (s.Settled e → Frame s t e ({ (s.eng e).core with sp := (s.eng e).core.sp + 1 }.after
            ((Shape.plain .d .none .none).len w) (t.eng e).core.fl w v) (Stored r e true w)))

/-- Each operand mode names the byte that its row says, as a source and as a destination, and moves its pointer. -/
def Obligations.OperandForms : Prop :=
  ∀ (s : State) (e : Fin 32) (a d : BitVec 16), s.Issues e → (s.eng e).core.notReti →
    let put (t : State) (p : Place) (v : Byte) := Lands s t e p v
    (Completes (.isaMov e ⟨1, 0, 0, 0, d, a, 0⟩) s fun t => put t (.ram (d.toNat % 256)) (BitVec.ofNat 8 a.toNat))
    ∧ (a.toNat % 256 < 0x14 → Completes (.isaMov e ⟨1, 8, 0, 0, d, a, 0⟩) s fun t =>
      put t (.ram (d.toNat % 256)) (s.special e (a.toNat % 256)))
    ∧ (∀ m : BitVec 4, 1 ≤ m.toNat → m.toNat ≤ 7 →
      ∀ p, (s.eng e).place (s.operandAddress e m.toNat a.toNat) = some p →
        (Completes (.isaMov e ⟨1, m, 0, 0, d, a, 0⟩) s fun t =>
          put t (.ram (d.toNat % 256)) (s.readPlace e p)
          ∧ ∀ q, (m = 4 ∧ q = (s.pointer e a.toNat + 1) % 65536) ∨ (m = 5 ∧ q = (s.pointer e a.toNat + 65535) % 65536) →
            put t (.ram (a.toNat % 256)) (byteOf q) ∧ put t (.ram ((a.toNat + 1) % 256)) (byteOf (q / 256)))
        ∧ ((s.eng e).accepts p = true → Completes (.isaMov e ⟨m, 0, 0, 0, a, d, 0⟩) s fun t =>
          put t p (BitVec.ofNat 8 d.toNat)))
    ∧ (∀ p q, (s.eng e).place (s.pointer e a.toNat) = some p →
      (s.eng e).place ((s.pointer e a.toNat + 1) % 65536) = some q → (s.eng e).accepts q = true →
      Completes (.isaMov e ⟨3, 4, 0, 0, a, a, 0⟩) s fun t => put t q (s.readPlace e p))

/-- A control instruction opens its delay slot: its target, its stack bytes and its registers are as its row says. -/
def Obligations.ControlInstructions : Prop :=
  ∀ (s : State) (e : Fin 32) (w : Enc), s.Issues e → (s.eng e).core.delay = .none →
    let c := (s.eng e).core
    let len := (Shape.flow .t).len w
    let opened (t : State) (c' : Core) : Prop :=
      (t.eng e).core.pc = c'.pc ∧ (t.eng e).core.slot = c.slot + 1 ∧ (t.eng e).core.delay = c'.delay
      ∧ (t.eng e).core.fl = c.fl ∧ (t.eng e).core.sp = c'.sp ∧ (t.eng e).core.x = c'.x
      ∧ (s.Settled e → Frame s t e c' fun _ => False)
    ((Shape.flow .t).check w = none →
      (∀ row ∈ branchRows, Completes (row.1 e w) s fun t => opened t { c.onward len c.fl with
        delay := .flow (if row.2 (c.fl.getLsbD 0) (c.fl.getLsbD 1) (c.fl.getLsbD 2) (c.fl.getLsbD 3) = true
          then some (s.targetOf e w len) else none) false })
      ∧ (Completes (.isaCall e w) s fun t => opened t { c.onward len c.fl with
        sp := c.sp - 2
        delay := .call (s.targetOf e w len) ((c.sp.toNat + 255) % 256) ((c.sp.toNat + 254) % 256) (c.slot + 3) })
      ∧ (Completes (.isaDbx e w) s fun t => opened t { c.onward len c.fl with
        x := c.x - 1, delay := .flow (if c.x = 1 then none else some (s.targetOf e w len)) false }))
    ∧ ((Shape.flow .none).check w = none →
      let byte (k : Nat) : Byte := s.readPlace e (.ram ((c.sp.toNat + k) % 256))
      (Completes (.isaRet e w) s fun t => opened t { c.onward 3 c.fl with
        sp := c.sp + 2
        delay := .flow (some (BitVec.ofNat 16 ((byte 0).toNat + 256 * (byte 1).toNat)))
          (decide ((s.eng e).xmode = some (c.sp, c.depth))) })
      ∧ (Completes (.isaReti e w) s fun t => opened t { c.onward 3 c.fl with
        sp := c.sp + 4
        delay := .reti (BitVec.ofNat 16 ((byte 2).toNat + 256 * (byte 3).toNat)) (byte 1) (byte 0) }))

/-- NOP has no effect; in a delay slot the engine goes on behind it where its control instruction decided. How the model counts
vectors for RETI is log 44. -/
def Obligations.DelaySlotsEnd : Prop :=
  ∀ (s : State) (e : Fin 32), s.Issues e →
    (Completes (.isaNop e ⟨0, 0, 0, 0, 0, 0, 0⟩) s fun t =>
      Advances s t e 3
      ∧ (s.Settled e → Frame s t e ((s.eng e).core.onward 3 (s.eng e).core.fl) fun _ => False)
      ∧ (∀ tg leave, (s.eng e).core.delay = .flow tg leave →
        (t.eng e).xmode = if leave = true then none else (s.eng e).xmode)
      ∧ (∀ tg hi lo due, (s.eng e).core.delay = .call tg hi lo due →
        ⟨due, .ram hi, byteOf (((s.eng e).core.pc + 3).toNat / 256), false⟩ ∈ (t.eng e).late
        ∧ ⟨due, .ram lo, byteOf ((s.eng e).core.pc + 3).toNat, false⟩ ∈ (t.eng e).late)
      ∧ (∀ pc fl rc, (s.eng e).core.delay = .reti pc fl rc → (t.eng e).core.fl = fl &&& 0x7F ∧ (t.eng e).core.rc = rc
        ∧ (t.eng e).core.depth = (s.eng e).core.depth - 1
        ∧ (t.eng e).core.pre = if fl.getLsbD 7 = true then some ⟨pc, rc.toNat, true, true, none⟩ else none))

/-- IN and OUT reach the engine-local ports and the register pages. That a page access stalls for no cycle that the model
counts is log 25. -/
def Obligations.PortInstructions : Prop :=
  ∀ (s : State) (e : Fin 32) (w : Enc), s.Issues e → (s.eng e).core.notReti →
    ((Shape.other .d .io .none).check w = none → ∀ (p : Nat × Run) (v : Byte × Run), (Run.start s e).addr e w.am w.a = p →
      p.2.input e p.1 = v → DestOk v.2 e w.dm w.d → v.2.core e = (s.eng e).core →
      e < v.2.s.engines.length →
      Completes (.isaIn e w) s fun t =>
        Advances s t e ((Shape.other .d .io .none).len w) ∧ DestTakes v.2 e w.dm w.d v.1 t
        ∧ (toFl w = false → (t.eng e).core.fl = (s.eng e).core.fl)
        ∧ (∀ k < 7, p.1 = 0x11 + k → v.1 = BitVec.ofNat 8 ((s.eng e).win.getD k 0))
        ∧ (∀ x ∈ [(0x20, (s.eng e).tidStage), (0x21, (s.eng e).tidStage / 256), (0x28, (s.eng e).fevt),
          (0x29, (s.eng e).fevten), (0x2B, s.disp.gen), (0x38, b2n (s.eng e).inExt)], p.1 = x.1 → v.1 = BitVec.ofNat 8 x.2)
        ∧ (0x100 ≤ p.1 → p.1 % 4 = 0 → v.1 = BitVec.ofNat 8 ((Run.start s e).s.readReg (p.1 / 256) (p.1 % 256))))
    ∧ ((Shape.other .io .s .none).check w = none → (s.eng e).inExt = false →
      ∀ (a : Byte × Run) (p : Nat × Run), (Run.start s e).source e w.am w.a = a → a.2.causes = [] →
      a.2.addr e w.dm w.d = p →
      (p.1 ∈ [0x11, 0x12, 0x13, 0x14, 0x15, 0x16, 0x17, 0x20, 0x21, 0x28, 0x29] → Completes (.isaOut e w) s fun t =>
        Advances s t e ((Shape.other .io .s .none).len w)
        ∧ ⟨(s.eng e).core.slot + 3, .port p.1, a.1, false⟩ ∈ (t.eng e).late
        ∧ (s.Settled e → Frame s t e ((s.eng e).core.onward ((Shape.other .io .s .none).len w) (s.eng e).core.fl)
          fun q => q = .port p.1 ∨ pointerByte w.am w.a q))
      ∧ (p.1 = 0x3C → Completes (.isaOut e w) s fun t => Advances s t e ((Shape.other .io .s .none).len w)
        ∧ (t.eng e).dbg = if (s.eng e).dbg.length < 16 then (s.eng e).dbg ++ [a.1] else (s.eng e).dbg)
      ∧ (∀ q : State, 0x100 ≤ p.1 → p.2.s.engineOut e p.1 a.1 = q → (q.eng e).core = p.2.core e → e < q.engines.length →
        Completes (.isaOut e w) s fun t => Advances s t e ((Shape.other .io .s .none).len w)
          ∧ t.regs = q.regs ∧ t.queues = q.queues ∧ t.nvs = q.nvs))

/-- LDRS reserves the line of its byte; STCD stores under the reservation alone, says so in Z, and ends it. The cycle at which
STCD judges its reservation is log 47, that it waits for the write buffer to empty is log 109, and its stalls are log 25. -/
def Obligations.AtomicInstructions : Prop :=
  ∀ (s : State) (e : Fin 32) (w : Enc), s.Issues e → (s.eng e).core.notReti →
    ((Shape.other .d .a .none).check w = none → ∀ (p : Nat × Run) (v : Byte × Run) (f : Nat),
      (Run.start s e).addr e w.am w.a = p → p.2.data e p.1 = v → (s.eng e).place p.1 = some (.frame f) → DestOk v.2 e w.dm w.d →
      Completes (.isaLdrs e w) s fun t => Advances s t e ((Shape.other .d .a .none).len w)
        ∧ DestTakes v.2 e w.dm w.d (s.readPlace e (.frame f)) t 
        ∧ ((t.eng e).core.cyc < (s.eng e).core.cyc + 64 → (t.eng e).core.rsv = some (f / 8, (s.eng e).core.cyc))
        ∧ (toFl w = false → (t.eng e).core.fl = (s.eng e).core.fl)
        ∧ (s.Settled e → t.fmem = s.fmem ∧ t.iram = s.iram ∧ t.regs = s.regs ∧ (t.eng e).ram = (s.eng e).ram
          ∧ ∀ l ∈ (t.eng e).late, l ∈ (s.eng e).late ∨ Stored v.2 e true w l.place))
    ∧ ((Shape.other .a .s .none).check w = none → ∀ (a : Byte × Run) (p : Nat × Run) (f now : Nat) (held : Bool),
      (Run.start s e).source e w.am w.a = a → a.2.causes = [] → a.2.addr e w.dm w.d = p →
      (s.eng e).place p.1 = some (.frame f) → (s.eng e).accepts (.frame f) = true →
      now = p.2.now e + (p.2.s.eng e).emptyWait (p.2.now e) →
      (held = true ↔ ∃ at_, (s.eng e).core.rsv = some (f / 8, at_) ∧ now < at_ + 64) →
      Completes (.isaStcd e w) s fun t => Advances s t e ((Shape.other .a .s .none).len w)
        ∧ (t.eng e).core.rsv = none
        ∧ (∀ i < 8, (t.eng e).core.fl.getLsbD i = if i = 1 then held else (s.eng e).core.fl.getLsbD i)
        ∧ (s.Settled e → (∀ l ∈ (s.eng e).late, ∀ b, l.place ≠ .frame b) → Memory.wf s.fmem = true →
          (∀ b, Memory.read t.fmem b = if held = true ∧ b = f then a.1 else Memory.read s.fmem b)
          ∧ t.iram = s.iram ∧ t.regs = s.regs ∧ (t.eng e).ram = (s.eng e).ram
          ∧ ∀ l ∈ (t.eng e).late, l ∈ (s.eng e).late ∨ pointerByte w.am w.a l.place ∨ pointerByte w.dm w.d l.place))

/-- REP and REPI set the count; the governed instruction is then skipped, or runs its repetitions, RC counting them down. That
all repetitions of a REP are one command is log 28. -/
def Obligations.RepeatPrefixes : Prop :=
  (∀ (s : State) (e : Fin 32) (w : Enc), s.Issues e → (s.eng e).core.delay = .none → Shape.prefix_.check w = none →
    ∀ x ∈ [(Instr.isaRep e w, false), (Instr.isaRepi e w, true)], Completes x.1 s fun t =>
      ∀ n, n = ((Run.start s e).source e w.am w.a).1 →
      (t.eng e).core.pc = (s.eng e).core.pc + 4 ∧ (t.eng e).core.slot = (s.eng e).core.slot + 1 ∧ (t.eng e).core.rc = n
      ∧ (t.eng e).core.pre = some ⟨(s.eng e).core.pc, n.toNat, x.2, false, none⟩
      ∧ (s.Settled e → Frame s t e { (s.eng e).core.onward 4 (s.eng e).core.fl with
        rc := n, fwd := [], pre := (t.eng e).core.pre
        held := ((s.eng e).core.rc, (s.eng e).core.cycSnap, (s.eng e).core.tbsSnap) } fun _ => False))
  ∧ (∀ (s : State) (e : Fin 32) (w : Enc) (p : Prefix), e < s.engines.length → s.canIssue e = true →
    (s.eng e).core.pre = some p → p.begun = false → p.bad = none → (Shape.plain .d .s .s).check w = none →
    (p.count = 0 → ∀ row ∈ threeRows, Completes (row.1 e w) s fun t =>
      (t.eng e).core.pc = (s.eng e).core.pc + BitVec.ofNat 16 ((Shape.plain .d .s .s).len w)
      ∧ (t.eng e).core.slot = (s.eng e).core.slot ∧ (t.eng e).core.pre = none ∧ (t.eng e).core.fl = (s.eng e).core.fl)
    ∧ (s.stopsAt e = false → (s.eng e).core.rc = BitVec.ofNat 8 p.count → 1 ≤ p.count → p.count < 256 →
      w.dm = 1 ∨ w.dm = 8 → w.am = 0 ∨ w.am = 1 ∨ w.am = 8 → w.bm = 0 ∨ w.bm = 1 ∨ w.bm = 8 →
      (p.inter = false → ∀ row ∈ threeRows, Completes (row.1 e w) s fun t =>
        (t.eng e).core.pc = (s.eng e).core.pc + BitVec.ofNat 16 ((Shape.plain .d .s .s).len w)
        ∧ (t.eng e).core.slot = (s.eng e).core.slot + p.count ∧ (t.eng e).core.pre = none ∧ (t.eng e).core.rc = 0)
      ∧ (p.inter = true → ∀ row ∈ threeRows, Completes (row.1 e w) s fun t =>
        (t.eng e).core.slot = (s.eng e).core.slot + 1 ∧ (t.eng e).core.rc = (s.eng e).core.rc - 1
        ∧ if p.count = 1 then (t.eng e).core.pre = none
            ∧ (t.eng e).core.pc = (s.eng e).core.pc + BitVec.ofNat 16 ((Shape.plain .d .s .s).len w)
          else (t.eng e).core.pre = some { p with begun := true } ∧ (t.eng e).core.pc = (s.eng e).core.pc)
      ∧ (∀ k : Byte, p.inter = false → w = ⟨8, 8, 0, 0, 1, 1, k.setWidth 16⟩ → Completes (.isaAdd e w) s fun t =>
        (t.eng e).core.x = (s.eng e).core.x + BitVec.ofNat 8 p.count * k)))

/-- Quince answers its exact result at its latency and cancels what it held; Sloe reads its tile, and writes the peak, the
first of the largest in row order, or the histogram. Which of the values within one unit QATAN answers is free (log 8); what Sloe
reads and writes beside other accesses is log 18; where XMODE refuses a byte of Quince's is log 29. -/
def Obligations.CoprocessorOperations : Prop :=
  (∀ (s : State) (e : Fin 32) (w : Enc), s.Issues e → (s.eng e).core.notReti → (s.eng e).inExt = false →
      ∀ pa pb pd : Nat, ((Run.start s e).addr e w.am w.a).1 = pa → ((Run.start s e).addr e w.bm w.b).1 = pb →
        ((Run.start s e).addr e w.dm w.d).1 = pd →
        let x2 := signed16 (s.readWide e pa 2)
        let y2 := signed16 (s.readWide e pb 2)
        let delivers (c : Instr) (len latency : Nat) (ok : List Byte → Prop) : Prop := Completes c s fun t =>
          Advances s t e len ∧ (t.eng e).core.fl = (s.eng e).core.fl
          ∧ (∀ l ∈ (t.eng e).late, l.quince = true → l.due = (s.eng e).core.slot + latency)
          ∧ ∃ bs, ok bs ∧ ∀ i (v : Byte) p, bs[i]? = some v → (s.eng e).place (pd + i) = some p →
            ⟨(s.eng e).core.slot + latency, p, v, true⟩ ∈ (t.eng e).late
        let answer (q r : Nat) (st : Byte) (bs : List Byte) : Prop := bs = toBytes 2 q ++ toBytes 2 r ++ [st]
        ((Shape.other .m .m .m).check w = none →
          let len := (Shape.other .m .m .m).len w
          (∀ c ∈ [(Instr.isaQdiv e w, 2, 20), (Instr.isaQdivl e w, 4, 36)], delivers c.1 len c.2.2 fun bs =>
            ∀ a b, a = s.readWide e pa c.2.1 → b = s.readWide e pb 2 →
              if b = 0 then answer 0xFFFF (a % 65536) 1 bs
              else if 65536 * b ≤ a then answer 0xFFFF 0 2 bs else answer (a / b) (a % b) 0 bs)
          ∧ (delivers (.isaQdivs e w) len 20 fun bs =>
            if y2 = 0 then answer 0xFFFF (s.readWide e pa 2) 1 bs
            else if x2 = -32768 ∧ y2 = -1 then answer 0x8000 0 2 bs
            else answer (x2.tdiv y2 % 65536).toNat (x2.tmod y2 % 65536).toNat 0 bs)
          ∧ (delivers (.isaQatan e w) len 24 fun bs => ∃ v, bs = toBytes 2 v ∧
            if x2 = 0 ∧ y2 = 0 then v = 0 else v ∈ angleNear x2 y2)
          ∧ (delivers (.isaQhyp e w) len 24 fun bs => ∃ v : Nat, bs = toBytes 2 v ∧ (v : Int) * v ≤ x2 * x2 + y2 * y2
            ∧ x2 * x2 + y2 * y2 < ((v : Int) + 1) * (v + 1))
          ∧ (∀ (u : State) (ncol nrow stride : Nat), u = s.setCore e (fun c => { c with sloe := none }) →
            ncol = u.readWide e pb 1 → nrow = u.readWide e (pb + 1) 1 → stride = u.readWide e (pb + 2) 2 →
            let reads (t : State) (o : Sloe) (l : List Nat) : Prop :=
              o.src.map (fun p => (p.1, p.2.head?)) = l.map (fun a => ((s.eng e).place a, some (u.readData e a)))
              ∧ (t.eng e).core.sloe = some o ∧ (s.Settled e → ∀ p ∈ o.src, p.2.length = 1)
            let writes (o : Sloe) (n : Nat) : Prop := (∀ i < n, (s.eng e).place (pd + i) ≠ none) →
              o.dst.map (fun x => (some x.1, x.2)) = (List.range n).map fun i => ((s.eng e).place (pd + i), i)
            ((∀ i < 4, (s.eng e).place (pb + i) ≠ none) → Completes (.isaSpeak e w) s fun t => Advances s t e len ∧ ∃ o : Sloe,
              reads t o (sloeBytes pa ncol nrow stride) ∧ writes o 6 ∧ o.op = .peak ∧ o.ncol = ncol
              ∧ o.due = (s.eng e).core.cyc + (s.eng e).sloeTime e pa ncol nrow stride 2 pd 6)
            ∧ (∀ lo shift nbins, lo = signed16 (u.readWide e (pb + 4) 2) → shift = u.readWide e (pb + 6) 1 →
              nbins = u.readWide e (pb + 7) 1 → (∀ i < 8, (s.eng e).place (pb + i) ≠ none) →
              ∀ c ∈ [(Instr.isaShist e w, false), (Instr.isaShistz e w, true)],
              Completes c.1 s fun t => Advances s t e len ∧ ∃ o : Sloe, (t.eng e).core.sloe = some o
                ∧ (15 < shift ∨ nbins ∉ [8, 16, 32] → o.due = (s.eng e).core.cyc + 8 ∧ o.dst = [])
                ∧ (shift ≤ 15 → nbins ∈ [8, 16, 32] →
                  reads t o (sloeBytes pa ncol nrow stride ++ if c.2 = true then [] else span pd (2 * nbins))
                  ∧ writes o (2 * nbins) ∧ o.op = .hist c.2 lo shift nbins ∧ o.ncol = ncol
                  ∧ o.due = (s.eng e).core.cyc
                    + (s.eng e).sloeTime e pa ncol nrow stride (if c.2 = true then nbins else 2 * nbins) pd (2 * nbins)))))
        ∧ ((Shape.other .m .m .none).check w = none → delivers (.isaQsqrt e w) ((Shape.other .m .m .none).len w) 20 fun bs =>
          ∃ v, bs = toBytes 2 v ∧ v * v ≤ s.readWide e pa 4 ∧ s.readWide e pa 4 < (v + 1) * (v + 1)))
  ∧ (∀ (ncol : Nat) (l counts : List Nat),
    ((∀ x ∈ l, x = 0x8000) → SloeOp.peak.result ncol l counts = [0, 0x80, 0xFF, 0xFF, 0, 0])
    ∧ (∀ i v, l[i]? = some v → v ≠ 0x8000 →
      (∀ j x, l[j]? = some x → x ≠ 0x8000 → signed16 x < signed16 v ∨ (signed16 x = signed16 v ∧ i ≤ j)) →
      SloeOp.peak.result ncol l counts = toBytes 2 (unsigned16 (signed16 v)) ++ toBytes 1 (i / ncol) ++ toBytes 1 (i % ncol)
        ++ toBytes 2 (l.countP (· ≠ 0x8000)))
    ∧ ∀ zero lo shift nbins k, k < nbins →
      (((SloeOp.hist zero lo shift nbins).result ncol l counts).drop (2 * k)).take 2 = toBytes 2 (min 0xFFFF
        (counts.getD k 0 + l.countP fun x => decide (x ≠ 0x8000
          ∧ max 0 (min ((nbins : Int) - 1) ((signed16 x - lo) / 2 ^ shift)) = k))))

/-- BRK halts or traps by BRKEN; reserved opcodes, encoding errors and execution causes trap with their cause. That a halt at a
BRK sets HALT is log 46, and what becomes of an open delay slot is log 44. -/
def Obligations.BreaksAndTraps : Prop :=
  ∀ (s : State) (e : Fin 32) (w : Enc), e < s.engines.length → s.canIssue e = true → (s.eng e).core.trapAt = none →
    let pc := (s.eng e).core.pc
    (s.Issues e → (s.eng e).core.delay = .none → (Shape.other .none .none .none).check w = none →
      (s.flag (R.ENG_CTL_BRKEN e) = false → Completes (.isaBrk e w) s fun t => Traps s t e 0x14 pc (pc + 3))
      ∧ (s.flag (R.ENG_CTL_BRKEN e) = true → (s.eng e).state = .run → (s.eng e).pass = false →
        Completes (.isaBrk e w) s fun t => (t.eng e).state = .halted ∧ t.flag (R.ENG_CTL_HALT e) = true
          ∧ (t.eng e).core = (s.eng e).core)
      ∧ (s.flag (R.ENG_CTL_BRKEN e) = true → (s.eng e).state = .halted ∨ (s.eng e).pass = true →
        Completes (.isaBrk e w) s fun t => Advances s t e 3))
    ∧ (s.Issues e → ∀ op : Byte, (op ∉ definedOpcodes.map (BitVec.ofNat 8) → op.toNat / 16 ≠ 14 →
        Completes (.isaIllegalOpcode e op) s fun t => Traps s t e 0x01 pc pc)
      ∧ (op.toNat / 16 = 14 → Completes (.isaIllegalOpcode e op) s fun t => Traps s t e 0x09 pc pc))
    ∧ (s.Issues e → ∀ cause k, (Shape.plain .d .s .s).check w = some (k, cause) → ∀ row ∈ threeRows,
      Completes (row.1 e w) s fun t => Traps s t e cause pc pc
        ∧ (w.rsv ≠ 0 → cause = 0x04) ∧ (w.rsv = 0 → w.dm = 0 → cause = 0x03)
        ∧ (w.rsv = 0 → w.dm ≠ 0 → 8 < w.dm.toNat ∨ 8 < w.am.toNat ∨ 8 < w.bm.toNat → cause = 0x02))
    ∧ (s.Issues e → (s.eng e).core.delay ≠ .none →
      (∀ row ∈ branchRows, Completes (row.1 e w) s fun t => Traps s t e 0x07 pc pc)
      ∧ ∀ c ∈ [Instr.isaRep e w, .isaRepi e w], Completes c s fun t => Traps s t e 0x06 pc pc)
    ∧ (∀ p : Prefix, (s.eng e).core.pre = some p → p.begun = false → s.stopsAt e = false →
      ∀ c ∈ [Instr.isaNop e w, .isaIn e w, .isaJmp e w, .isaRep e w, .isaQdiv e w, .isaBrk e w],
        Completes c s fun t => Traps s t e 0x08 p.pc p.pc 3)
    ∧ (s.Issues e → (s.eng e).core.delay = .none → ∀ a d : BitVec 16,
      (0x1000 ≤ a.toNat → a.toNat < 0x2000 →
        (Completes (.isaMov e ⟨1, 2, 0, 0, d, a, 0⟩) s fun t => Traps s t e 0x10 pc (pc + 6))
        ∧ (Completes (.isaMov e ⟨2, 0, 0, 0, a, d, 0⟩) s fun t => Traps s t e 0x10 pc (pc + 6)))
      ∧ (0x2000 ≤ a.toNat → (s.eng e).inExt = true →
        granule ((s.eng e).win.getD (a.toNat / 0x2000 - 1) 0 * 0x2000 + a.toNat % 0x2000) % 32 < 28 →
        Completes (.isaMov e ⟨2, 0, 0, 0, a, d, 0⟩) s fun t => Traps s t e 0x11 pc (pc + 6))
      ∧ (Completes (.isaLdrs e ⟨1, 1, 0, 0, d, a, 0⟩) s fun t => Traps s t e 0x12 pc (pc + 5))
      ∧ ((s.eng e).core.fl.getLsbD 6 = true →
        Completes (.isaDiv e ⟨0, 0, 0, 0, 0, a, 0⟩) s fun t => Traps s t e 0x13 pc (pc + 5)
          ∧ (t.eng e).core.quot = some ((s.eng e).core.slot + 10, 0xFF, BitVec.ofNat 8 a.toNat)))

namespace Sys2Proof.Machine

/-- PC, FL, X, SP, RC, MH, ML, MQ, MR and MS of engine e are 0; no reservation is held, and no result is on its way (10 R290). -/
def Cleared (t : State) (e : Nat) : Prop :=
  (t.eng e).core.pc = 0 ∧ (∀ n ≤ 8, t.special e n = 0) ∧ (t.eng e).core.rsv = none ∧ (t.eng e).core.prods = []
    ∧ (t.eng e).core.quot = none ∧ (t.eng e).core.sloe = none ∧ (t.eng e).late = [] ∧ (t.eng e).hidden = []

end Sys2Proof.Machine

/-- A reset, and RESTART of a halted or stopped engine, clear its registers and what it had on its way; with SP at 0 the first
PUSH writes near-page byte 0xFF. -/
def Obligations.EnginesStartCleared : Prop :=
  (∀ e : Fin 32, Cleared State.reset e)
  ∧ (∀ (s : State) (vio : Bool) (pins : StrapPins), s.sup.on = false →
    Completes (.powerOn vio pins) s fun t => ∀ e : Fin 32, Cleared t e)
  ∧ (∀ (s : State) (ns : Nat) (pins : StrapPins), s.sup.on = true → s.sup.vioGood = true → 2000 ≤ ns →
    Completes (.resetnReset ns pins) s fun t => ∀ e : Fin 32, Cleared t e)
  ∧ (∀ s : State, s.up = true → s.get R.DEVICE_STRAPS_SAMPLED = 1 → s.get R.DEVICE_STRAPS_ROOT = 0 →
    Completes .linkReset s fun t => ∀ e : Fin 32, Cleared t e)
  ∧ (∀ (s : State) (req : Requester), s.Admits req 0x00 0x30 →
    Completes (.rstcmdReset req true 0x5A1D) s fun t => ∀ e : Fin 32, Cleared t e)
  ∧ (∀ (s : State) (req : Requester) (e : Fin 32), s.Admits req (0x30 + e) 0x20 → e < s.engines.length →
    s.engIdle e = true → s.heldTask e = none → Completes (.engRestart req e) s fun t => Cleared t e)
  ∧ (∀ (s : State) (e : Fin 32) (v : BitVec 16), s.Issues e → (s.eng e).core.notReti → Cleared s e →
    Completes (.isaPush e ⟨0, 0, 0, 0, 0, v, 0⟩) s fun t =>
      ⟨(s.eng e).core.slot + 3, .ram 0xFF, BitVec.ofNat 8 v.toNat, false⟩ ∈ (t.eng e).late ∧ (t.eng e).core.sp = 0xFF)

/-! ### Code division -/

/-- The Walsh codes: chip j of code w is -1 to the count of one bits of w AND j, code 0 is all +1, and distinct codes of
the same length are orthogonal (04 R98). -/
def Obligations.WalshCodes : Prop :=
  (∀ w j : Nat, w < 512 → j < 512 → walsh w j = (-1) ^ (List.range 9).countP fun i => (w &&& j).testBit i)
  ∧ (∀ j : Nat, walsh 0 j = 1)
  ∧ (∀ k : Nat, 6 ≤ k → k ≤ 9 → ∀ a b : Nat, a < 2 ^ k → b < 2 ^ k →
      ((List.range (2 ^ k)).map fun j => walsh a j * walsh b j).sum = if a = b then 2 ^ k else 0)

/-- The decoder separates the lines of a burst: where every chip result is the sum of the lines' values under their
codes, less what the compensation injected, the value of each line is decoded exactly but for the clamp, whatever the
range, the codes injected and the scale (05 R136, R124). The length of a burst is that of its code, 2^k. -/
def Obligations.CodeDivisionSeparatesLines : Prop :=
  ∀ (k base cr sigma reps : Nat) (v y q : List Int), 6 ≤ k → k ≤ 9 → 0 < reps → base + v.length ≤ 2 ^ k →
    q.length = 2 ^ k → y.length = reps * 2 ^ k →
    (∀ j : Nat, j < reps * 2 ^ k → 768 * y.getD j 0 =
      768 * ((List.range v.length).map fun i => v.getD i 0 * walsh (base + i) (j % 2 ^ k)).sum
        - q.getD (j % 2 ^ k) 0 * (1000 * 2 ^ cr * sigma)) →
    ∀ i : Nat, i < v.length →
      decodeNode (base + i) (2 ^ k) reps cr sigma y q = clampInt (-32767) 32767 (v.getD i 0)

/-! ### The plainest case of the commands with many forms -/

/-- What each command of the scan phase, of the dispatcher and of the engines does in its plainest case: the part of a scan word
that it ends, the frame or the task that goes on, the port that it writes, the vector that is taken, the result that arrives, and
what the two-wire target and the link give. The slot of a port command is log 26, the release of a blanking interval log 85, the
matching of parts and lists log 63, and how the waits for them end log 106. -/
def Obligations.PlainestCases : Prop :=
  (∀ s : State, s.inRun = true → s.flt.safe = false → s.get R.DRIVE_STAT_VTXACT ≠ 0 →
    (s.get R.DRIVE_STAT_VTXGOOD = 0 → ∀ (a : Nat) (d : Bool), Completes (.vtxGood a d) s fun t =>
      t.get R.DRIVE_STAT_VTXGOOD = 1)
    ∧ (s.get R.DRIVE_STAT_VTXGOOD = 0 → s.flt.queue = [] → Completes .vtxFault s fun t => t.flt.queue ≠ [])
    ∧ (∀ (a : Nat) (b : Nat × Nat × Nat × Nat), s.scan.phase = .word → s.bursts[s.scan.built]? = some b →
      s.scan.seqs = [] → b.2.2.1 ≤ 3 → Completes (.compensationSequenceReady a) s fun t => t.scan.built = s.scan.built + 1))
  ∧ (∀ s : State, s.scanRuns = true →
    (∀ (l : List Nat) (t n : Nat), s.curWord = .listen t n → s.scan.sub < n →
      Completes (.listenWindowEnd l) s fun u => u.scan.sub = s.scan.sub + 1)
    ∧ (∀ l : List Nat, s.get R.DRIVE_STAT_BURST = 1 → 0 < s.scan.settle →
      Completes (.chipEnd l) s fun t => t.scan.settle + 1 = s.scan.settle)
    ∧ (∀ (r : List (List Int)) (a b l c : Nat), s.curWord = .burst a b l c → s.get R.DRIVE_STAT_BURST = 1 →
      s.scan.settle = 0 → s.burstChips ≤ s.scan.sub → s.bufferHeld = false →
      Completes (.burstEnd r) s fun t => t.scan.burst = s.scan.burst + 1)
    ∧ (∀ (l : List Nat) (ax k sl tm : Nat), s.curWord = .self ax k sl tm →
      Completes (.selfPassEnd l) s fun t => t.scan.clk = s.scan.clk + 768 * tm)
    ∧ (∀ (l : List Nat) (ty sl st tm : Nat), s.curWord = .test ty sl st tm → s.scan.test = false →
      Completes (.testPassEnd l) s fun t => t.scan.clk = s.scan.clk + 768 * tm)
    ∧ (∀ us : Nat, s.curWord = .wait us → Completes .waitEnd s fun t => t.scan.clk = s.scan.clk + 96 * us))
  ∧ (∀ s : State, s.inRun = true → s.flt.safe = false →
    (s.scan.phase = .done → s.bufferHeld = false → s.scan.stopping = false →
      Completes .scanEnd s fun t => t.scan.phase = .ended)
    ∧ (∀ v b, s.inForce R.DRIVE_BLANK_EN0 ≠ 0 → v = decide (s.inForce R.DRIVE_BLANK_POL0 = 0) →
      s.scan.blank.frozen = false → Completes (.blankAssert 0 v b) s fun t => t.scan.blank.frozen = true)
    ∧ (∀ v us, s.scan.blank.frozen = true → s.inForce R.DRIVE_BLANK_EN1 = 0 →
      v ≠ decide (s.inForce R.DRIVE_BLANK_POL0 = 0) → us ≤ s.inForce R.DRIVE_BLANK_LIM →
      Completes (.blankRelease 0 v us) s fun t => t.scan.blank.frozen = false)
    ∧ (∀ us i, s.scan.phase = .ended → s.scan.test = false → s.scan.abandoned = false →
      s.base.acqFrame ≠ s.scan.frame → s.base.acq = some i → i ≠ 7 →
      Completes (.acquisition us) s fun t => t.base.acq = some (i + 1))
    ∧ (∀ fi l, s.disp.ready = fi :: l → s.inCascade = false → s.disp.cur = none →
      Completes .dispatch s fun t => t.disp.cur = some fi)
    ∧ (∀ fi w, s.disp.cur = some fi → s.nextWave fi s.disp.wave = some w → s.disp.ended = true → w ≠ 7 →
      Completes .wavePost s fun t => t.disp.wave = w)
    ∧ (∀ q k l, s.disp.waiting = (q, k) :: l → s.qRoom (s.queueFor q k) = true →
      Completes .taskPost s fun t => t.disp.waiting = l)
    ∧ (∀ fi, s.disp.cur = some fi → s.disp.wave ≠ 0 → s.disp.ended = false →
      100 * ({ s with force := fi.force }).inForce R.WORKRING_CTL_WAVETMO ≤ tbDiff s.pow.tb s.disp.waveTb →
      Completes .waveTimeout s fun t => t.disp.cur = none))
  ∧ (∀ (s : State) (e q : Fin 32) (us : BitVec 16) (i : Nat) (k : Task) (fi : FrameInfo), Memory.wf s.fmem = true →
    k.state = .posted q → ∀ c ∈ [(1, Instr.tileA e q), (2, .tileB e q), (3, .extract e q), (4, .track e q),
      (5, .report e q us), (6, .house e q)], s.nextTask e q (· = c.1) = some (i, k, fi) →
      Completes c.2 s fun t => (t.eng e).tasks = ((s.eng e).tasks + 1) % 0x100000000 ∧ ∀ x ∈ t.disp.tasks, x.tid ≠ k.tid)
  ∧ (∀ (s : State) (e q : Fin 32) (i : Nat) (k : Task) (fi : FrameInfo) (x : ExtEntry), e < s.engines.length →
    s.nextTask e q (0x10 ≤ ·) = some (i, k, fi) → s.disp.ext[k.kind - 0x10]? = some x →
    Completes (.extensionTask e q) s fun t => (t.eng e).core.pc = BitVec.ofNat 16 x.entry)
  ∧ (∀ (s : State) (e : Fin 32), s.canIssue e = true → e < s.engines.length →
    Completes (.victimRead e) s (fun t => (t.eng e).core.slot = (s.eng e).core.slot + 1)
    ∧ ((s.eng e).inExt = false →
      Completes (.engineTstart e) s (fun t => (t.eng e).task = true)
      ∧ (∀ v, Completes (.engineTdone e v) s fun t => (t.eng e).task = false)
      ∧ ((s.eng e).fevt = 0 → (s.eng e).state = .run → Completes (.engineSleep e) s fun t => (t.eng e).state = .sleep)
      ∧ ((s.eng e).state = .run → Completes (.enginePark e) s fun t => (t.eng e).state = .parked)
      ∧ (∀ v, Completes (.fevtClear e v) s fun t => ⟨(s.eng e).core.slot + 3, .port 0x28, v, false⟩ ∈ (t.eng e).late)
      ∧ (∀ (k : Fin 7) v, Completes (.windowSet e k v) s fun t =>
        ⟨(s.eng e).core.slot + 3, .port (0x11 + k), v, false⟩ ∈ (t.eng e).late)
      ∧ ∀ v, (s.eng e).dbg = [] → Completes (.dbgoutWrite e v) s fun t => (t.eng e).dbg = [v])
    ∧ ((s.eng e).core.trapAt = none → (s.eng e).core.pre = none → ∀ (cause : Byte) (nxt : BitVec 16), cause.toNat ∈ trapCauses →
      Completes (.trapEntry e cause nxt) s fun t => (t.eng e).core.pc = 8))
  ∧ (∀ (s : State) (e : Fin 32), s.inRun = true → e < s.engines.length →
    ((s.eng e).state = .parked → e.val ∈ s.disp.active → Completes (.engineWake e) s fun t => (t.eng e).state = .run)
    ∧ (∀ v, (s.eng e).eventVector = some v → (s.eng e).state = .run → (s.eng e).core.permitted = true →
      Completes (.interruptEntry e) s fun t => (t.eng e).core.pc = v)
    ∧ (∀ r, (s.eng e).core.rsv = some r → Completes (.reservationTimeout e) s fun t => (t.eng e).core.rsv = none)
    ∧ (∀ p l, (s.eng e).core.prods = p :: l → Completes (.mulResult e) s fun t => p ∉ (t.eng e).core.prods)
    ∧ (∀ q, (s.eng e).core.quot = some q → Completes (.divResult e) s fun t => (t.eng e).core.quot = none)
    ∧ ((s.eng e).core.qbusy = true → Completes (.quinceResult e) s fun t => (t.eng e).core.qbusy = false)
    ∧ (∀ o, (s.eng e).core.sloe = some o → Completes (.sloeResult e) s fun t => (t.eng e).core.sloe = none)
    ∧ (∀ (r : Fin 33) (a : BitVec 20) (v : Byte), Memory.wf s.fmem = true →
      Completes (.reservationBreak r a v) s fun t => Memory.read t.fmem a.toNat = v))
  ∧ (∀ (s : State) (e : Fin 32), s.Issues e → (s.eng e).core.delay = .none → (s.eng e).inExt = false →
    Completes (.isaNop e ⟨0, 0, 0, 0, 0, 0, 0⟩) s (fun t => Advances s t e 3)
    ∧ (∀ v : Byte, (s.eng e).dbg = [] →
      Completes (.isaOut e ⟨1, 0, 0, 0, 0x3C, v.setWidth 16, 0⟩) s fun t => (t.eng e).dbg = [v])
    ∧ (∀ d : BitVec 16, Completes (.isaIn e ⟨1, 1, 0, 0, d, 0x28, 0⟩) s fun t =>
      ⟨(s.eng e).core.slot + 3, .ram (d.toNat % 256), BitVec.ofNat 8 (s.eng e).fevt, false⟩ ∈ (t.eng e).late)
    ∧ (∀ v a : BitVec 16, 0x2000 ≤ a.toNat → Completes (.isaStcd e ⟨2, 0, 0, 0, a, v, 0⟩) s fun t =>
      Advances s t e 6 ∧ (t.eng e).core.rsv = none)
    ∧ (∀ d a : BitVec 16, 0x2000 ≤ a.toNat → Completes (.isaLdrs e ⟨1, 2, 0, 0, d, a, 0⟩) s fun t => Advances s t e 6)
    ∧ (∀ n : Byte, ∀ x ∈ [(Instr.isaRep e ⟨0, 0, 0, 0, 0, n.setWidth 16, 0⟩, false),
      (.isaRepi e ⟨0, 0, 0, 0, 0, n.setWidth 16, 0⟩, true)], Completes x.1 s fun t =>
      (t.eng e).core.pre = some ⟨(s.eng e).core.pc, n.toNat, x.2, false, none⟩ ∧ (t.eng e).core.rc = n)
    ∧ ((s.eng e).core.trapAt = none →
      (s.flag (R.ENG_CTL_BRKEN e) = false → Completes (.isaBrk e ⟨0, 0, 0, 0, 0, 0, 0⟩) s fun t => (t.eng e).core.cause = 0x14)
      ∧ Completes (.isaIllegalOpcode e 0x15) s fun t => (t.eng e).core.cause = 1)
    ∧ (∀ a b d : BitVec 16, 0x2000 ≤ b.toNat → b.toNat < 0xFF00 → let w : Enc := ⟨2, 2, 2, 0, d, a, b⟩
      (∀ c ∈ [(Instr.isaQdiv e w, 20), (.isaQdivs e w, 20), (.isaQdivl e w, 36), (.isaQatan e w, 24), (.isaQhyp e w, 24)],
        Completes c.1 s fun t => Advances s t e 9
          ∧ (t.eng e).core.quince = some ((s.eng e).core.slot, (s.eng e).core.slot + c.2))
      ∧ (Completes (.isaQsqrt e ⟨2, 2, 0, 0, d, a, 0⟩) s fun t => Advances s t e 7
          ∧ (t.eng e).core.quince = some ((s.eng e).core.slot, (s.eng e).core.slot + 20))
      ∧ ∀ c ∈ [Instr.isaSpeak e w, .isaShist e w, .isaShistz e w], Completes c s fun t => Advances s t e 9
          ∧ (t.eng e).core.sloe.isSome = true))
  ∧ (∀ s : State, s.sup.vioGood = true → s.twiPowered = true → Completes .twiBusJoin s fun t =>
    t.get R.TWOWIRE_STAT_JOINED = 1)
  ∧ (∀ s : State, s.twiTarget = true →
    (∀ (a : BitVec 7) (page off : Byte), a.toNat = s.twiAddress → Completes (.twiTargetWrite a [page, off]) s fun t =>
      t.get R.TWOWIRE_PTR = 256 * page.toNat + off.toNat)
    ∧ (∀ (page off : Byte), s.get R.TWOWIRE_CFG_GCEN = 1 → page ≠ 4 → page ≠ 6 →
      Completes (.twiGeneralCall [page, off]) s fun t => t.get R.TWOWIRE_PTR = 256 * page.toNat + off.toNat)
    ∧ (∀ a : BitVec 7, a.toNat = s.twiAddress → s.get R.TWOWIRE_PTR % 4 = 0 →
      Completes (.twiTargetRead a 1) s fun t => t.twi.out = [byteOf ((s.addressed true).twiFetch (s.get R.TWOWIRE_PTR))])
    ∧ Completes (.busabort (.write [0, 0])) s (fun t => Counted s t R.TWOWIRE_ERR_BUSABORT)
    ∧ Completes (.stretchTimeout (.write [0, 0])) s fun t => Counted s t R.TWOWIRE_ERR_STRETCHTMO)
  ∧ (∀ s : State, s.inRun = true → s.flt.safe = false → s.inCascade = true →
    (∀ (side : Fin 2) (frame : BitVec 16), s.cuffLink side = true → frame.toNat = s.scan.frame % 65536 →
      Completes (.cuffArrival side false frame [] []) s fun t => (if side = 0 then t.link.filtLo else t.link.filtHi) = true)
    ∧ (∀ side : Fin 2, s.cuffLink side = true → s.scan.phase = .ended → s.disp.ready ≠ [] →
      (if side = 0 then s.link.sigLo else s.link.sigHi) = false → s.cuffWaited side = false →
      Completes (.cuffLate side) s fun t => Counted s t R.LINK_ERRC_LATE)
    ∧ ∀ fi : FrameInfo, s.panel.pos = 0 → s.disp.cur = some fi → s.link.listsDone = false →
      (∀ (p : Fin 8) (frame : BitVec 16), fi.frame % 65536 = frame.toNat → s.disp.wave < 7 →
        (∀ q ∈ s.pipe.lists, q.1 ≠ p.val) →
        Completes (.subblobListArrival p frame [] ⟨0, false, false⟩) s fun t => t.pipe.lists = s.pipe.lists ++ [(p.val, [])])
      ∧ (∀ p : Nat, s.disp.ended = true → s.nextWave fi s.disp.wave = some 7 → aget 0 p s.lf.late < 7 →
        (s.others.filter fun p => s.reaches p && !(s.pipe.lists.any fun q => q.1 = p)) = [p] →
        Completes .listTimeout s fun t => t.link.listsDone = true))
end

