-- ==== Sys2Proof/Laws/State.lean ====
section
/-!
SUPPORT. One lemma for each field of the state under each of the plain updates: what the update leaves alone.
-/

namespace Sys2Proof.Machine

/-- A saturating count is one write of the counter. -/
theorem sat_eq (s : State) (f : Fld) :
    s.sat f = s.set f (if s.get f + 1 < 2 ^ f.width then s.get f + 1 else 2 ^ f.width - 1) := by
  unfold State.sat
  exact (apply_ite (s.set f) _ _ _).symm

/-- A message changes nothing but the collector's part. -/
theorem raise_eq (s : State) (m : Msg) : ∃ fl, s.raise m = { s with flt := fl } := by
  unfold State.raise
  by_cases h : s.suppressed m = true
  · exact ⟨s.flt, by rw [if_pos h]⟩
  · rw [if_neg h]
    exact (ite_eq_or_eq _ _ _).elim (fun e => ⟨s.flt, e⟩) (fun e => ⟨_, e⟩)

/-- An event of the table changes nothing but the collector's part. -/
theorem eventFault_eq (s : State) (k a d : Nat) : ∃ fl, s.eventFault k a d = { s with flt := fl } := raise_eq s _

/-- The onset of a condition changes nothing but the collector's part. -/
theorem onset_eq (s : State) (k i a d : Nat) : ∃ fl, s.onset k i a d = { s with flt := fl } := by
  unfold State.onset
  by_cases h : (k, i) ∈ s.flt.live
  · exact ⟨s.flt, by rw [if_pos h]⟩
  · rw [if_neg h]
    obtain ⟨fl, e⟩ := eventFault_eq { s with flt := { s.flt with live := (k, i) :: s.flt.live } } k a d
    exact ⟨fl, e⟩

@[simp] theorem set_sup (s : State) (f : Fld) (v : Nat) : (s.set f v).sup = s.sup := rfl
@[simp] theorem set_pow (s : State) (f : Fld) (v : Nat) : (s.set f v).pow = s.pow := rfl
@[simp] theorem set_force (s : State) (f : Fld) (v : Nat) : (s.set f v).force = s.force := rfl
@[simp] theorem set_nvs (s : State) (f : Fld) (v : Nat) : (s.set f v).nvs = s.nvs := rfl
@[simp] theorem set_flt (s : State) (f : Fld) (v : Nat) : (s.set f v).flt = s.flt := rfl
@[simp] theorem set_tst (s : State) (f : Fld) (v : Nat) : (s.set f v).tst = s.tst := rfl
@[simp] theorem set_queues (s : State) (f : Fld) (v : Nat) : (s.set f v).queues = s.queues := rfl
@[simp] theorem set_host (s : State) (f : Fld) (v : Nat) : (s.set f v).host = s.host := rfl
@[simp] theorem set_twi (s : State) (f : Fld) (v : Nat) : (s.set f v).twi = s.twi := rfl
@[simp] theorem set_panel (s : State) (f : Fld) (v : Nat) : (s.set f v).panel = s.panel := rfl
@[simp] theorem set_coefs (s : State) (f : Fld) (v : Nat) : (s.set f v).coefs = s.coefs := rfl
@[simp] theorem set_scan (s : State) (f : Fld) (v : Nat) : (s.set f v).scan = s.scan := rfl
@[simp] theorem set_base (s : State) (f : Fld) (v : Nat) : (s.set f v).base = s.base := rfl
@[simp] theorem set_cal (s : State) (f : Fld) (v : Nat) : (s.set f v).cal = s.cal := rfl
@[simp] theorem set_st (s : State) (f : Fld) (v : Nat) : (s.set f v).st = s.st := rfl
@[simp] theorem set_disp (s : State) (f : Fld) (v : Nat) : (s.set f v).disp = s.disp := rfl
@[simp] theorem set_pipe (s : State) (f : Fld) (v : Nat) : (s.set f v).pipe = s.pipe := rfl
@[simp] theorem set_link (s : State) (f : Fld) (v : Nat) : (s.set f v).link = s.link := rfl
@[simp] theorem set_lf (s : State) (f : Fld) (v : Nat) : (s.set f v).lf = s.lf := rfl
@[simp] theorem set_linkOut (s : State) (f : Fld) (v : Nat) : (s.set f v).linkOut = s.linkOut := rfl
@[simp] theorem set_aout (s : State) (f : Fld) (v : Nat) : (s.set f v).aout = s.aout := rfl
@[simp] theorem set_engines (s : State) (f : Fld) (v : Nat) : (s.set f v).engines = s.engines := rfl
@[simp] theorem set_iram (s : State) (f : Fld) (v : Nat) : (s.set f v).iram = s.iram := rfl
@[simp] theorem set_fmem (s : State) (f : Fld) (v : Nat) : (s.set f v).fmem = s.fmem := rfl
@[simp] theorem set_night (s : State) (f : Fld) (v : Nat) : (s.set f v).night = s.night := rfl
@[simp] theorem set_gov (s : State) (f : Fld) (v : Nat) : (s.set f v).gov = s.gov := rfl
@[simp] theorem set_free (s : State) (f : Fld) (v : Nat) : (s.set f v).free = s.free := rfl
@[simp] theorem set_pending (s : State) (f : Fld) (v : Nat) : (s.set f v).pending = s.pending := rfl

@[simp] theorem setFlag_sup (s : State) (f : Fld) (b : Bool) : (s.setFlag f b).sup = s.sup := rfl
@[simp] theorem setFlag_pow (s : State) (f : Fld) (b : Bool) : (s.setFlag f b).pow = s.pow := rfl
@[simp] theorem setFlag_force (s : State) (f : Fld) (b : Bool) : (s.setFlag f b).force = s.force := rfl
@[simp] theorem setFlag_nvs (s : State) (f : Fld) (b : Bool) : (s.setFlag f b).nvs = s.nvs := rfl
@[simp] theorem setFlag_flt (s : State) (f : Fld) (b : Bool) : (s.setFlag f b).flt = s.flt := rfl
@[simp] theorem setFlag_tst (s : State) (f : Fld) (b : Bool) : (s.setFlag f b).tst = s.tst := rfl
@[simp] theorem setFlag_queues (s : State) (f : Fld) (b : Bool) : (s.setFlag f b).queues = s.queues := rfl
@[simp] theorem setFlag_host (s : State) (f : Fld) (b : Bool) : (s.setFlag f b).host = s.host := rfl
@[simp] theorem setFlag_twi (s : State) (f : Fld) (b : Bool) : (s.setFlag f b).twi = s.twi := rfl
@[simp] theorem setFlag_panel (s : State) (f : Fld) (b : Bool) : (s.setFlag f b).panel = s.panel := rfl
@[simp] theorem setFlag_coefs (s : State) (f : Fld) (b : Bool) : (s.setFlag f b).coefs = s.coefs := rfl
@[simp] theorem setFlag_scan (s : State) (f : Fld) (b : Bool) : (s.setFlag f b).scan = s.scan := rfl
@[simp] theorem setFlag_base (s : State) (f : Fld) (b : Bool) : (s.setFlag f b).base = s.base := rfl
@[simp] theorem setFlag_cal (s : State) (f : Fld) (b : Bool) : (s.setFlag f b).cal = s.cal := rfl
@[simp] theorem setFlag_st (s : State) (f : Fld) (b : Bool) : (s.setFlag f b).st = s.st := rfl
@[simp] theorem setFlag_disp (s : State) (f : Fld) (b : Bool) : (s.setFlag f b).disp = s.disp := rfl
@[simp] theorem setFlag_pipe (s : State) (f : Fld) (b : Bool) : (s.setFlag f b).pipe = s.pipe := rfl
@[simp] theorem setFlag_link (s : State) (f : Fld) (b : Bool) : (s.setFlag f b).link = s.link := rfl
@[simp] theorem setFlag_lf (s : State) (f : Fld) (b : Bool) : (s.setFlag f b).lf = s.lf := rfl
@[simp] theorem setFlag_linkOut (s : State) (f : Fld) (b : Bool) : (s.setFlag f b).linkOut = s.linkOut := rfl
@[simp] theorem setFlag_aout (s : State) (f : Fld) (b : Bool) : (s.setFlag f b).aout = s.aout := rfl
@[simp] theorem setFlag_engines (s : State) (f : Fld) (b : Bool) : (s.setFlag f b).engines = s.engines := rfl
@[simp] theorem setFlag_iram (s : State) (f : Fld) (b : Bool) : (s.setFlag f b).iram = s.iram := rfl
@[simp] theorem setFlag_fmem (s : State) (f : Fld) (b : Bool) : (s.setFlag f b).fmem = s.fmem := rfl
@[simp] theorem setFlag_night (s : State) (f : Fld) (b : Bool) : (s.setFlag f b).night = s.night := rfl
@[simp] theorem setFlag_gov (s : State) (f : Fld) (b : Bool) : (s.setFlag f b).gov = s.gov := rfl
@[simp] theorem setFlag_free (s : State) (f : Fld) (b : Bool) : (s.setFlag f b).free = s.free := rfl
@[simp] theorem setFlag_pending (s : State) (f : Fld) (b : Bool) : (s.setFlag f b).pending = s.pending := rfl

@[simp] theorem sat_sup (s : State) (f : Fld) : (s.sat f).sup = s.sup := by rw [sat_eq]; rfl
@[simp] theorem sat_pow (s : State) (f : Fld) : (s.sat f).pow = s.pow := by rw [sat_eq]; rfl
@[simp] theorem sat_force (s : State) (f : Fld) : (s.sat f).force = s.force := by rw [sat_eq]; rfl
@[simp] theorem sat_nvs (s : State) (f : Fld) : (s.sat f).nvs = s.nvs := by rw [sat_eq]; rfl
@[simp] theorem sat_flt (s : State) (f : Fld) : (s.sat f).flt = s.flt := by rw [sat_eq]; rfl
@[simp] theorem sat_tst (s : State) (f : Fld) : (s.sat f).tst = s.tst := by rw [sat_eq]; rfl
@[simp] theorem sat_queues (s : State) (f : Fld) : (s.sat f).queues = s.queues := by rw [sat_eq]; rfl
@[simp] theorem sat_host (s : State) (f : Fld) : (s.sat f).host = s.host := by rw [sat_eq]; rfl
@[simp] theorem sat_twi (s : State) (f : Fld) : (s.sat f).twi = s.twi := by rw [sat_eq]; rfl
@[simp] theorem sat_panel (s : State) (f : Fld) : (s.sat f).panel = s.panel := by rw [sat_eq]; rfl
@[simp] theorem sat_coefs (s : State) (f : Fld) : (s.sat f).coefs = s.coefs := by rw [sat_eq]; rfl
@[simp] theorem sat_scan (s : State) (f : Fld) : (s.sat f).scan = s.scan := by rw [sat_eq]; rfl
@[simp] theorem sat_base (s : State) (f : Fld) : (s.sat f).base = s.base := by rw [sat_eq]; rfl
@[simp] theorem sat_cal (s : State) (f : Fld) : (s.sat f).cal = s.cal := by rw [sat_eq]; rfl
@[simp] theorem sat_st (s : State) (f : Fld) : (s.sat f).st = s.st := by rw [sat_eq]; rfl
@[simp] theorem sat_disp (s : State) (f : Fld) : (s.sat f).disp = s.disp := by rw [sat_eq]; rfl
@[simp] theorem sat_pipe (s : State) (f : Fld) : (s.sat f).pipe = s.pipe := by rw [sat_eq]; rfl
@[simp] theorem sat_link (s : State) (f : Fld) : (s.sat f).link = s.link := by rw [sat_eq]; rfl
@[simp] theorem sat_lf (s : State) (f : Fld) : (s.sat f).lf = s.lf := by rw [sat_eq]; rfl
@[simp] theorem sat_linkOut (s : State) (f : Fld) : (s.sat f).linkOut = s.linkOut := by rw [sat_eq]; rfl
@[simp] theorem sat_aout (s : State) (f : Fld) : (s.sat f).aout = s.aout := by rw [sat_eq]; rfl
@[simp] theorem sat_engines (s : State) (f : Fld) : (s.sat f).engines = s.engines := by rw [sat_eq]; rfl
@[simp] theorem sat_iram (s : State) (f : Fld) : (s.sat f).iram = s.iram := by rw [sat_eq]; rfl
@[simp] theorem sat_fmem (s : State) (f : Fld) : (s.sat f).fmem = s.fmem := by rw [sat_eq]; rfl
@[simp] theorem sat_night (s : State) (f : Fld) : (s.sat f).night = s.night := by rw [sat_eq]; rfl
@[simp] theorem sat_gov (s : State) (f : Fld) : (s.sat f).gov = s.gov := by rw [sat_eq]; rfl
@[simp] theorem sat_free (s : State) (f : Fld) : (s.sat f).free = s.free := by rw [sat_eq]; rfl
@[simp] theorem sat_pending (s : State) (f : Fld) : (s.sat f).pending = s.pending := by rw [sat_eq]; rfl

@[simp] theorem wrap_sup (s : State) (f : Fld) : (s.wrap f).sup = s.sup := rfl
@[simp] theorem wrap_pow (s : State) (f : Fld) : (s.wrap f).pow = s.pow := rfl
@[simp] theorem wrap_force (s : State) (f : Fld) : (s.wrap f).force = s.force := rfl
@[simp] theorem wrap_nvs (s : State) (f : Fld) : (s.wrap f).nvs = s.nvs := rfl
@[simp] theorem wrap_flt (s : State) (f : Fld) : (s.wrap f).flt = s.flt := rfl
@[simp] theorem wrap_tst (s : State) (f : Fld) : (s.wrap f).tst = s.tst := rfl
@[simp] theorem wrap_queues (s : State) (f : Fld) : (s.wrap f).queues = s.queues := rfl
@[simp] theorem wrap_host (s : State) (f : Fld) : (s.wrap f).host = s.host := rfl
@[simp] theorem wrap_twi (s : State) (f : Fld) : (s.wrap f).twi = s.twi := rfl
@[simp] theorem wrap_panel (s : State) (f : Fld) : (s.wrap f).panel = s.panel := rfl
@[simp] theorem wrap_coefs (s : State) (f : Fld) : (s.wrap f).coefs = s.coefs := rfl
@[simp] theorem wrap_scan (s : State) (f : Fld) : (s.wrap f).scan = s.scan := rfl
@[simp] theorem wrap_base (s : State) (f : Fld) : (s.wrap f).base = s.base := rfl
@[simp] theorem wrap_cal (s : State) (f : Fld) : (s.wrap f).cal = s.cal := rfl
@[simp] theorem wrap_st (s : State) (f : Fld) : (s.wrap f).st = s.st := rfl
@[simp] theorem wrap_disp (s : State) (f : Fld) : (s.wrap f).disp = s.disp := rfl
@[simp] theorem wrap_pipe (s : State) (f : Fld) : (s.wrap f).pipe = s.pipe := rfl
@[simp] theorem wrap_link (s : State) (f : Fld) : (s.wrap f).link = s.link := rfl
@[simp] theorem wrap_lf (s : State) (f : Fld) : (s.wrap f).lf = s.lf := rfl
@[simp] theorem wrap_linkOut (s : State) (f : Fld) : (s.wrap f).linkOut = s.linkOut := rfl
@[simp] theorem wrap_aout (s : State) (f : Fld) : (s.wrap f).aout = s.aout := rfl
@[simp] theorem wrap_engines (s : State) (f : Fld) : (s.wrap f).engines = s.engines := rfl
@[simp] theorem wrap_iram (s : State) (f : Fld) : (s.wrap f).iram = s.iram := rfl
@[simp] theorem wrap_fmem (s : State) (f : Fld) : (s.wrap f).fmem = s.fmem := rfl
@[simp] theorem wrap_night (s : State) (f : Fld) : (s.wrap f).night = s.night := rfl
@[simp] theorem wrap_gov (s : State) (f : Fld) : (s.wrap f).gov = s.gov := rfl
@[simp] theorem wrap_free (s : State) (f : Fld) : (s.wrap f).free = s.free := rfl
@[simp] theorem wrap_pending (s : State) (f : Fld) : (s.wrap f).pending = s.pending := rfl

@[simp] theorem setEng_sup (s : State) (e : Nat) (g : Engine → Engine) : (s.setEng e g).sup = s.sup := rfl
@[simp] theorem setEng_pow (s : State) (e : Nat) (g : Engine → Engine) : (s.setEng e g).pow = s.pow := rfl
@[simp] theorem setEng_regs (s : State) (e : Nat) (g : Engine → Engine) : (s.setEng e g).regs = s.regs := rfl
@[simp] theorem setEng_force (s : State) (e : Nat) (g : Engine → Engine) : (s.setEng e g).force = s.force := rfl
@[simp] theorem setEng_nvs (s : State) (e : Nat) (g : Engine → Engine) : (s.setEng e g).nvs = s.nvs := rfl
@[simp] theorem setEng_flt (s : State) (e : Nat) (g : Engine → Engine) : (s.setEng e g).flt = s.flt := rfl
@[simp] theorem setEng_tst (s : State) (e : Nat) (g : Engine → Engine) : (s.setEng e g).tst = s.tst := rfl
@[simp] theorem setEng_queues (s : State) (e : Nat) (g : Engine → Engine) : (s.setEng e g).queues = s.queues := rfl
@[simp] theorem setEng_host (s : State) (e : Nat) (g : Engine → Engine) : (s.setEng e g).host = s.host := rfl
@[simp] theorem setEng_twi (s : State) (e : Nat) (g : Engine → Engine) : (s.setEng e g).twi = s.twi := rfl
@[simp] theorem setEng_panel (s : State) (e : Nat) (g : Engine → Engine) : (s.setEng e g).panel = s.panel := rfl
@[simp] theorem setEng_coefs (s : State) (e : Nat) (g : Engine → Engine) : (s.setEng e g).coefs = s.coefs := rfl
@[simp] theorem setEng_scan (s : State) (e : Nat) (g : Engine → Engine) : (s.setEng e g).scan = s.scan := rfl
@[simp] theorem setEng_base (s : State) (e : Nat) (g : Engine → Engine) : (s.setEng e g).base = s.base := rfl
@[simp] theorem setEng_cal (s : State) (e : Nat) (g : Engine → Engine) : (s.setEng e g).cal = s.cal := rfl
@[simp] theorem setEng_st (s : State) (e : Nat) (g : Engine → Engine) : (s.setEng e g).st = s.st := rfl
@[simp] theorem setEng_disp (s : State) (e : Nat) (g : Engine → Engine) : (s.setEng e g).disp = s.disp := rfl
@[simp] theorem setEng_pipe (s : State) (e : Nat) (g : Engine → Engine) : (s.setEng e g).pipe = s.pipe := rfl
@[simp] theorem setEng_link (s : State) (e : Nat) (g : Engine → Engine) : (s.setEng e g).link = s.link := rfl
@[simp] theorem setEng_lf (s : State) (e : Nat) (g : Engine → Engine) : (s.setEng e g).lf = s.lf := rfl
@[simp] theorem setEng_linkOut (s : State) (e : Nat) (g : Engine → Engine) : (s.setEng e g).linkOut = s.linkOut := rfl
@[simp] theorem setEng_aout (s : State) (e : Nat) (g : Engine → Engine) : (s.setEng e g).aout = s.aout := rfl
@[simp] theorem setEng_iram (s : State) (e : Nat) (g : Engine → Engine) : (s.setEng e g).iram = s.iram := rfl
@[simp] theorem setEng_fmem (s : State) (e : Nat) (g : Engine → Engine) : (s.setEng e g).fmem = s.fmem := rfl
@[simp] theorem setEng_night (s : State) (e : Nat) (g : Engine → Engine) : (s.setEng e g).night = s.night := rfl
@[simp] theorem setEng_gov (s : State) (e : Nat) (g : Engine → Engine) : (s.setEng e g).gov = s.gov := rfl
@[simp] theorem setEng_free (s : State) (e : Nat) (g : Engine → Engine) : (s.setEng e g).free = s.free := rfl
@[simp] theorem setEng_pending (s : State) (e : Nat) (g : Engine → Engine) : (s.setEng e g).pending = s.pending := rfl

@[simp] theorem setCore_sup (s : State) (e : Nat) (g : Core → Core) : (s.setCore e g).sup = s.sup := rfl
@[simp] theorem setCore_pow (s : State) (e : Nat) (g : Core → Core) : (s.setCore e g).pow = s.pow := rfl
@[simp] theorem setCore_regs (s : State) (e : Nat) (g : Core → Core) : (s.setCore e g).regs = s.regs := rfl
@[simp] theorem setCore_force (s : State) (e : Nat) (g : Core → Core) : (s.setCore e g).force = s.force := rfl
@[simp] theorem setCore_nvs (s : State) (e : Nat) (g : Core → Core) : (s.setCore e g).nvs = s.nvs := rfl
@[simp] theorem setCore_flt (s : State) (e : Nat) (g : Core → Core) : (s.setCore e g).flt = s.flt := rfl
@[simp] theorem setCore_tst (s : State) (e : Nat) (g : Core → Core) : (s.setCore e g).tst = s.tst := rfl
@[simp] theorem setCore_queues (s : State) (e : Nat) (g : Core → Core) : (s.setCore e g).queues = s.queues := rfl
@[simp] theorem setCore_host (s : State) (e : Nat) (g : Core → Core) : (s.setCore e g).host = s.host := rfl
@[simp] theorem setCore_twi (s : State) (e : Nat) (g : Core → Core) : (s.setCore e g).twi = s.twi := rfl
@[simp] theorem setCore_panel (s : State) (e : Nat) (g : Core → Core) : (s.setCore e g).panel = s.panel := rfl
@[simp] theorem setCore_coefs (s : State) (e : Nat) (g : Core → Core) : (s.setCore e g).coefs = s.coefs := rfl
@[simp] theorem setCore_scan (s : State) (e : Nat) (g : Core → Core) : (s.setCore e g).scan = s.scan := rfl
@[simp] theorem setCore_base (s : State) (e : Nat) (g : Core → Core) : (s.setCore e g).base = s.base := rfl
@[simp] theorem setCore_cal (s : State) (e : Nat) (g : Core → Core) : (s.setCore e g).cal = s.cal := rfl
@[simp] theorem setCore_st (s : State) (e : Nat) (g : Core → Core) : (s.setCore e g).st = s.st := rfl
@[simp] theorem setCore_disp (s : State) (e : Nat) (g : Core → Core) : (s.setCore e g).disp = s.disp := rfl
@[simp] theorem setCore_pipe (s : State) (e : Nat) (g : Core → Core) : (s.setCore e g).pipe = s.pipe := rfl
@[simp] theorem setCore_link (s : State) (e : Nat) (g : Core → Core) : (s.setCore e g).link = s.link := rfl
@[simp] theorem setCore_lf (s : State) (e : Nat) (g : Core → Core) : (s.setCore e g).lf = s.lf := rfl
@[simp] theorem setCore_linkOut (s : State) (e : Nat) (g : Core → Core) : (s.setCore e g).linkOut = s.linkOut := rfl
@[simp] theorem setCore_aout (s : State) (e : Nat) (g : Core → Core) : (s.setCore e g).aout = s.aout := rfl
@[simp] theorem setCore_iram (s : State) (e : Nat) (g : Core → Core) : (s.setCore e g).iram = s.iram := rfl
@[simp] theorem setCore_fmem (s : State) (e : Nat) (g : Core → Core) : (s.setCore e g).fmem = s.fmem := rfl
@[simp] theorem setCore_night (s : State) (e : Nat) (g : Core → Core) : (s.setCore e g).night = s.night := rfl
@[simp] theorem setCore_gov (s : State) (e : Nat) (g : Core → Core) : (s.setCore e g).gov = s.gov := rfl
@[simp] theorem setCore_free (s : State) (e : Nat) (g : Core → Core) : (s.setCore e g).free = s.free := rfl
@[simp] theorem setCore_pending (s : State) (e : Nat) (g : Core → Core) : (s.setCore e g).pending = s.pending := rfl

@[simp] theorem setQueue_sup (s : State) (n : Nat) (q : Queue) : (s.setQueue n q).sup = s.sup := rfl
@[simp] theorem setQueue_pow (s : State) (n : Nat) (q : Queue) : (s.setQueue n q).pow = s.pow := rfl
@[simp] theorem setQueue_regs (s : State) (n : Nat) (q : Queue) : (s.setQueue n q).regs = s.regs := rfl
@[simp] theorem setQueue_force (s : State) (n : Nat) (q : Queue) : (s.setQueue n q).force = s.force := rfl
@[simp] theorem setQueue_nvs (s : State) (n : Nat) (q : Queue) : (s.setQueue n q).nvs = s.nvs := rfl
@[simp] theorem setQueue_flt (s : State) (n : Nat) (q : Queue) : (s.setQueue n q).flt = s.flt := rfl
@[simp] theorem setQueue_tst (s : State) (n : Nat) (q : Queue) : (s.setQueue n q).tst = s.tst := rfl
@[simp] theorem setQueue_host (s : State) (n : Nat) (q : Queue) : (s.setQueue n q).host = s.host := rfl
@[simp] theorem setQueue_twi (s : State) (n : Nat) (q : Queue) : (s.setQueue n q).twi = s.twi := rfl
@[simp] theorem setQueue_panel (s : State) (n : Nat) (q : Queue) : (s.setQueue n q).panel = s.panel := rfl
@[simp] theorem setQueue_coefs (s : State) (n : Nat) (q : Queue) : (s.setQueue n q).coefs = s.coefs := rfl
@[simp] theorem setQueue_scan (s : State) (n : Nat) (q : Queue) : (s.setQueue n q).scan = s.scan := rfl
@[simp] theorem setQueue_base (s : State) (n : Nat) (q : Queue) : (s.setQueue n q).base = s.base := rfl
@[simp] theorem setQueue_cal (s : State) (n : Nat) (q : Queue) : (s.setQueue n q).cal = s.cal := rfl
@[simp] theorem setQueue_st (s : State) (n : Nat) (q : Queue) : (s.setQueue n q).st = s.st := rfl
@[simp] theorem setQueue_disp (s : State) (n : Nat) (q : Queue) : (s.setQueue n q).disp = s.disp := rfl
@[simp] theorem setQueue_pipe (s : State) (n : Nat) (q : Queue) : (s.setQueue n q).pipe = s.pipe := rfl
@[simp] theorem setQueue_link (s : State) (n : Nat) (q : Queue) : (s.setQueue n q).link = s.link := rfl
@[simp] theorem setQueue_lf (s : State) (n : Nat) (q : Queue) : (s.setQueue n q).lf = s.lf := rfl
@[simp] theorem setQueue_linkOut (s : State) (n : Nat) (q : Queue) : (s.setQueue n q).linkOut = s.linkOut := rfl
@[simp] theorem setQueue_aout (s : State) (n : Nat) (q : Queue) : (s.setQueue n q).aout = s.aout := rfl
@[simp] theorem setQueue_engines (s : State) (n : Nat) (q : Queue) : (s.setQueue n q).engines = s.engines := rfl
@[simp] theorem setQueue_iram (s : State) (n : Nat) (q : Queue) : (s.setQueue n q).iram = s.iram := rfl
@[simp] theorem setQueue_fmem (s : State) (n : Nat) (q : Queue) : (s.setQueue n q).fmem = s.fmem := rfl
@[simp] theorem setQueue_night (s : State) (n : Nat) (q : Queue) : (s.setQueue n q).night = s.night := rfl
@[simp] theorem setQueue_gov (s : State) (n : Nat) (q : Queue) : (s.setQueue n q).gov = s.gov := rfl
@[simp] theorem setQueue_free (s : State) (n : Nat) (q : Queue) : (s.setQueue n q).free = s.free := rfl
@[simp] theorem setQueue_pending (s : State) (n : Nat) (q : Queue) : (s.setQueue n q).pending = s.pending := rfl

@[simp] theorem send_sup (s : State) (m : LinkMsg) : (s.send m).sup = s.sup := (rfl)
@[simp] theorem send_pow (s : State) (m : LinkMsg) : (s.send m).pow = s.pow := (rfl)
@[simp] theorem send_regs (s : State) (m : LinkMsg) : (s.send m).regs = s.regs := (rfl)
@[simp] theorem send_force (s : State) (m : LinkMsg) : (s.send m).force = s.force := (rfl)
@[simp] theorem send_nvs (s : State) (m : LinkMsg) : (s.send m).nvs = s.nvs := (rfl)
@[simp] theorem send_flt (s : State) (m : LinkMsg) : (s.send m).flt = s.flt := (rfl)
@[simp] theorem send_tst (s : State) (m : LinkMsg) : (s.send m).tst = s.tst := (rfl)
@[simp] theorem send_queues (s : State) (m : LinkMsg) : (s.send m).queues = s.queues := (rfl)
@[simp] theorem send_host (s : State) (m : LinkMsg) : (s.send m).host = s.host := (rfl)
@[simp] theorem send_twi (s : State) (m : LinkMsg) : (s.send m).twi = s.twi := (rfl)
@[simp] theorem send_panel (s : State) (m : LinkMsg) : (s.send m).panel = s.panel := (rfl)
@[simp] theorem send_coefs (s : State) (m : LinkMsg) : (s.send m).coefs = s.coefs := (rfl)
@[simp] theorem send_scan (s : State) (m : LinkMsg) : (s.send m).scan = s.scan := (rfl)
@[simp] theorem send_base (s : State) (m : LinkMsg) : (s.send m).base = s.base := (rfl)
@[simp] theorem send_cal (s : State) (m : LinkMsg) : (s.send m).cal = s.cal := (rfl)
@[simp] theorem send_st (s : State) (m : LinkMsg) : (s.send m).st = s.st := (rfl)
@[simp] theorem send_disp (s : State) (m : LinkMsg) : (s.send m).disp = s.disp := (rfl)
@[simp] theorem send_pipe (s : State) (m : LinkMsg) : (s.send m).pipe = s.pipe := (rfl)
@[simp] theorem send_link (s : State) (m : LinkMsg) : (s.send m).link = s.link := (rfl)
@[simp] theorem send_lf (s : State) (m : LinkMsg) : (s.send m).lf = s.lf := (rfl)
@[simp] theorem send_aout (s : State) (m : LinkMsg) : (s.send m).aout = s.aout := (rfl)
@[simp] theorem send_engines (s : State) (m : LinkMsg) : (s.send m).engines = s.engines := (rfl)
@[simp] theorem send_iram (s : State) (m : LinkMsg) : (s.send m).iram = s.iram := (rfl)
@[simp] theorem send_fmem (s : State) (m : LinkMsg) : (s.send m).fmem = s.fmem := (rfl)
@[simp] theorem send_night (s : State) (m : LinkMsg) : (s.send m).night = s.night := (rfl)
@[simp] theorem send_gov (s : State) (m : LinkMsg) : (s.send m).gov = s.gov := (rfl)
@[simp] theorem send_free (s : State) (m : LinkMsg) : (s.send m).free = s.free := (rfl)
@[simp] theorem send_pending (s : State) (m : LinkMsg) : (s.send m).pending = s.pending := (rfl)

@[simp] theorem raise_sup (s : State) (m : Msg) : (s.raise m).sup = s.sup := by
  obtain ⟨_, h⟩ := raise_eq s m; rw [h]
@[simp] theorem raise_pow (s : State) (m : Msg) : (s.raise m).pow = s.pow := by
  obtain ⟨_, h⟩ := raise_eq s m; rw [h]
@[simp] theorem raise_regs (s : State) (m : Msg) : (s.raise m).regs = s.regs := by
  obtain ⟨_, h⟩ := raise_eq s m; rw [h]
@[simp] theorem raise_force (s : State) (m : Msg) : (s.raise m).force = s.force := by
  obtain ⟨_, h⟩ := raise_eq s m; rw [h]
@[simp] theorem raise_nvs (s : State) (m : Msg) : (s.raise m).nvs = s.nvs := by
  obtain ⟨_, h⟩ := raise_eq s m; rw [h]
@[simp] theorem raise_tst (s : State) (m : Msg) : (s.raise m).tst = s.tst := by
  obtain ⟨_, h⟩ := raise_eq s m; rw [h]
@[simp] theorem raise_queues (s : State) (m : Msg) : (s.raise m).queues = s.queues := by
  obtain ⟨_, h⟩ := raise_eq s m; rw [h]
@[simp] theorem raise_host (s : State) (m : Msg) : (s.raise m).host = s.host := by
  obtain ⟨_, h⟩ := raise_eq s m; rw [h]
@[simp] theorem raise_twi (s : State) (m : Msg) : (s.raise m).twi = s.twi := by
  obtain ⟨_, h⟩ := raise_eq s m; rw [h]
@[simp] theorem raise_panel (s : State) (m : Msg) : (s.raise m).panel = s.panel := by
  obtain ⟨_, h⟩ := raise_eq s m; rw [h]
@[simp] theorem raise_coefs (s : State) (m : Msg) : (s.raise m).coefs = s.coefs := by
  obtain ⟨_, h⟩ := raise_eq s m; rw [h]
@[simp] theorem raise_scan (s : State) (m : Msg) : (s.raise m).scan = s.scan := by
  obtain ⟨_, h⟩ := raise_eq s m; rw [h]
@[simp] theorem raise_base (s : State) (m : Msg) : (s.raise m).base = s.base := by
  obtain ⟨_, h⟩ := raise_eq s m; rw [h]
@[simp] theorem raise_cal (s : State) (m : Msg) : (s.raise m).cal = s.cal := by
  obtain ⟨_, h⟩ := raise_eq s m; rw [h]
@[simp] theorem raise_st (s : State) (m : Msg) : (s.raise m).st = s.st := by
  obtain ⟨_, h⟩ := raise_eq s m; rw [h]
@[simp] theorem raise_disp (s : State) (m : Msg) : (s.raise m).disp = s.disp := by
  obtain ⟨_, h⟩ := raise_eq s m; rw [h]
@[simp] theorem raise_pipe (s : State) (m : Msg) : (s.raise m).pipe = s.pipe := by
  obtain ⟨_, h⟩ := raise_eq s m; rw [h]
@[simp] theorem raise_link (s : State) (m : Msg) : (s.raise m).link = s.link := by
  obtain ⟨_, h⟩ := raise_eq s m; rw [h]
@[simp] theorem raise_lf (s : State) (m : Msg) : (s.raise m).lf = s.lf := by
  obtain ⟨_, h⟩ := raise_eq s m; rw [h]
@[simp] theorem raise_linkOut (s : State) (m : Msg) : (s.raise m).linkOut = s.linkOut := by
  obtain ⟨_, h⟩ := raise_eq s m; rw [h]
@[simp] theorem raise_aout (s : State) (m : Msg) : (s.raise m).aout = s.aout := by
  obtain ⟨_, h⟩ := raise_eq s m; rw [h]
@[simp] theorem raise_engines (s : State) (m : Msg) : (s.raise m).engines = s.engines := by
  obtain ⟨_, h⟩ := raise_eq s m; rw [h]
@[simp] theorem raise_iram (s : State) (m : Msg) : (s.raise m).iram = s.iram := by
  obtain ⟨_, h⟩ := raise_eq s m; rw [h]
@[simp] theorem raise_fmem (s : State) (m : Msg) : (s.raise m).fmem = s.fmem := by
  obtain ⟨_, h⟩ := raise_eq s m; rw [h]
@[simp] theorem raise_night (s : State) (m : Msg) : (s.raise m).night = s.night := by
  obtain ⟨_, h⟩ := raise_eq s m; rw [h]
@[simp] theorem raise_gov (s : State) (m : Msg) : (s.raise m).gov = s.gov := by
  obtain ⟨_, h⟩ := raise_eq s m; rw [h]
@[simp] theorem raise_free (s : State) (m : Msg) : (s.raise m).free = s.free := by
  obtain ⟨_, h⟩ := raise_eq s m; rw [h]
@[simp] theorem raise_pending (s : State) (m : Msg) : (s.raise m).pending = s.pending := by
  obtain ⟨_, h⟩ := raise_eq s m; rw [h]

@[simp] theorem eventFault_sup (s : State) (k a d : Nat) : (s.eventFault k a d).sup = s.sup := by
  obtain ⟨_, h⟩ := eventFault_eq s k a d; rw [h]
@[simp] theorem eventFault_pow (s : State) (k a d : Nat) : (s.eventFault k a d).pow = s.pow := by
  obtain ⟨_, h⟩ := eventFault_eq s k a d; rw [h]
@[simp] theorem eventFault_regs (s : State) (k a d : Nat) : (s.eventFault k a d).regs = s.regs := by
  obtain ⟨_, h⟩ := eventFault_eq s k a d; rw [h]
@[simp] theorem eventFault_force (s : State) (k a d : Nat) : (s.eventFault k a d).force = s.force := by
  obtain ⟨_, h⟩ := eventFault_eq s k a d; rw [h]
@[simp] theorem eventFault_nvs (s : State) (k a d : Nat) : (s.eventFault k a d).nvs = s.nvs := by
  obtain ⟨_, h⟩ := eventFault_eq s k a d; rw [h]
@[simp] theorem eventFault_tst (s : State) (k a d : Nat) : (s.eventFault k a d).tst = s.tst := by
  obtain ⟨_, h⟩ := eventFault_eq s k a d; rw [h]
@[simp] theorem eventFault_queues (s : State) (k a d : Nat) : (s.eventFault k a d).queues = s.queues := by
  obtain ⟨_, h⟩ := eventFault_eq s k a d; rw [h]
@[simp] theorem eventFault_host (s : State) (k a d : Nat) : (s.eventFault k a d).host = s.host := by
  obtain ⟨_, h⟩ := eventFault_eq s k a d; rw [h]
@[simp] theorem eventFault_twi (s : State) (k a d : Nat) : (s.eventFault k a d).twi = s.twi := by
  obtain ⟨_, h⟩ := eventFault_eq s k a d; rw [h]
@[simp] theorem eventFault_panel (s : State) (k a d : Nat) : (s.eventFault k a d).panel = s.panel := by
  obtain ⟨_, h⟩ := eventFault_eq s k a d; rw [h]
@[simp] theorem eventFault_coefs (s : State) (k a d : Nat) : (s.eventFault k a d).coefs = s.coefs := by
  obtain ⟨_, h⟩ := eventFault_eq s k a d; rw [h]
@[simp] theorem eventFault_scan (s : State) (k a d : Nat) : (s.eventFault k a d).scan = s.scan := by
  obtain ⟨_, h⟩ := eventFault_eq s k a d; rw [h]
@[simp] theorem eventFault_base (s : State) (k a d : Nat) : (s.eventFault k a d).base = s.base := by
  obtain ⟨_, h⟩ := eventFault_eq s k a d; rw [h]
@[simp] theorem eventFault_cal (s : State) (k a d : Nat) : (s.eventFault k a d).cal = s.cal := by
  obtain ⟨_, h⟩ := eventFault_eq s k a d; rw [h]
@[simp] theorem eventFault_st (s : State) (k a d : Nat) : (s.eventFault k a d).st = s.st := by
  obtain ⟨_, h⟩ := eventFault_eq s k a d; rw [h]
@[simp] theorem eventFault_disp (s : State) (k a d : Nat) : (s.eventFault k a d).disp = s.disp := by
  obtain ⟨_, h⟩ := eventFault_eq s k a d; rw [h]
@[simp] theorem eventFault_pipe (s : State) (k a d : Nat) : (s.eventFault k a d).pipe = s.pipe := by
  obtain ⟨_, h⟩ := eventFault_eq s k a d; rw [h]
@[simp] theorem eventFault_link (s : State) (k a d : Nat) : (s.eventFault k a d).link = s.link := by
  obtain ⟨_, h⟩ := eventFault_eq s k a d; rw [h]
@[simp] theorem eventFault_lf (s : State) (k a d : Nat) : (s.eventFault k a d).lf = s.lf := by
  obtain ⟨_, h⟩ := eventFault_eq s k a d; rw [h]
@[simp] theorem eventFault_linkOut (s : State) (k a d : Nat) : (s.eventFault k a d).linkOut = s.linkOut := by
  obtain ⟨_, h⟩ := eventFault_eq s k a d; rw [h]
@[simp] theorem eventFault_aout (s : State) (k a d : Nat) : (s.eventFault k a d).aout = s.aout := by
  obtain ⟨_, h⟩ := eventFault_eq s k a d; rw [h]
@[simp] theorem eventFault_engines (s : State) (k a d : Nat) : (s.eventFault k a d).engines = s.engines := by
  obtain ⟨_, h⟩ := eventFault_eq s k a d; rw [h]
@[simp] theorem eventFault_iram (s : State) (k a d : Nat) : (s.eventFault k a d).iram = s.iram := by
  obtain ⟨_, h⟩ := eventFault_eq s k a d; rw [h]
@[simp] theorem eventFault_fmem (s : State) (k a d : Nat) : (s.eventFault k a d).fmem = s.fmem := by
  obtain ⟨_, h⟩ := eventFault_eq s k a d; rw [h]
@[simp] theorem eventFault_night (s : State) (k a d : Nat) : (s.eventFault k a d).night = s.night := by
  obtain ⟨_, h⟩ := eventFault_eq s k a d; rw [h]
@[simp] theorem eventFault_gov (s : State) (k a d : Nat) : (s.eventFault k a d).gov = s.gov := by
  obtain ⟨_, h⟩ := eventFault_eq s k a d; rw [h]
@[simp] theorem eventFault_free (s : State) (k a d : Nat) : (s.eventFault k a d).free = s.free := by
  obtain ⟨_, h⟩ := eventFault_eq s k a d; rw [h]
@[simp] theorem eventFault_pending (s : State) (k a d : Nat) : (s.eventFault k a d).pending = s.pending := by
  obtain ⟨_, h⟩ := eventFault_eq s k a d; rw [h]

@[simp] theorem onset_sup (s : State) (k i a d : Nat) : (s.onset k i a d).sup = s.sup := by
  obtain ⟨_, h⟩ := onset_eq s k i a d; rw [h]
@[simp] theorem onset_pow (s : State) (k i a d : Nat) : (s.onset k i a d).pow = s.pow := by
  obtain ⟨_, h⟩ := onset_eq s k i a d; rw [h]
@[simp] theorem onset_regs (s : State) (k i a d : Nat) : (s.onset k i a d).regs = s.regs := by
  obtain ⟨_, h⟩ := onset_eq s k i a d; rw [h]
@[simp] theorem onset_force (s : State) (k i a d : Nat) : (s.onset k i a d).force = s.force := by
  obtain ⟨_, h⟩ := onset_eq s k i a d; rw [h]
@[simp] theorem onset_nvs (s : State) (k i a d : Nat) : (s.onset k i a d).nvs = s.nvs := by
  obtain ⟨_, h⟩ := onset_eq s k i a d; rw [h]
@[simp] theorem onset_tst (s : State) (k i a d : Nat) : (s.onset k i a d).tst = s.tst := by
  obtain ⟨_, h⟩ := onset_eq s k i a d; rw [h]
@[simp] theorem onset_queues (s : State) (k i a d : Nat) : (s.onset k i a d).queues = s.queues := by
  obtain ⟨_, h⟩ := onset_eq s k i a d; rw [h]
@[simp] theorem onset_host (s : State) (k i a d : Nat) : (s.onset k i a d).host = s.host := by
  obtain ⟨_, h⟩ := onset_eq s k i a d; rw [h]
@[simp] theorem onset_twi (s : State) (k i a d : Nat) : (s.onset k i a d).twi = s.twi := by
  obtain ⟨_, h⟩ := onset_eq s k i a d; rw [h]
@[simp] theorem onset_panel (s : State) (k i a d : Nat) : (s.onset k i a d).panel = s.panel := by
  obtain ⟨_, h⟩ := onset_eq s k i a d; rw [h]
@[simp] theorem onset_coefs (s : State) (k i a d : Nat) : (s.onset k i a d).coefs = s.coefs := by
  obtain ⟨_, h⟩ := onset_eq s k i a d; rw [h]
@[simp] theorem onset_scan (s : State) (k i a d : Nat) : (s.onset k i a d).scan = s.scan := by
  obtain ⟨_, h⟩ := onset_eq s k i a d; rw [h]
@[simp] theorem onset_base (s : State) (k i a d : Nat) : (s.onset k i a d).base = s.base := by
  obtain ⟨_, h⟩ := onset_eq s k i a d; rw [h]
@[simp] theorem onset_cal (s : State) (k i a d : Nat) : (s.onset k i a d).cal = s.cal := by
  obtain ⟨_, h⟩ := onset_eq s k i a d; rw [h]
@[simp] theorem onset_st (s : State) (k i a d : Nat) : (s.onset k i a d).st = s.st := by
  obtain ⟨_, h⟩ := onset_eq s k i a d; rw [h]
@[simp] theorem onset_disp (s : State) (k i a d : Nat) : (s.onset k i a d).disp = s.disp := by
  obtain ⟨_, h⟩ := onset_eq s k i a d; rw [h]
@[simp] theorem onset_pipe (s : State) (k i a d : Nat) : (s.onset k i a d).pipe = s.pipe := by
  obtain ⟨_, h⟩ := onset_eq s k i a d; rw [h]
@[simp] theorem onset_link (s : State) (k i a d : Nat) : (s.onset k i a d).link = s.link := by
  obtain ⟨_, h⟩ := onset_eq s k i a d; rw [h]
@[simp] theorem onset_lf (s : State) (k i a d : Nat) : (s.onset k i a d).lf = s.lf := by
  obtain ⟨_, h⟩ := onset_eq s k i a d; rw [h]
@[simp] theorem onset_linkOut (s : State) (k i a d : Nat) : (s.onset k i a d).linkOut = s.linkOut := by
  obtain ⟨_, h⟩ := onset_eq s k i a d; rw [h]
@[simp] theorem onset_aout (s : State) (k i a d : Nat) : (s.onset k i a d).aout = s.aout := by
  obtain ⟨_, h⟩ := onset_eq s k i a d; rw [h]
@[simp] theorem onset_engines (s : State) (k i a d : Nat) : (s.onset k i a d).engines = s.engines := by
  obtain ⟨_, h⟩ := onset_eq s k i a d; rw [h]
@[simp] theorem onset_iram (s : State) (k i a d : Nat) : (s.onset k i a d).iram = s.iram := by
  obtain ⟨_, h⟩ := onset_eq s k i a d; rw [h]
@[simp] theorem onset_fmem (s : State) (k i a d : Nat) : (s.onset k i a d).fmem = s.fmem := by
  obtain ⟨_, h⟩ := onset_eq s k i a d; rw [h]
@[simp] theorem onset_night (s : State) (k i a d : Nat) : (s.onset k i a d).night = s.night := by
  obtain ⟨_, h⟩ := onset_eq s k i a d; rw [h]
@[simp] theorem onset_gov (s : State) (k i a d : Nat) : (s.onset k i a d).gov = s.gov := by
  obtain ⟨_, h⟩ := onset_eq s k i a d; rw [h]
@[simp] theorem onset_free (s : State) (k i a d : Nat) : (s.onset k i a d).free = s.free := by
  obtain ⟨_, h⟩ := onset_eq s k i a d; rw [h]
@[simp] theorem onset_pending (s : State) (k i a d : Nat) : (s.onset k i a d).pending = s.pending := by
  obtain ⟨_, h⟩ := onset_eq s k i a d; rw [h]

@[simp] theorem markLive_sup (s : State) (k i : Nat) : (s.markLive k i).sup = s.sup := rfl
@[simp] theorem markLive_pow (s : State) (k i : Nat) : (s.markLive k i).pow = s.pow := rfl
@[simp] theorem markLive_regs (s : State) (k i : Nat) : (s.markLive k i).regs = s.regs := rfl
@[simp] theorem markLive_force (s : State) (k i : Nat) : (s.markLive k i).force = s.force := rfl
@[simp] theorem markLive_nvs (s : State) (k i : Nat) : (s.markLive k i).nvs = s.nvs := rfl
@[simp] theorem markLive_tst (s : State) (k i : Nat) : (s.markLive k i).tst = s.tst := rfl
@[simp] theorem markLive_queues (s : State) (k i : Nat) : (s.markLive k i).queues = s.queues := rfl
@[simp] theorem markLive_host (s : State) (k i : Nat) : (s.markLive k i).host = s.host := rfl
@[simp] theorem markLive_twi (s : State) (k i : Nat) : (s.markLive k i).twi = s.twi := rfl
@[simp] theorem markLive_panel (s : State) (k i : Nat) : (s.markLive k i).panel = s.panel := rfl
@[simp] theorem markLive_coefs (s : State) (k i : Nat) : (s.markLive k i).coefs = s.coefs := rfl
@[simp] theorem markLive_scan (s : State) (k i : Nat) : (s.markLive k i).scan = s.scan := rfl
@[simp] theorem markLive_base (s : State) (k i : Nat) : (s.markLive k i).base = s.base := rfl
@[simp] theorem markLive_cal (s : State) (k i : Nat) : (s.markLive k i).cal = s.cal := rfl
@[simp] theorem markLive_st (s : State) (k i : Nat) : (s.markLive k i).st = s.st := rfl
@[simp] theorem markLive_disp (s : State) (k i : Nat) : (s.markLive k i).disp = s.disp := rfl
@[simp] theorem markLive_pipe (s : State) (k i : Nat) : (s.markLive k i).pipe = s.pipe := rfl
@[simp] theorem markLive_link (s : State) (k i : Nat) : (s.markLive k i).link = s.link := rfl
@[simp] theorem markLive_lf (s : State) (k i : Nat) : (s.markLive k i).lf = s.lf := rfl
@[simp] theorem markLive_linkOut (s : State) (k i : Nat) : (s.markLive k i).linkOut = s.linkOut := rfl
@[simp] theorem markLive_aout (s : State) (k i : Nat) : (s.markLive k i).aout = s.aout := rfl
@[simp] theorem markLive_engines (s : State) (k i : Nat) : (s.markLive k i).engines = s.engines := rfl
@[simp] theorem markLive_iram (s : State) (k i : Nat) : (s.markLive k i).iram = s.iram := rfl
@[simp] theorem markLive_fmem (s : State) (k i : Nat) : (s.markLive k i).fmem = s.fmem := rfl
@[simp] theorem markLive_night (s : State) (k i : Nat) : (s.markLive k i).night = s.night := rfl
@[simp] theorem markLive_gov (s : State) (k i : Nat) : (s.markLive k i).gov = s.gov := rfl
@[simp] theorem markLive_free (s : State) (k i : Nat) : (s.markLive k i).free = s.free := rfl
@[simp] theorem markLive_pending (s : State) (k i : Nat) : (s.markLive k i).pending = s.pending := rfl

@[simp] theorem ceases_sup (s : State) (k i : Nat) : (s.ceases k i).sup = s.sup := rfl
@[simp] theorem ceases_pow (s : State) (k i : Nat) : (s.ceases k i).pow = s.pow := rfl
@[simp] theorem ceases_regs (s : State) (k i : Nat) : (s.ceases k i).regs = s.regs := rfl
@[simp] theorem ceases_force (s : State) (k i : Nat) : (s.ceases k i).force = s.force := rfl
@[simp] theorem ceases_nvs (s : State) (k i : Nat) : (s.ceases k i).nvs = s.nvs := rfl
@[simp] theorem ceases_tst (s : State) (k i : Nat) : (s.ceases k i).tst = s.tst := rfl
@[simp] theorem ceases_queues (s : State) (k i : Nat) : (s.ceases k i).queues = s.queues := rfl
@[simp] theorem ceases_host (s : State) (k i : Nat) : (s.ceases k i).host = s.host := rfl
@[simp] theorem ceases_twi (s : State) (k i : Nat) : (s.ceases k i).twi = s.twi := rfl
@[simp] theorem ceases_panel (s : State) (k i : Nat) : (s.ceases k i).panel = s.panel := rfl
@[simp] theorem ceases_coefs (s : State) (k i : Nat) : (s.ceases k i).coefs = s.coefs := rfl
@[simp] theorem ceases_scan (s : State) (k i : Nat) : (s.ceases k i).scan = s.scan := rfl
@[simp] theorem ceases_base (s : State) (k i : Nat) : (s.ceases k i).base = s.base := rfl
@[simp] theorem ceases_cal (s : State) (k i : Nat) : (s.ceases k i).cal = s.cal := rfl
@[simp] theorem ceases_st (s : State) (k i : Nat) : (s.ceases k i).st = s.st := rfl
@[simp] theorem ceases_disp (s : State) (k i : Nat) : (s.ceases k i).disp = s.disp := rfl
@[simp] theorem ceases_pipe (s : State) (k i : Nat) : (s.ceases k i).pipe = s.pipe := rfl
@[simp] theorem ceases_link (s : State) (k i : Nat) : (s.ceases k i).link = s.link := rfl
@[simp] theorem ceases_lf (s : State) (k i : Nat) : (s.ceases k i).lf = s.lf := rfl
@[simp] theorem ceases_linkOut (s : State) (k i : Nat) : (s.ceases k i).linkOut = s.linkOut := rfl
@[simp] theorem ceases_aout (s : State) (k i : Nat) : (s.ceases k i).aout = s.aout := rfl
@[simp] theorem ceases_engines (s : State) (k i : Nat) : (s.ceases k i).engines = s.engines := rfl
@[simp] theorem ceases_iram (s : State) (k i : Nat) : (s.ceases k i).iram = s.iram := rfl
@[simp] theorem ceases_fmem (s : State) (k i : Nat) : (s.ceases k i).fmem = s.fmem := rfl
@[simp] theorem ceases_night (s : State) (k i : Nat) : (s.ceases k i).night = s.night := rfl
@[simp] theorem ceases_gov (s : State) (k i : Nat) : (s.ceases k i).gov = s.gov := rfl
@[simp] theorem ceases_free (s : State) (k i : Nat) : (s.ceases k i).free = s.free := rfl
@[simp] theorem ceases_pending (s : State) (k i : Nat) : (s.ceases k i).pending = s.pending := rfl

@[simp] theorem finish_sup (s t : State) : (s.finish t).sup = t.sup := rfl
@[simp] theorem finish_regs (s t : State) : (s.finish t).regs = t.regs := rfl
@[simp] theorem finish_force (s t : State) : (s.finish t).force = t.force := rfl
@[simp] theorem finish_nvs (s t : State) : (s.finish t).nvs = t.nvs := rfl
@[simp] theorem finish_flt (s t : State) : (s.finish t).flt = t.flt := rfl
@[simp] theorem finish_tst (s t : State) : (s.finish t).tst = t.tst := rfl
@[simp] theorem finish_queues (s t : State) : (s.finish t).queues = t.queues := rfl
@[simp] theorem finish_host (s t : State) : (s.finish t).host = t.host := rfl
@[simp] theorem finish_twi (s t : State) : (s.finish t).twi = t.twi := rfl
@[simp] theorem finish_panel (s t : State) : (s.finish t).panel = t.panel := rfl
@[simp] theorem finish_coefs (s t : State) : (s.finish t).coefs = t.coefs := rfl
@[simp] theorem finish_base (s t : State) : (s.finish t).base = t.base := rfl
@[simp] theorem finish_cal (s t : State) : (s.finish t).cal = t.cal := rfl
@[simp] theorem finish_st (s t : State) : (s.finish t).st = t.st := rfl
@[simp] theorem finish_disp (s t : State) : (s.finish t).disp = t.disp := rfl
@[simp] theorem finish_pipe (s t : State) : (s.finish t).pipe = t.pipe := rfl
@[simp] theorem finish_link (s t : State) : (s.finish t).link = t.link := rfl
@[simp] theorem finish_lf (s t : State) : (s.finish t).lf = t.lf := rfl
@[simp] theorem finish_linkOut (s t : State) : (s.finish t).linkOut = t.linkOut := rfl
@[simp] theorem finish_aout (s t : State) : (s.finish t).aout = t.aout := rfl
@[simp] theorem finish_engines (s t : State) : (s.finish t).engines = t.engines := rfl
@[simp] theorem finish_iram (s t : State) : (s.finish t).iram = t.iram := rfl
@[simp] theorem finish_fmem (s t : State) : (s.finish t).fmem = t.fmem := rfl
@[simp] theorem finish_night (s t : State) : (s.finish t).night = t.night := rfl
@[simp] theorem finish_gov (s t : State) : (s.finish t).gov = t.gov := rfl
@[simp] theorem finish_free (s t : State) : (s.finish t).free = t.free := rfl
@[simp] theorem finish_pending (s t : State) : (s.finish t).pending = s.pending := rfl

end Sys2Proof.Machine
end

