-- ==== Sys2Proof/Laws/Exec.lean ====
section
/-!
SUPPORT. What a command can answer: the state as it is, or the end of a change that keeps the queue and the widths of TB
and of the frame counter.
-/

namespace Sys2Proof.Machine

/-- The state as it is, or the end of a change. -/
inductive Ends (s : State) : Host.Outcome State Fault Refusal → Prop where
  | same : Ends s (.next s)
  | changed (t : State) : Ends s (.next (s.finish t))

theorem done_ends (s t : State) : Ends s (done s t) := .changed t

theorem onlyIf_ends (b : Bool) (s t : State) : Ends s (onlyIf b s t) := by
  unfold onlyIf
  cases b
  · exact .same
  · exact .changed t

theorem twiCommandOrEnd_ends (s : State) (via : Option Requester) (op len target : Nat) (ended : TwiEnd) :
    Ends s (s.twiCommandOrEnd via op len target ended) := by
  unfold State.twiCommandOrEnd
  cases via
  · exact onlyIf_ends _ _ _
  · exact done_ends _ _

/-- Every command ends so. -/
theorem exec_ends (c : Instr) (s : State) : Ends s (exec c s) := by
  cases c
  case quickTest via => cases via <;> first | exact done_ends _ _ | exact onlyIf_ends _ _ _
  case feCal via mask disagree vals => cases via <;> first | exact done_ends _ _ | exact onlyIf_ends _ _ _
  case lfTrim via code => cases via <;> first | exact done_ends _ _ | exact onlyIf_ends _ _ _
  case dmdatAccess req e write => cases write <;> exact done_ends _ _
  case scanModeWrite req mode tmap => cases tmap <;> exact done_ends _ _
  case wakeMessage ended => cases ended <;> exact onlyIf_ends _ _ _
  case discovery step => cases step <;> exact onlyIf_ends _ _ _
  case enum own pos =>
    simp only [exec, execEnum]
    split
    · exact onlyIf_ends _ _ _
    · split <;> exact onlyIf_ends _ _ _
  case aoutCal via mask vrefOk short loaded offset gain =>
    cases via
    · simp only [exec, execAoutCal]
      split
      · exact onlyIf_ends _ _ _
      · exact .same
    · exact done_ends _ _
  case lockoutShutdown step => cases step <;> exact onlyIf_ends _ _ _
  case listTimeout =>
    simp only [exec, execListTimeout]
    split
    · exact onlyIf_ends _ _ _
    · exact .same
  case captureRef via arg =>
    cases via
    · simp only [exec, execCaptureRef]
      split
      · exact onlyIf_ends _ _ _
      · exact .same
    · exact done_ends _ _
  case extensionTask e q =>
    simp only [exec, execExtensionTask]
    split
    · split
      · exact done_ends _ _
      · exact .same
    · exact .same
  case wavePost =>
    simp only [exec, execWavePost]
    split
    · split
      · exact onlyIf_ends _ _ _
      · exact .same
    · exact .same
  case listenWindowEnd =>
    simp only [exec, execListenWindowEnd]
    split
    · exact onlyIf_ends _ _ _
    · exact .same
  case burstEnd =>
    simp only [exec, execBurstEnd]
    split
    · exact onlyIf_ends _ _ _
    · exact .same
  case selfPassEnd =>
    simp only [exec, execSelfPassEnd]
    split
    · exact onlyIf_ends _ _ _
    · exact .same
  case testPassEnd =>
    simp only [exec, execTestPassEnd]
    split
    · exact onlyIf_ends _ _ _
    · exact .same
  case waitEnd =>
    simp only [exec, execWaitEnd]
    split
    · exact onlyIf_ends _ _ _
    · exact .same
  case dispatch =>
    simp only [exec, execDispatch]
    split
    · exact onlyIf_ends _ _ _
    · exact .same
  case taskPost =>
    simp only [exec, execTaskPost]
    split
    · exact onlyIf_ends _ _ _
    · exact .same
  case waveTimeout =>
    simp only [exec, execWaveTimeout]
    split
    · exact onlyIf_ends _ _ _
    · exact .same
  case parkLate =>
    simp only [exec, execParkLate]
    split
    · exact onlyIf_ends _ _ _
    · exact .same
  case acquisition =>
    simp only [exec, execAcquisition]
    split
    · exact onlyIf_ends _ _ _
    · exact .same
  case interruptEntry =>
    simp only [exec, execInterruptEntry]
    split
    · exact onlyIf_ends _ _ _
    · exact .same
  case reservationTimeout =>
    simp only [exec, execReservationTimeout]
    split
    · exact onlyIf_ends _ _ _
    · exact .same
  case mulResult =>
    simp only [exec, execMulResult]
    split
    · exact onlyIf_ends _ _ _
    · exact .same
  case divResult =>
    simp only [exec, execDivResult]
    split
    · exact onlyIf_ends _ _ _
    · exact .same
  case quinceResult =>
    simp only [exec, execQuinceResult]
    split
    · exact onlyIf_ends _ _ _
    · exact .same
  case sloeResult =>
    simp only [exec, execSloeResult]
    split
    · exact onlyIf_ends _ _ _
    · exact .same
  case powerCommit =>
    simp only [exec, execPowerCommit]
    split
    · exact onlyIf_ends _ _ _
    · exact .same
  case subblobListArrival =>
    simp only [exec, execSubblobListArrival]
    split
    · exact onlyIf_ends _ _ _
    · exact .same
  all_goals first
    | exact done_ends _ _
    | exact onlyIf_ends _ _ _
    | exact twiCommandOrEnd_ends _ _ _ _ _ _

end Sys2Proof.Machine
end

