-- ==== Sys2Proof/Laws/Sparse.lean ====
section
/-!
SUPPORT. Sparse lists and byte memories: a read after a write, and the canonical form that every memory operation keeps.
-/

namespace Sys2Proof.Machine

theorem aget_aput_same {α : Type} (d v : α) (k : Nat) (m : List (Nat × α)) : aget d k (aput k v m) = v := by
  induction m with
  | nil => simp [aput, aget]
  | cons p t ih =>
    obtain ⟨j, w⟩ := p
    unfold aput
    split
    · simp [aget]
    · split
      · simp [aget]
      · rename_i h h'
        simp [aget, h, h', ih]

theorem aget_aput_ne {α : Type} (d v : α) {k k' : Nat} (h : k' ≠ k) (m : List (Nat × α)) :
    aget d k' (aput k v m) = aget d k' m := by
  induction m with
  | nil => simp [aput, aget, h]
  | cons p t ih =>
    obtain ⟨j, w⟩ := p
    unfold aput
    split
    · rename_i hk
      by_cases hlt : k' < k
      · simp [aget, h, hlt, Nat.lt_trans hlt hk, Nat.ne_of_lt (Nat.lt_trans hlt hk)]
      · simp [aget, h, hlt]
    · split
      · rename_i hk; subst hk
        by_cases hlt : k' < k <;> simp [aget, h, hlt]
      · simp [aget, ih]

theorem aget_aput {α : Type} (d v : α) (k k' : Nat) (m : List (Nat × α)) :
    aget d k' (aput k v m) = if k' = k then v else aget d k' m := by
  by_cases h : k' = k
  · subst h; simp [aget_aput_same]
  · simp [h, aget_aput_ne d v h m]

/-! ### Byte memories -/

theorem Memory.wfFrom_mono {lo lo' : Nat} (h : lo ≤ lo') : ∀ {m}, Memory.wfFrom lo' m = true → Memory.wfFrom lo m = true
  | [], _ => rfl
  | (a, v) :: t, hm => by
    simp only [Memory.wfFrom, Bool.and_eq_true, decide_eq_true_eq] at hm ⊢
    exact ⟨⟨Nat.le_trans h hm.1.1, hm.1.2⟩, hm.2⟩

theorem Memory.wfFrom_write {lo a : Nat} (v : Byte) (ha : lo ≤ a) :
    ∀ {m}, Memory.wfFrom lo m = true → Memory.wfFrom lo (Memory.write m a v) = true
  | [], _ => by
    unfold Memory.write
    split
    · rfl
    · rename_i hv; simp [Memory.wfFrom, ha, hv]
  | (b, w) :: t, hm => by
    have hm' := hm
    simp only [Memory.wfFrom, Bool.and_eq_true, decide_eq_true_eq] at hm
    unfold Memory.write
    split
    · rename_i hab
      split
      · exact hm'
      · rename_i hv
        simp only [Memory.wfFrom, Bool.and_eq_true, decide_eq_true_eq]
        exact ⟨⟨ha, hv⟩, ⟨hab, hm.1.2⟩, hm.2⟩
    · split
      · rename_i hab
        subst hab
        split
        · exact Memory.wfFrom_mono (Nat.le_succ_of_le hm.1.1) hm.2
        · rename_i hv
          simp only [Memory.wfFrom, Bool.and_eq_true, decide_eq_true_eq]
          exact ⟨⟨ha, hv⟩, hm.2⟩
      · rename_i h1 h2
        simp only [Memory.wfFrom, Bool.and_eq_true, decide_eq_true_eq]
        exact ⟨hm.1, Memory.wfFrom_write v (by omega) hm.2⟩

theorem Memory.wf_write (m : List Host.Cell) (a : Nat) (v : Byte) (h : Memory.wf m = true) :
    Memory.wf (Memory.write m a v) = true := Memory.wfFrom_write v (Nat.zero_le a) h

theorem Memory.wfFrom_cells_append {m : List Host.Cell} : ∀ (l : List Byte) (lo a : Nat), lo ≤ a →
    Memory.wfFrom (a + l.length) m = true → Memory.wfFrom lo (Memory.cells a l ++ m) = true
  | [], lo, a, h, hm => Memory.wfFrom_mono (by simpa using h) hm
  | v :: t, lo, a, h, hm => by
    have hm' : Memory.wfFrom (a + 1 + t.length) m = true := by
      rw [List.length_cons] at hm
      rwa [show a + 1 + t.length = a + (t.length + 1) by omega]
    unfold Memory.cells
    split
    · exact Memory.wfFrom_cells_append t lo (a + 1) (by omega) hm'
    · rename_i hv
      simp only [List.cons_append, Memory.wfFrom, Bool.and_eq_true, decide_eq_true_eq]
      exact ⟨⟨h, hv⟩, Memory.wfFrom_cells_append t (a + 1) (a + 1) (Nat.le_refl _) hm'⟩

theorem Memory.wfFrom_dropWhile (n : Nat) : ∀ {m : List Host.Cell} {lo : Nat}, Memory.wfFrom lo m = true →
    Memory.wfFrom n (m.dropWhile fun c => c.1 < n) = true
  | [], _, _ => rfl
  | (b, w) :: t, lo, hm => by
    simp only [Memory.wfFrom, Bool.and_eq_true, decide_eq_true_eq] at hm
    simp only [List.dropWhile_cons]
    split
    · exact Memory.wfFrom_dropWhile n hm.2
    · rename_i h
      simp only [Memory.wfFrom, Bool.and_eq_true, decide_eq_true_eq]
      exact ⟨⟨by simpa using h, hm.1.2⟩, hm.2⟩

theorem Memory.wfFrom_writeList (a : Nat) (l : List Byte) : ∀ {m : List Host.Cell} {lo : Nat}, lo ≤ a →
    Memory.wfFrom lo m = true → Memory.wfFrom lo (Memory.writeList m a l) = true
  | [], lo, ha, _ => by
    have := Memory.wfFrom_cells_append (m := []) l lo a ha rfl
    simpa [Memory.writeList] using this
  | (b, w) :: t, lo, ha, hm => by
    have hm' := hm
    simp only [Memory.wfFrom, Bool.and_eq_true, decide_eq_true_eq] at hm
    unfold Memory.writeList
    split
    · simp only [Memory.wfFrom, Bool.and_eq_true, decide_eq_true_eq]
      exact ⟨hm.1, Memory.wfFrom_writeList a l (by omega) hm.2⟩
    · exact Memory.wfFrom_cells_append l lo a ha (Memory.wfFrom_dropWhile _ hm')

theorem Memory.wf_writeList (l : List Byte) (m : List Host.Cell) (a : Nat) (h : Memory.wf m = true) :
    Memory.wf (Memory.writeList m a l) = true := Memory.wfFrom_writeList a l (Nat.zero_le a) h

theorem Memory.read_below {lo a : Nat} (ha : a < lo) : ∀ {m}, Memory.wfFrom lo m = true → Memory.read m a = Memory.empty
  | [], _ => rfl
  | (b, w) :: t, hm => by
    simp only [Memory.wfFrom, Bool.and_eq_true, decide_eq_true_eq] at hm
    have h1 : a < b := by omega
    unfold Memory.read
    rw [if_neg (by omega), if_pos h1]

/-- A read after a write: the value written at its address, everywhere else what was there. -/
theorem Memory.read_write {lo : Nat} (a b : Nat) (v : Byte) :
    ∀ {m}, Memory.wfFrom lo m = true → Memory.read (Memory.write m a v) b = if b = a then v else Memory.read m b
  | [], _ => by
    unfold Memory.write
    split
    · rename_i hv; subst hv; simp [Memory.read]
    · by_cases h : b = a <;> simp [Memory.read, h]
  | (c, w) :: t, hm => by
    have hm' := hm
    simp only [Memory.wfFrom, Bool.and_eq_true, decide_eq_true_eq] at hm
    unfold Memory.write
    split
    · rename_i hac
      split
      · rename_i hv
        subst hv
        by_cases h : b = a
        · subst h
          unfold Memory.read
          simp [hac, Nat.ne_of_lt hac]
        · simp [h]
      · by_cases h : b = a
        · simp [Memory.read, h]
        · by_cases hb : b < a
          · simp [Memory.read, h, hb, Nat.lt_trans hb hac, Nat.ne_of_lt (Nat.lt_trans hb hac)]
          · simp [Memory.read, h, hb]
    · split
      · rename_i hac
        subst hac
        split
        · rename_i hv
          subst hv
          by_cases h : b = a
          · subst h
            simp [Memory.read_below (Nat.lt_succ_self b) hm.2]
          · by_cases hb : b < a
            · simp [Memory.read, h, hb, Memory.read_below (Nat.lt_succ_of_lt hb) hm.2]
            · simp [Memory.read, h, hb]
        · by_cases h : b = a
          · simp [Memory.read, h]
          · simp [Memory.read, h]
      · rename_i h1 h2
        by_cases hbc : b = c
        · subst hbc
          have : b ≠ a := fun h => h2 h.symm
          simp [Memory.read, this]
        · by_cases hb : b < c
          · have : b ≠ a := by omega
            simp [Memory.read, hbc, hb, this]
          · simp only [Memory.read, hbc, hb, if_false]
            exact Memory.read_write a b v hm.2

theorem Memory.read_write_of_wf {m : List Host.Cell} (h : Memory.wf m = true) (a b : Nat) (v : Byte) :
    Memory.read (Memory.write m a v) b = if b = a then v else Memory.read m b := Memory.read_write a b v h

/-! ### Writing a list of bytes -/

theorem Memory.read_cells_append {m : List Host.Cell} (b : Nat) : ∀ (l : List Byte) (a : Nat),
    Memory.wfFrom (a + l.length) m = true →
    Memory.read (Memory.cells a l ++ m) b =
      if a ≤ b ∧ b < a + l.length then l.getD (b - a) Memory.empty else Memory.read m b
  | [], a, _ => by simp [Memory.cells, show ¬ (a ≤ b ∧ b < a) by omega]
  | v :: t, a, hm => by
    have hm' : Memory.wfFrom (a + 1 + t.length) m = true := by
      rw [List.length_cons] at hm
      rwa [show a + 1 + t.length = a + (t.length + 1) by omega]
    have ih := Memory.read_cells_append b t (a + 1) hm'
    have hlen : (v :: t).length = t.length + 1 := rfl
    by_cases hba : b = a
    · subst hba
      rw [if_pos ⟨Nat.le_refl _, by omega⟩, Nat.sub_self]
      unfold Memory.cells
      split
      · rename_i hv
        rw [ih, if_neg (by omega), Memory.read_below (by omega) hm', hv]
        rfl
      · simp [Memory.read]
    · have hne : Memory.read (Memory.cells a (v :: t) ++ m) b = Memory.read (Memory.cells (a + 1) t ++ m) b := by
        conv_lhs => unfold Memory.cells
        split
        · rfl
        · by_cases hlt : b < a
          · have hw := Memory.wfFrom_cells_append t (a + 1) (a + 1) (Nat.le_refl _) hm'
            rw [Memory.read_below (by omega) hw]
            simp [Memory.read, hba, hlt]
          · simp [Memory.read, hba, hlt]
      rw [hne, ih]
      by_cases hr : a + 1 ≤ b ∧ b < a + 1 + t.length
      · rw [if_pos hr, if_pos (by omega), show b - a = (b - (a + 1)) + 1 by omega, List.getD_cons_succ]
      · rw [if_neg hr, if_neg (by omega)]

theorem Memory.read_dropWhile {n b : Nat} (hb : n ≤ b) : ∀ (m : List Host.Cell),
    Memory.read (m.dropWhile fun c => c.1 < n) b = Memory.read m b
  | [] => rfl
  | (c, w) :: t => by
    simp only [List.dropWhile_cons]
    split
    · rename_i h
      have hc : c < n := by simpa using h
      rw [Memory.read_dropWhile hb t]
      simp [Memory.read, show b ≠ c by omega, show ¬ b < c by omega]
    · rfl

/-- A read after a list of bytes is written: the byte of the list inside it, what was there outside it. -/
theorem Memory.read_writeList (a b : Nat) (l : List Byte) : ∀ {m : List Host.Cell} {lo : Nat},
    Memory.wfFrom lo m = true → Memory.read (Memory.writeList m a l) b =
      if a ≤ b ∧ b < a + l.length then l.getD (b - a) Memory.empty else Memory.read m b
  | [], _, _ => by
    have h := Memory.read_cells_append (m := []) b l a rfl
    simpa [Memory.writeList] using h
  | (c, w) :: t, lo, hm => by
    have hm' := hm
    simp only [Memory.wfFrom, Bool.and_eq_true, decide_eq_true_eq] at hm
    unfold Memory.writeList
    split
    · rename_i hca
      have ih := Memory.read_writeList a b l hm.2
      by_cases hbc : b = c
      · simp [Memory.read, hbc, show ¬ (a ≤ c ∧ c < a + l.length) by omega]
      · by_cases hlt : b < c
        · simp [Memory.read, hbc, hlt, show ¬ (a ≤ b ∧ b < a + l.length) by omega]
        · simp only [Memory.read, hbc, hlt, if_false]
          exact ih
    · rename_i hca
      rw [Memory.read_cells_append b l a (Memory.wfFrom_dropWhile _ hm')]
      by_cases hr : a ≤ b ∧ b < a + l.length
      · rw [if_pos hr, if_pos hr]
      · rw [if_neg hr, if_neg hr]
        by_cases hb : a + l.length ≤ b
        · exact Memory.read_dropWhile hb _
        · have h1 := Memory.wfFrom_dropWhile (a + l.length) hm'
          rw [Memory.read_below (by omega) h1, Memory.read_below (lo := c) (by omega)]
          simp [Memory.wfFrom, hm]

theorem Memory.read_writeList_of_wf {m : List Host.Cell} (h : Memory.wf m = true) (a b : Nat) (l : List Byte) :
    Memory.read (Memory.writeList m a l) b =
      if a ≤ b ∧ b < a + l.length then l.getD (b - a) Memory.empty else Memory.read m b :=
  Memory.read_writeList a b l h

theorem Memory.wf_nil : Memory.wf [] = true := rfl

end Sys2Proof.Machine
end

