-- ==== Sys2Proof/Laws/Fields.lean ====
section
/-!
SUPPORT. Register fields: what a field reads as after the operations that change fields.
-/

namespace Sys2Proof.Machine

theorem get_set (s : State) (f g : Fld) (v : Nat) :
    (s.set f v).get g = if g.key = f.key then v % 2 ^ f.width else s.get g := aget_aput _ _ _ _ _

theorem get_set_same (s : State) (f : Fld) (v : Nat) : (s.set f v).get f = v % 2 ^ f.width := by simp [get_set]

theorem get_set_ne (s : State) {f g : Fld} (v : Nat) (h : g.key ≠ f.key) : (s.set f v).get g = s.get g := by
  simp [get_set, h]

/-- Reading a field looks at the stored fields only. -/
theorem get_congr {s t : State} (h : t.regs = s.regs) (f : Fld) : t.get f = s.get f := by unfold State.get; rw [h]

@[simp] theorem get_finish (s t : State) (f : Fld) : (s.finish t).get f = t.get f := rfl

@[simp] theorem get_setEng (s : State) (e : Nat) (g : Engine → Engine) (f : Fld) : (s.setEng e g).get f = s.get f := rfl

@[simp] theorem get_raise (s : State) (m : Msg) (f : Fld) : (s.raise m).get f = s.get f := get_congr (raise_regs s m) f

@[simp] theorem get_eventFault (s : State) (k a d : Nat) (f : Fld) : (s.eventFault k a d).get f = s.get f :=
  get_congr (eventFault_regs s k a d) f

@[simp] theorem get_onset (s : State) (k i a d : Nat) (f : Fld) : (s.onset k i a d).get f = s.get f :=
  get_congr (onset_regs s k i a d) f

@[simp] theorem get_ceases (s : State) (k i : Nat) (f : Fld) : (s.ceases k i).get f = s.get f := rfl

@[simp] theorem get_send (s : State) (m : LinkMsg) (f : Fld) : (s.send m).get f = s.get f := get_congr (send_regs s m) f

/-- Clearing fields changes stored fields only. -/
theorem clear_eq (l : List Fld) : ∀ s : State, ∃ rs, s.clear l = { s with regs := rs } := by
  induction l with
  | nil => intro s; exact ⟨s.regs, rfl⟩
  | cons f t ih => intro s; obtain ⟨rs, h⟩ := ih (s.set f f.reset); exact ⟨rs, h⟩

theorem get_clear_other (l : List Fld) : ∀ (s : State) (g : Fld), g.key ∉ l.map Fld.key → (s.clear l).get g = s.get g := by
  induction l with
  | nil => intro s g _; rfl
  | cons f t ih =>
    intro s g h
    simp only [List.map_cons, List.mem_cons, not_or] at h
    show ((s.set f f.reset).clear t).get g = _
    rw [ih _ _ h.2, get_set_ne _ _ h.1]

/-- A cleared field whose key no other field of the list has reads as its reset value. -/
theorem get_clear_mem (l : List Fld) : ∀ (s : State) (g : Fld), (l.map Fld.key).Nodup → g ∈ l →
    (s.clear l).get g = g.reset % 2 ^ g.width := by
  induction l with
  | nil => intro s g _ h; cases h
  | cons f t ih =>
    intro s g hn h
    simp only [List.map_cons, List.nodup_cons] at hn
    show ((s.set f f.reset).clear t).get g = _
    rcases List.mem_cons.mp h with rfl | h
    · rw [get_clear_other t _ _ hn.1, get_set_same]
    · exact ih _ _ hn.2 h

end Sys2Proof.Machine
end

