-- ==== Sys2Proof/Laws/Fabric.lean ====
section
/-!
SUPPORT. A register write that passes the checks of the fabric.
-/

namespace Sys2Proof.Machine

/-- An admitted write is what its fields make of it, with one report of a rejection. -/
theorem fabricWrite_of_admits {s : State} {req : Requester} {addr p off : Nat} (w : Nat)
    (hp : addr / 256 = p) (ho : addr % 256 / 4 * 4 = off) (h : s.Admits req p off) :
    s.fabricWrite req addr w =
      match (s.writeFields req p off w).2 with
      | some o => ((s.writeFields req p off w).1.noteEnabled p s).wrerr p o
      | none => (s.writeFields req p off w).1.noteEnabled p s := by
  obtain ⟨h1, h2, h3, h4, h5, h6, h7⟩ := h
  unfold State.fabricWrite
  simp only [hp, ho, h1, h2, h4, Bool.not_true, Bool.false_eq_true, if_false]
  rw [if_neg (by simpa [Bool.and_eq_true, and_assoc] using h3), if_neg (by
    simp only [Bool.and_eq_true, Bool.not_eq_true', decide_eq_true_eq, not_and]
    intro hp; simp [h5 hp]), if_neg (by
    simp only [Bool.and_eq_true, Bool.not_eq_true', not_and]
    intro hr; simp [h6 hr]), if_neg (by simpa [Bool.and_eq_true] using h7)]
  all_goals (cases (s.writeFields req p off w).2 <;> rfl)

/-- A page that enables no electrode. -/
theorem noteEnabled_other {p : Nat} (hn : ¬(0x10 ≤ p ∧ p ≤ 0x14)) (s t : State) : t.noteEnabled p s = t := by
  unfold State.noteEnabled
  rw [if_neg (by simpa using hn)]

/-- An admitted write of a register above the header, but for CAL.CMD and the pages that enable electrodes. -/
theorem fabricWrite_reg {s : State} {req : Requester} {addr p off : Nat} (w : Nat)
    (hp : addr / 256 = p) (ho : addr % 256 / 4 * 4 = off) (h20 : 0x20 ≤ off) (hc : ¬(p = 0x19 ∧ off = 0x20))
    (hn : ¬(0x10 ≤ p ∧ p ≤ 0x14)) (h : s.Admits req p off) :
    s.fabricWrite req addr w =
      if (s.writeReg p off w).2 then (s.writeReg p off w).1.wrerr p off else (s.writeReg p off w).1 := by
  rw [fabricWrite_of_admits w hp ho h]
  simp only [noteEnabled_other hn]
  have e : s.writeFields req p off w =
      ((s.writeReg p off w).1, if (s.writeReg p off w).2 then some off else none) := by
    unfold State.writeFields
    rw [if_neg (by omega), if_neg (by simpa using hc)]
  rw [e]
  cases (s.writeReg p off w).2 <;> rfl

/-- A field that a word leaves alone: read-only, a command bit, or a write-one-to-clear field whose bits are 0. -/
def Fld.idle (w : Nat) (f : Fld) : Bool :=
  match f.acc with
  | .rw => false
  | .w1c => f.of w = 0
  | _ => true

theorem putField_idle {run : Bool} {w : Nat} {f : Fld} (h : Fld.idle w f = true) (a : State × Bool) :
    putField run w a f = a := by
  cases e : f.acc with
  | rw => simp [Fld.idle, e] at h
  | ro => simp [putField, e]
  | w1c => simp only [Fld.idle, e, decide_eq_true_eq] at h; simp [putField, e, h]
  | wo => simp [putField, e]

theorem putFields_idle {run : Bool} {w : Nat} {l : List Fld} (h : l.all (Fld.idle w) = true) (s : State) :
    s.putFields run w l = (s, false) := by
  have : ∀ a, l.foldl (putField run w) a = a := by
    induction l with
    | nil => intro a; rfl
    | cons f t ih =>
      intro a
      simp only [List.all_cons, Bool.and_eq_true] at h
      rw [List.foldl_cons, putField_idle h.1, ih h.2]
  exact this _

end Sys2Proof.Machine
end

