-- ==== Sys2Proof/Machine/Pins.lean ====
section
/-!
DEFINITION. What the balls of the device carry, as views of the state: no command reads them (spec/02 R39, R49 to R53, R71;
spec/04 R94 to R117; spec/12 R335 to R338; spec/15).
-/

namespace Sys2Proof.Machine

/-! ### Digital balls (02 R39) -/

/-- What the device does at a digital ball. -/
inductive Ball where
  /-- High-impedance, or an open drain that is released; IRQ balls then have their 100 kΩ pull-downs. -/
  | released
  | low
  | high
  deriving DecidableEq, Repr

/-- A push-pull level. -/
def Ball.driven (b : Bool) : Ball := if b then .high else .low

/-- An open-drain ball. -/
def Ball.openDrain (asserted : Bool) : Ball := if asserted then .low else .released

/-- IRQn: released while PD1 is off, before the port is ready and without VIO; else pending sources assert it, at the
polarity of IRQ.PINCFG.POL (12 R337, R338; 02 R51; 03 R71). -/
def State.irqBall (s : State) (n : Nat) : Ball :=
  if s.pd1 && s.sup.portReady && s.sup.vioGood then
    .driven (s.irqAsserted n != bit (s.get R.IRQ_PINCFG_POL) n)
  else .released

/-- WAKE: driven from the moment VIO is good (02 R39, R51; 16 R412). -/
def State.wakeBall (s : State) : Ball := if s.sup.on && s.sup.vioGood then .driven s.wakePin else .released

/-- FAULT: open drain, active low (02 R39, R41). -/
def State.faultBall (s : State) : Ball := .openDrain s.faultPin

/-- The lines that carry a byte in HSCK cycle `c` of it, most significant bit first, each with its bit (12 R315): in single mode one
line for each direction, else lines 1 and 0, or 3 to 0, for both. -/
def laneBits (lanes : Nat) (toHost : Bool) (b : Byte) (c : Nat) : List (Nat × Bool) :=
  match lanes with
  | 0 => [(b2n toHost, b.getLsbD (7 - c))]
  | 1 => [(1, b.getLsbD (7 - 2 * c)), (0, b.getLsbD (6 - 2 * c))]
  | _ => [(3, b.getLsbD (7 - 4 * c)), (2, b.getLsbD (6 - 4 * c)), (1, b.getLsbD (5 - 4 * c)), (0, b.getLsbD (4 - 4 * c))]

/-- The width in which the command and the address arrive: the data lanes only with HOSTPORT.CFG.CAW = 1 (12 R315). -/
def State.headerLanes (s : State) : Nat := if s.flag R.HOSTPORT_CFG_CAW then s.get R.HOSTPORT_CFG_LANES else 0

/-- The byte whose bits the host puts on its lines, read off line by line in the cycles of the byte: of the header, or of the data
(12 R315). The levels of lines that the width does not use are ignored. -/
def State.hostByte (s : State) (header : Bool) (level : Nat → Nat → Bool) : Byte :=
  let lanes := if header then s.headerLanes else s.get R.HOSTPORT_CFG_LANES
  let cycles := if lanes = 0 then 8 else if lanes = 1 then 4 else 2
  byteOf ((List.range cycles).foldl (fun v c =>
    (laneBits lanes false 0 c).foldl (fun v q => 2 * v + b2n (level c q.1)) v) 0)

/-- HIO line k in cycle c of byte i of what the device sends in a transaction (02 R39; 12 R315); every other line, and every line
at any other time, is not driven. -/
def State.hioBall (s : State) (i c k : Nat) : Ball :=
  match s.host.out[i]? with
  | some b =>
    match (laneBits (s.get R.HOSTPORT_CFG_LANES) true b c).find? fun q => q.1 = k with
    | some q => .driven q.2
    | none => .released
  | none => .released

/-- SCL and SDA between transfers: released (02 R39; 13 R342). -/
def busBall : Ball := .released

/-- SYNC: ROOT pulls it low for 1 µs, from 400 ns before its FRAME_START to 600 ns after it (02 R39; 14 R366). -/
def State.syncBall (s : State) : Ball :=
  .openDrain (s.inRun && s.inCascade && s.panel.pos = 0
    && (s.lf.sync.isSome || (s.scan.phase ≠ .idle && s.scan.clk < 58)))

/-- The transmit lanes of a Halgon port carry symbols once its training has begun; before, the driver is off (02 R39;
14 R362). Port 0 is UP, port 1 DN. -/
def State.lanesDrive (s : State) (port : Nat) : Bool :=
  s.inRun && s.get (if port = 0 then R.LINK_PORT_UPST else R.LINK_PORT_DNST) ≠ 0

/-! ### Drive lines (04 R94 to R111) -/

/-- What a drive line does (04 R94, 06 R152, R153). -/
inductive LinePin where
  /-- Driven low. -/
  | low
  /-- Low through the internal 20 kΩ. -/
  | lowWeak
  | highZ
  /-- Active in a burst: its Walsh code, and the chip of it that runs. -/
  | code (w chip : Nat)
  /-- Measured in a counting pass, or carrying the sense waveform as guard. -/
  | sense
  /-- The stimulated line of a TXSTIM word: the transfer waveform in anti-phase. -/
  | antiphase
  deriving DecidableEq, Repr

/-- The state of an idle line (04 R94). -/
def State.idleLine (s : State) : LinePin :=
  match s.inForce R.DRIVE_BURST_TXIDLE with
  | 0 => .low
  | 1 => .lowWeak
  | _ => .highZ

/-- Whether a counting pass measures drive line k of a slice: 1 is TX-A, 2 is TX-B (06 R152). -/
def passMeasures (pass k : Nat) : Bool := (pass = 1 && k < 24) || (pass = 2 && 24 ≤ k)

/-- The chip of a code of length `len` that the lines carry: chips L - S to L - 1 in a settling interval, then chips 0 to
L - 1 once or more (04 R107, R111). -/
def State.chipNow (s : State) (len : Nat) : Nat := if 0 < s.scan.settle then len - s.scan.settle else s.scan.sub % len

/-- Drive pin p in the word that runs: the device's own lines of the burst carry their codes, those of a counting pass its
waveform, and all others are idle (04 R94, R101, R104; 06 R152, R153; 14 R358). -/
def State.wordLine (s : State) (p : Nat) : LinePin :=
  let d := s.txBase s.panel.pos + p
  if s.ownTx ≤ p then s.idleLine
  else
    match s.curWord with
    | .burst first last lc base =>
      let lines := s.covered first last
      if d ∈ lines then .code (base + lines.idxOf d) (s.chipNow (codeLen lc)) else s.idleLine
    | .self axis guard slices _ =>
      let pass := (passes axis).getD s.scan.sub 0
      if bit slices (p / 40) && passMeasures pass (p % 40) || guard = 1 then .sense else s.idleLine
    | .test type slices stim _ =>
      let pass := (passes type).getD s.scan.sub 0
      if type = 2 && s.stimOf stim = d then .antiphase
      else if bit slices (p / 40) && passMeasures pass (p % 40) then .sense else s.idleLine
    | _ => s.idleLine

/-- The drive domain has not taken its pins: during boot up to step 8, and in the loader state (02 R39; 03 R71, R72). -/
def State.driveOff (s : State) : Bool := s.get R.DEVICE_BOOT_STAGE < 6 || s.get R.DEVICE_BOOT_STAGE = 8

/-- Drive pin p of the device: masked lines are low at all times (04 R94), and every line is low in the fault safe state and
in a lockout shutdown (17 R442, 02 R53). None where the spec gives no state: with the drive domain off. -/
def State.linePin (s : State) (p : Nat) : Option LinePin :=
  if !s.sup.on then none
  else if s.flt.safe || s.sup.lockout then some .low
  else if s.driveOff then some .lowWeak
  else if !s.inRun then none
  else if s.masked p || p ∈ s.scan.txOff then some .low
  else if s.scan.phase ≠ .word then some s.idleLine
  else some (s.wordLine p)

/-- An active line in half h of the cycles of chip j: high where the chip is +1 and the half the first, or the chip is -1
and the half the second (04 R100). -/
def lineHigh (w j h : Nat) : Bool := decide (walsh w j = 1) == decide (h % 2 = 0)

/-- Half h of the cycles of chip j of code w in AFECLK cycles: the high half lasts ⌊D / 2⌋ and the low half ⌈D / 2⌉, also in
a -1 chip, whose low half comes first (04 R100, R105). -/
def halfCycles (div w j h : Nat) : Nat := if lineHigh w j h then div / 2 else ceilDiv div 2

/-- What a shield pin does (04 R117). -/
inductive ShieldPin where
  | lowWeak
  | low
  /-- The sense waveform of the scan that runs. -/
  | follow
  deriving DecidableEq, Repr

/-- VTX of a code in volts; code 0 stops the converter (04 R89). -/
def vtxVolts (code : Nat) : Nat := if code = 0 then 0 else 2 * code + 2

/-- The target of the VTX converter in volts: 0 where it is off or a vote has stopped it (04 R89, 16 R405). -/
def State.vtxTarget (s : State) : Nat := if !s.inRun || s.vtxAsked then 0 else vtxVolts (s.get R.DRIVE_STAT_VTXACT)

/-- The mode of a shield pin. -/
def shieldMode (n : Nat) : Fld :=
  match n with
  | 0 => R.DRIVE_SHLD_MODE0
  | 1 => R.DRIVE_SHLD_MODE1
  | 2 => R.DRIVE_SHLD_MODE2
  | _ => R.DRIVE_SHLD_MODE3

/-- Shield pin n: low through 20 kΩ in reset and boot; FOLLOW carries the sense waveform during self scans and Nightcap
scans and is driven low outside them (02 R39, 04 R117). `nightcap`: a Nightcap scan runs, which one command of the model
covers from its start to its end. -/
def State.shieldPin (s : State) (nightcap : Bool) (n : Nat) : ShieldPin :=
  match (if s.driveOff then 0 else s.inForce (shieldMode n)) with
  | 0 => .lowWeak
  | 1 => .low
  | _ =>
    match s.inRun && s.scan.phase = .word, s.curWord with
    | true, .self _ _ _ _ => .follow
    | _, _ => if nightcap && s.pow.state = .watch then .follow else .low

/-! ### Receive electrodes (05 R121, 06 R152) -/

/-- What RXAc and RXBc of a channel carry. -/
inductive RxPin where
  | highZ
  /-- The common bias of 1.65 V. -/
  | bias
  /-- The sense waveform: measured, or as guard. -/
  | sense
  deriving DecidableEq, Repr

/-- Receive channel c: high-impedance in boot and where it is disabled; in a counting pass measured, or under GUARD with the
sense waveform; else at bias (02 R39; 05 R121; 06 R151, R152). None with the receive domain off. -/
def State.rxPin (s : State) (c : Nat) : Option RxPin :=
  if !s.sup.on then none
  else if s.driveOff || !s.flag (R.SLICE_CH_EN (c / 24) (c % 24)) || s.ownRx ≤ c then some .highZ
  else if !s.inRun then none
  else if s.scan.phase ≠ .word then some .bias
  else
    match s.curWord with
    | .self axis guard slices _ =>
      some (if (bit slices (c / 24) && (passes axis).getD s.scan.sub 0 = 0) || guard = 1 then .sense else .bias)
    | .test type slices _ _ =>
      some (if bit slices (c / 24) && (passes type).getD s.scan.sub 0 = 0 then .sense else .bias)
    | _ => some .bias

/-! ### Analogue outputs (15) -/

/-- The ideal voltage of code c in a span, in units of VREFA / 131,072: UNI-FULL, UNI-HALF and CENTRED (15 R382). -/
def spanVolts (span c : Nat) : Nat :=
  match span with
  | 1 => c
  | _ => 2 * c

/-- The code that reaches the converter of output n: the code in force with its coefficients (15 R383). -/
def State.converterCode (s : State) (n : Nat) : Int :=
  correctedCode (s.coef (coefId 0x0C n)) (signed16 (s.coef (coefId 0x0B n))) (s.get (R.AOUT_OUT n))

/-- The voltage of output n in units of VREFA / 131,072, by the ideal span; none where it is high-impedance (15 R388).
The apron is a voltage whatever the span (R384), and the test codes of CAL are in UNI-FULL span (07 R192). -/
def State.outVolts (s : State) (n : Nat) : Option Nat :=
  match s.outState n with
  | 0 => none
  | 1 => some (if s.flag R.DEVICE_STRAPS_APRON then 65536 else 0)
  | 3 => some (if s.flag R.DEVICE_STRAPS_APRON then 65536 else 0)
  | 4 => some (spanVolts 0 (s.get (R.AOUT_OUT n)))
  | _ => some (spanVolts (s.get (R.AOUT_SPAN n)) (s.get (R.AOUT_OUT n)))

end Sys2Proof.Machine
end

