-- ==== Sys2Proof/Tests/Slice0.lean ====
section
/-!
SUPPORT. Tests of the model: for every statement with hypotheses a theorem shows a state and operands that meet them, one
for each clause; every check of WellFormed refuses an ill-formed command; and the spec's own examples come out.
-/

set_option Elab.async false

namespace Sys2Proof.Tests

open Sys2Proof Sys2Proof.Machine

/-! ### Small states -/

/-- A device that runs after its boot, with fields of registers at given values. -/
def live (l : List (Fld × Nat)) : State :=
  ([(R.DEVICE_BOOT_STAGE, 7), (R.DEVICE_STRAPS_SAMPLED, 1), (R.DEVICE_STRAPS_ROOT, 1)] ++ l).foldl
    (fun (s : State) (x : Fld × Nat) => s.set x.1 x.2) { State.reset with sup := { State.reset.sup with on := true, vioGood := true, portReady := true } }

/-- The state that a command answers. -/
def after (o : Host.Outcome State Fault Refusal) (s : State) : State :=
  match o with
  | .next t => t
  | _ => s

/-- A scanning device. -/
def scanning (l : List (Fld × Nat)) : State := { live l with scan := { Scan.reset with started := true } }

/-- Position `pos` of a ring of three devices, scanning between frames. -/
def ring (pos : Nat) (l : List (Fld × Nat)) : State :=
  { live ([(R.LINK_CFG_NDEV, 3), (R.DEVICE_STRAPS_ROOT, if pos = 0 then 1 else 0)] ++ l) with
    panel := ⟨List.replicate 3 (100, 96), pos, 3, [], [], []⟩
    scan := { Scan.reset with started := true } }

/-- A device whose engines all stand in a given state. -/
def engines (l : List (Fld × Nat)) (f : Engine → Engine) : State := { live l with engines := (live l).engines.map f }

/-- A device whose two-wire port has joined. -/
def joined (l : List (Fld × Nat)) : State := live ([(R.TWOWIRE_STAT_JOINED, 1), (R.TWOWIRE_CFG_GCEN, 1)] ++ l)

/-- A controller transfer runs: its operation and length. -/
def transfer (op len : Nat) : State :=
  { joined [(R.TWOWIRE_CSTAT_BUSY, 1)] with twi := { State.reset.twi with op := op, len := len } }

/-- A frame that has been scanned. -/
def scanned (force : List (Nat × Nat)) : FrameInfo :=
  ⟨0, 0, Tag.reset, 0, force, 0, false, 0, 0, 0, 0, 0, 0, 0, 0, false, false, true, [], 0, 0, [], ⟨[], [], [], [], []⟩⟩

/-- A measurement of the governor, a link configuration, frame parameters, a record of a sub-blob. -/
def someMeas : GovMeas := ⟨100, 3300, 100, [25, 25, 25, 25]⟩
def someConfig : LinkConfig := ⟨List.replicate 3 (100, 96), 2, [], [], 12345, true, false⟩
def someParams : Fparam := ⟨1, 0, 4, 4, 31, 5, 1, 1, 1, 0, 0, [], [], [], []⟩

/-! ### The hypotheses of the statements are met: the step, clear, NOP and acknowledge commands -/

theorem witness_step : ({ State.reset with pending := [.linkReset] } : State).pending = .linkReset :: []
    ∧ (let s := live [(R.CLOCK_TBSTAT_SRC, 0)]; s.pending = [] ∧ s.sup.on = true ∧ s.get R.CLOCK_TBSTAT_SRC = 0 ∧ s.flt.queue = []) := by
  (repeat' apply And.intro) <;> decide +kernel

theorem witness_CommandsKeepTheQueue : ∃ t, exec .vrefaReturn State.reset = .next t := ⟨_, rfl⟩

theorem witness_StepsKeepTheInvariant : State.reset.Inv ∧ ∃ t, step State.reset = .next t :=
  ⟨⟨by decide, by decide, fun c h => by cases h⟩, _, rfl⟩

/-- The registers that the statements name let a write of the host reach their fields. -/
theorem witness_Admits_host : ∀ x ∈ [(0x00, 0x30), (0x01, 0x20), (0x01, 0x30), (0x02, 0x28), (0x03, 0x20), (0x03, 0x28),
    (0x04, 0x20), (0x04, 0x40), (0x04, 0x5C), (0x04, 0x98), (0x04, 0xF0), (0x04, 0xF8), (0x05, 0x2C), (0x06, 0x30),
    (0x06, 0x38), (0x07, 0x24), (0x08, 0x3C), (0x08, 0x40), (0x10, 0x34), (0x13, 0x34), (0x14, 0x60), (0x14, 0x70),
    (0x15, 0x20), (0x15, 0x24), (0x15, 0x34), (0x16, 0x04), (0x16, 0x18), (0x18, 0x30), (0x19, 0x20), (0x19, 0x30),
    (0x1A, 0x54), (0x1B, 0x20), (0x1B, 0x2C), (0x1B, 0x50), (0x1C, 0x24), (0x1C, 0x2C), (0x1C, 0x38), (0x20, 0x24),
    (0x20, 0x28), (0x20, 0x34), (0x21, 0x2C), (0x30, 0x20), (0x4F, 0x20), (0x30, 0x3C), (0x50, 0x40), (0x60, 0x40),
    (0x63, 0xFC)], (live []).Admits .host x.1 x.2 := by
  decide +kernel

/-- A member of a ring and an engine whose gate is open may write there too; a TEST page that is unlocked takes writes. -/
theorem witness_Admits_others : (ring 1 []).Admits .link 0x1A 0x54 ∧ (live [(R.PCTRL_EN 0x1A, 1)]).Admits (.engine 31) 0x1A 0x54
    ∧ (joined []).Admits .twoWire 0x1A 0x54
    ∧ (live [(R.DEVICE_STRAPS_TESTEN, 1), (R.TEST_STAT_UNLOCKED, 1)]).Admits .host 0xF0 0x30
    ∧ (live [(R.DEVICE_STRAPS_TESTEN, 1), (R.TEST_STAT_UNLOCKED, 1)]).Admits .host 0xF0 0x28 := by
  (repeat' apply And.intro) <;> decide +kernel

theorem witness_NopCommandsChangeNothing : (live []).get R.NVS_STAT_BUSY = 0 ∧ (live []).get R.TWOWIRE_CSTAT_BUSY = 0
    ∧ (live []).get R.CAL_STAT_BUSY = 0 ∧ (live []).panel.pos = 0 ∧ (live []).isMember = false
    ∧ (live []).get R.LINK_RSTAT_BUSY = 0 ∧ (live []).st.kind ≠ 3 ∧ (live []).get R.FAULT_STSTAT_BUSY = 0
    ∧ (live []).pow.voting = none := by
  (repeat' apply And.intro) <;> decide +kernel

/-- A device with every unit busy, and a vote. -/
def busy : State :=
  { live [(R.NVS_STAT_BUSY, 1), (R.CAL_STAT_BUSY, 1), (R.LINK_RSTAT_BUSY, 1), (R.FAULT_STSTAT_BUSY, 1)] with
    pow := { Power.reset with voting := some .watch } }

theorem witness_BusyUnitsRefuseCommands : (busy.Admits .host 0x03 0x20 ∧ busy.get R.NVS_STAT_BUSY = 1)
    ∧ (busy.Admits .host 0x19 0x20 ∧ busy.get R.CAL_STAT_BUSY = 1)
    ∧ (busy.Admits .host 0x08 0x40 ∧ busy.panel.pos = 0 ∧ busy.isMember = false ∧ busy.get R.LINK_RSTAT_BUSY = 1)
    ∧ (busy.Admits .host 0x04 0x98 ∧ busy.get R.FAULT_STSTAT_BUSY = 1)
    ∧ (busy.Admits .host 0x01 0x20 ∧ busy.pow.voting ≠ none) := by
  (repeat' apply And.intro) <;> decide +kernel

/-! ### Supplies, resets and boot -/

theorem witness_Resets : ((live []).sup.on = true ∧ (live []).sup.vioGood = true ∧ 2000 ≤ 2000) ∧ (live []).Admits .host 0x00 0x30
    ∧ ((ring 2 []).up = true ∧ (ring 2 []).get R.DEVICE_STRAPS_SAMPLED = 1 ∧ (ring 2 []).get R.DEVICE_STRAPS_ROOT = 0)
    ∧ 499 < 500 ∧ (0 : BitVec 16) ≠ 0x5A1D ∧ (live []).nvs.running = none
    ∧ { Store.reset with prog := some ⟨.command, 5, []⟩ }.running = some 5 := by
  (repeat' apply And.intro) <;> decide +kernel

/-- A device whose oscillator has just started. -/
def starting : State := { State.reset with sup := { State.reset.sup with on := true, vioGood := true } }

/-- An image of 64 bytes without sections, by 03 R75: magic, version, length and its CRC-32. -/
def image : List (Nat × Byte) :=
  [(0, 0x49), (1, 0x42), (2, 0x4C), (3, 0x4F), (4, 1), (8, 64), (0x3C, 0xFB), (0x3D, 0x09), (0x3E, 0x80), (0x3F, 0xD8)]

/-- It starts with that image in a bank, and BOOTSEL names bank 0 with fallback. -/
def imaged (b : Nat) : State :=
  { starting with
    sup := { starting.sup with pins := { StrapPins.open with bootsel := some 0, root := false } }
    nvs := { Store.reset with cells := image.map fun x => (0x20000 * b + x.1, x.2) } }

theorem witness_PowerOnAndBoot : ({ State.reset with sup := { State.reset.sup with on := false } } : State).sup.on = false
    ∧ ((live []).sup.on = true ∧ (live []).sup.lockout = false)
    ∧ (∀ safe ∈ [false, true], let s : State := { starting with flt := { starting.flt with safe := safe } }
      s.up = true ∧ s.sup.vioGood = true ∧ s.get R.DEVICE_BOOT_STAGE = 0 ∧ s.sup.portReady = false ∧ s.sup.lockout = false
        ∧ s.flt.safe = safe)
    ∧ (let s : State := { live [] with sup := { (live []).sup with lockout := true } }
      s.sup.on = true ∧ s.sup.lockout = true ∧ s.sup.vioGood = true)
    ∧ ((imaged 0).up = true ∧ (imaged 0).sup.portReady = false ∧ (imaged 0).sup.lockout = false ∧ (imaged 0).flt.safe = false
      ∧ (imaged 0).get R.DEVICE_STRAPS_SAMPLED = 0 ∧ (imaged 0).sup.pins.bootsel = some 0 ∧ (imaged 0).verifyImage 0 = 0
      ∧ (imaged 0).sup.pins.root = false)
    ∧ ((imaged 1).sup.pins.bootsel = some 0 ∧ (imaged 1).verifyImage 0 ≠ 0 ∧ (imaged 1).verifyImage 1 = 0)
    ∧ (starting.get R.DEVICE_STRAPS_SAMPLED = 0 ∧ starting.flt.safe = false ∧ starting.imageFormatOk 0 = false
      ∧ starting.imageFormatOk 1 = false ∧ starting.sup.pins.bootsel = some 5) := by
  (repeat' apply And.intro) <;> decide +kernel

theorem witness_SupplyEvents : (starting.sup.on = true ∧ starting.get R.DEVICE_BOOT_STAGE = 0 ∧ starting.sup.portReady = false)
    ∧ (live [(R.DRIVE_STAT_VTXACT, 7), (R.DRIVE_STAT_VTXGOOD, 1)]).vinDrops 199 = true
    ∧ ((live []).up = true ∧ (live []).get R.DEVICE_STRAPS_SAMPLED = 1 ∧ (live []).sup.vioGood = true ∧ (live []).inRun = true
      ∧ (live []).pow.state = .run ∧ (live []).sup.pins.lfGnd = false)
    ∧ (let s : State := { live [] with pow := { Power.reset with state := .halt } }
      s.sup.on = true ∧ s.pow.state ≠ .run ∧ s.flt.safe = false ∧ s.sup.pins.lfGnd = false ∧ s.get R.CLOCK_LFCTL = 0)
    ∧ (let s : State := { starting with sup := { starting.sup with oscHeld := true } }
      s.sup.on = true ∧ s.sup.oscHeld = true ∧ s.sup.pins.lfGnd = false ∧ s.get R.CLOCK_LFCTL = 0) := by
  (repeat' apply And.intro) <;> decide +kernel

/-! ### Store, faults, TEST page, power -/

/-- The store with a command that is not complete, and its line under way. -/
def storing (j : Job) (l : Nat) : State :=
  { live [(R.NVS_STAT_BUSY, 1)] with nvs := { State.reset.nvs with job := some j, prog := some ⟨.command, l, []⟩ } }

theorem witness_NonvolatileStore : ((live []).Admits .host 0x03 0x20 ∧ (live []).get R.NVS_STAT_BUSY = 0
      ∧ (live []).nvs.prog = none)
    ∧ ((live []).get R.NVS_ADDR ∉ ((live []).flip ⟨[3], []⟩).nvs.torn ∧ (live []).get R.NVS_ADDR ∈ ((live []).flip ⟨[], [0]⟩).nvs.torn)
    ∧ (let s : State := { live [] with nvs := { State.reset.nvs with prog := some ⟨.background, 0x3000, []⟩ } }
      s.Admits .host 0x03 0x20 ∧ s.get R.NVS_STAT_BUSY = 0 ∧ s.nvs.prog ≠ none)
    ∧ ((live []).get R.DEVICE_BOOT_TRIAL = 0 ∧ (live [(R.DEVICE_BOOT_TRIAL, 1)]).get R.DEVICE_BOOT_TRIAL ≠ 0)
    ∧ ((live [(R.NVS_ADDR, 12288)]).get R.NVS_ADDR = 12288 ∧ (0 : BitVec 16) ≠ 0xB05A)
    ∧ ((live []).get R.DEVICE_BOOT_STAGE = 7 ∧ ∃ k l, (live []).freeSlots = k :: l)
    ∧ ((live [(R.NVS_ADDR, 0x1005)]).programRefusal 0x1005 = 0 ∧ lineBank 0x1005 = some 1)
    ∧ (let s := storing ⟨.saveConfig 3 ⟨1, 0, []⟩, 2⟩ 0x3003
      s.up = true ∧ s.nvs.prog = some ⟨.command, 0x3003, []⟩ ∧ s.nvs.job = some ⟨.saveConfig 3 ⟨1, 0, []⟩, 2⟩ ∧ 1 < 2
        ∧ s.cal.capture = none)
    ∧ (let s := storing ⟨.programLine 5 [], 1⟩ 5
      s.up = true ∧ s.nvs.prog = some ⟨.command, 5, []⟩ ∧ s.nvs.job = some ⟨.programLine 5 [], 1⟩ ∧ keyLine 5 = none
        ∧ 5 % 4096 ≠ 0 ∧ s.cal.capture = none)
    ∧ ({ live [] with nvs := { State.reset.nvs with relocOwed := true, ref := some ⟨1, [], [], []⟩ } } : State).relocDue = true
    ∧ (let s : State := { live [] with flt := { Faults.reset with plWait := [⟨⟨0x14, 0x08, 2, 0, 0, false⟩, false, 0, 0, 0⟩] } }
      s.inRun = true ∧ 2 ∉ s.pow.stopped ∧ 4 ≤ s.get R.DEVICE_BOOT_STAGE ∧ s.sup.lockout = false ∧ s.nvs.prog = none
        ∧ s.flt.plWait = ⟨⟨0x14, 0x08, 2, 0, 0, false⟩, false, 0, 0, 0⟩ :: []) :=
  ⟨by decide +kernel, by decide +kernel, by decide +kernel, by decide +kernel, by decide +kernel, ⟨by decide +kernel, _, _, rfl⟩,
    by decide +kernel, by decide +kernel, by decide +kernel, by decide +kernel, by decide +kernel⟩

theorem witness_FaultCollector : (0 : BitVec 16) ≠ 0x10C5 ∧ ((live []).sup.on = true ∧ (live []).pow.lfStopped = false)
    ∧ (let s : State := { live [] with flt := { Faults.reset with queue := [⟨0x14, 0x08, 2, 0, 0, false⟩] } }
      s.sup.on = true ∧ s.pow.lfStopped = false ∧ s.flt.queue = [⟨0x14, 0x08, 2, 0, 0, false⟩])
    ∧ ((live []).inRun = true ∧ (live []).flt.safe = false ∧ 159 ∉ (live []).scan.txOff) := by
  (repeat' apply And.intro) <;> decide +kernel

theorem witness_TestPage : (let s := live [(R.DEVICE_STRAPS_TESTEN, 1)]
      s.mayWrite .host = true ∧ s.discards .host 0xF0 0x20 = false ∧ s.testOpen = false ∧ s.testKeyOpen = true
      ∧ tbDiff s.pow.tb (tbMod - 1000) ≤ 1000)
    ∧ sourceListed 0x14 = true ∧ (kindTable.any fun r => r.kind = 0x08) = true := by
  (repeat' apply And.intro) <;> decide +kernel

/-- A device that votes for WATCH, and one that sleeps. -/
def voting : State := { live [] with pow := { Power.reset with voting := some .watch } }
def sleeping : State := { live [(R.PWR_WAKEEN, 15), (R.PWR_TIMER, 5)] with pow := { Power.reset with state := .watch } }

theorem witness_PowerManager : ((0 : BitVec 16) ≠ 0x9A17 ∧ (live []).pow.voting = none)
    ∧ ((live [(R.DEVICE_BOOT_STAGE, 5)]).Admits (.engine 0) 0x01 0x20 ∨ (live [(R.DEVICE_BOOT_STAGE, 8)]).Admits .host 0x01 0x20)
    ∧ ((live []).get R.DEVICE_BOOT_STAGE = 7 ∧ (live []).flt.safe = false ∧ (live []).inCascade = false
      ∧ (live []).wakeActive = false)
    ∧ (let s : State := { live [(R.PWR_WAKEEN, 1)] with pow := { Power.reset with wakereq := true } }
      s.Admits .host 0x01 0x20 ∧ s.wakeActive = true)
    ∧ (voting.inRun = true ∧ voting.flt.safe = false ∧ voting.pow.voting = some .watch ∧ voting.frameCommitted = true)
    ∧ (let s : State := { live [(R.AOUT_STAT_ST 0, 4)] with pow := { Power.reset with voting := some .watch, refusal := some (0, 1) } }
      s.inRun = true ∧ s.pow.voting = some .watch ∧ s.nextDomain = some 5 ∧ s.voter 5 true false true = some 1)
    ∧ (let s : State := { voting with pow := { voting.pow with refusal := some (0, 1) } }
      s.inRun = true ∧ s.pow.voting = some .watch ∧ s.nextDomain = some 5 ∧ s.voter 5 false true false = none)
    ∧ (let s : State := { voting with pow := { voting.pow with stopped := voteOrder } }
      s.inRun = true ∧ s.flt.safe = false ∧ s.pow.voting = some .watch ∧ s.nextDomain = none ∧ s.wakeActive = false
        ∧ s.pow.retain = false)
    ∧ (let s : State := { voting with pow := { voting.pow with stopped := voteOrder, retain := true } }
      s.nextDomain = none ∧ s.wakeActive = false ∧ s.pow.retain = true)
    ∧ (blockFields.any fun f => f.acc = .rw) = true ∧ (blockFields.any fun f => f.acc = .w1c) = true := by
  (repeat' apply And.intro) <;> decide +kernel

theorem witness_WakeAndNightcap : (sleeping.asleep = true ∧ sleeping.pow.windowOpen = false ∧ sleeping.pow.waking = false
      ∧ sleeping.pow.voting = none ∧ (sleeping.get R.PWR_WAKEEN).testBit 0 = true ∧ (sleeping.get R.PWR_WAKEEN).testBit 1 = true
      ∧ (sleeping.get R.PWR_WAKEEN).testBit 3 = true ∧ sleeping.pow.lfStopped = false ∧ sleeping.sup.vioGood = true
      ∧ sleeping.get R.PWR_TIMER ≠ 0 ∧ sleeping.pow.state = .watch)
    ∧ (let s : State := { sleeping with pow := { sleeping.pow with lfStopped := true, lfstop := true } }
      s.asleep = true ∧ s.pow.windowOpen = false ∧ s.pow.waking = false ∧ s.pow.voting = none ∧ s.pow.lfStopped = true)
    ∧ (let s : State := { sleeping with pow := { sleeping.pow with windowOpen := true } }
      s.asleep = true ∧ s.pow.windowOpen = true)
    ∧ (let s : State := { sleeping with pow := { sleeping.pow with waking := true } }
      s.asleep = true ∧ s.pow.waking = true ∧ s.pow.lfstop = false ∧ s.flt.queue = [])
    ∧ ((live [(R.PWR_WAKEEN, 14)]).get R.PWR_WAKEEN).testBit 0 = false ∧ (live []).mayWrite .host = true := by
  (repeat' apply And.intro) <;> decide +kernel

/-! ### The register fabric, scan control, calibration -/

theorem witness_RegisterWrites : State.reset.mayWrite .host = false
    ∧ (let s : State := { live [] with flt := { Faults.reset with safe := true } }
      s.mayWrite .host = true ∧ s.discards .host 0x1A 0x54 = true)
    ∧ (let s := live [(R.DEVICE_BOOT_STAGE, 6)]
      s.mayWrite .host = true ∧ s.discards .host 0x15 0x20 = false ∧ s.early = true ∧ earlyPage 0x15 = false)
    ∧ pageAssigned 0xFF = false ∧ (0x60 = (0x60FF : Addr).toNat / 256 ∧ 0xFC = (0x60FF : Addr).toNat % 256 / 4 * 4)
    ∧ (let s := live [(R.PCTRL_EN 0x1A, 0)]
      s.mayWrite (.engine 0) = true ∧ s.discards (.engine 0) 0x1A 0x54 = false ∧ s.get (R.PCTRL_EN 0x1A) = 0)
    ∧ (let s := live [(R.PLOCK_LOCKED 0x16, 1)]
      s.mayWrite .host = true ∧ s.discards .host 0x16 0x20 = false ∧ s.early = false ∧ pageAssigned 0x16 = true
        ∧ s.get (R.PLOCK_LOCKED 0x16) = 1 ∧ lockedOffset 0x20 = true) := by
  (repeat' apply And.intro) <;> decide +kernel

/-- A field of a slice with a reserved value, with its largest legal one, and one that waits for scanning to stop. -/
theorem witness_RegisterWrites_fields : (∀ p ∈ [0x10, 0x13, 0x16], ∃ f ∈ plainFields p, f.acc = .rw ∧ (live []).Admits .host p f.off)
    ∧ (∃ f ∈ plainFields 0x16, f.acc = .rw ∧ ∃ v < 2 ^ f.width, f.legal v = false)
    ∧ ∃ f ∈ plainFields 0x10 ++ plainFields 0x16, f.acc = .rw ∧ f.cls = .k ∧ f.legal f.hi = true
      ∧ (live [(R.SCAN_STAT_SCANNING, 1)]).flag R.SCAN_STAT_SCANNING = true := by
  decide +kernel

theorem witness_PageHeaderCommands : (brstBarred 0x00 = true ∧ (live []).Admits .host 0x00 4)
    ∧ (live []).flag R.SCAN_STAT_SCANNING = false
    ∧ ((scanning [(R.SCAN_STAT_SCANNING, 1)]).running 0x16 = true ∧ (live []).running 0x16 = false)
    ∧ ((ring 1 []).Admits .host 0x15 4 ∧ (ring 1 []).follows = true ∧ (live []).follows = false)
    ∧ (let s := live [(R.SCAN_CTL_MODE, 1)]
      s.Admits .host 0x15 4 ∧ s.running 0x15 = false ∧ s.get R.SCAN_CTL_MODE < 4 ∧ s.get R.SCAN_CTL_MODE ≠ s.mode)
    ∧ (let s := live [(R.DRIVE_FTAB_DHI 1, 400)]
      s.Admits .host 0x16 4 ∧ s.running 0x16 = false)
    ∧ (0 : BitVec 16) ≠ 0x4C4B := by
  (repeat' apply And.intro) <;> decide +kernel

theorem witness_ScanConfiguration : (let s := live []
      s.get R.SCAN_CTL_MODE < 4 ∧ s.get R.SCAN_CTL_HOLD < 2 ∧ s.inCascade = false ∧ s.follows = false)
    ∧ ((ring 1 []).Admits .host 0x15 0x20 ∧ (ring 1 []).Admits .host 0x15 0x24 ∧ (ring 1 []).get R.SCAN_CTL_HOLD < 2
      ∧ (ring 1 []).follows = true ∧ (1 : BitVec 2) ≠ 2 ∧ (ring 1 []).get R.SCAN_CTL_MODE ≠ (1 : BitVec 2).toNat)
    ∧ (let s := live [(R.SCANTABLE_WBASE 3, 208)]
      s.Admits .host 0x63 (0x40 + 4 * 47) ∧ s.get (R.SCANTABLE_WBASE 3) + 47 < 256 ∧ s.running 0x63 = false)
    ∧ (let s := live [(R.SCANTABLE_WBASE 3, 209)]
      s.Admits .host 0x63 (0x40 + 4 * 47) ∧ 256 ≤ s.get (R.SCANTABLE_WBASE 3) + 47)
    ∧ (live []).running (0x60 + (live []).selected) = true
    ∧ ((live []).get R.SCAN_CTL_MODE = 0 ∧ (live []).get R.SCAN_CTL_MODE ≠ 3)
    ∧ (let s := live []
      tmapTable s.tmap 0 = s.selected ∧ ∃ m < 4, tmapTable s.tmap m ≠ s.selected ∧ (s.checkTable (tmapTable s.tmap m) s.tmap).1 ≠ 0)
    ∧ (let s := scanning []
      s.Admits .host 0x15 0x20 ∧ s.get R.SCAN_CTL_HOLD = 0 ∧ s.scan.started = true)
    ∧ (let s : State := { scanning [] with scan := { Scan.reset with started := true, phase := .word } }
      s.scan.started = true ∧ s.scan.phase ≠ .ended ∧ s.scan.phase ≠ .idle)
    ∧ (let s := live [(R.SCAN_CTL_HOLD, 1)]
      s.get R.SCAN_CTL_HOLD = 1 ∧ s.scan.started = false ∧ s.inRun = true ∧ s.sup.lockout = false
        ∧ s.get R.DEVICE_BOOT_STAGE = 7) := by
  (repeat' apply And.intro) <;> decide +kernel

/-- A calibration of an operation runs. -/
def calibrating (op : Nat) (c : Cal) : State := { scanning [(R.CAL_STAT_BUSY, 1), (R.CAL_STAT_OP, op)] with cal := c }

/-- The capture of a reference image has `n` frames left. -/
def capturing (n : Nat) : Capture := ⟨n, 5, [], Tag.reset, 0, false, [], [], false, none⟩

theorem witness_BaselinesAndCalibration : ((live []).get R.DEVICE_BOOT_STAGE = 7
      ∧ (live [(R.DEVICE_BOOT_STAGE, 8)]).Admits .host 0x18 0x30 ∧ (live [(R.DEVICE_BOOT_STAGE, 8)]).get R.DEVICE_BOOT_STAGE ≠ 7)
    ∧ ((live []).get R.CAL_STAT_BUSY = 0 ∧ 0 < (15 : Byte).toNat ∧ (15 : Byte).toNat < 16)
    ∧ (List.range 8).find? (bit (0x80 : Byte).toNat) = some 7 ∧ (live []).inCascade = false
    ∧ (calibrating 1 Cal.reset).get R.CAL_STAT_BUSY = 1
    ∧ ((255 : Byte).toNat ≥ itemSize 0 ∧ ∃ i < 256, 0 < itemSize i)
    ∧ (let s : State := calibrating 1 { Cal.reset with slot := [0], slotFrame := 1 }
      s.up = true ∧ s.get R.CAL_STAT_BUSY = 1 ∧ s.get R.CAL_STAT_OP = 1 ∧ s.cal.abort = false ∧ s.slotOver false = true
        ∧ s.get R.CAL_STAT_PROG < 3)
    ∧ (let s := calibrating 2 Cal.reset
      s.up = true ∧ s.get R.CAL_STAT_BUSY = 1 ∧ s.get R.CAL_STAT_OP = 2 ∧ s.cal.abort = false ∧ s.bgRuns = false
        ∧ s.cal.capture = none)
    ∧ (let s := calibrating 3 { Cal.reset with arg := 0x80 }
      s.up = true ∧ s.get R.CAL_STAT_BUSY = 1 ∧ s.get R.CAL_STAT_OP = 3 ∧ s.cal.abort = false ∧ s.calOutput = some 7
        ∧ s.cal.outPhase = 0 ∧ s.bgRuns = false ∧ s.flt.safe = false ∧ s.sup.lockout = false)
    ∧ (∀ st ∈ [1, 2, 3], ((calibrating 3 { Cal.reset with arg := 0x80 }).set (R.AOUT_STAT_ST 7) st).outState 7 = st
      ∧ ((calibrating 3 { Cal.reset with arg := 0x80 }).set (R.AOUT_STAT_ST 7) st).calOutput = some 7)
    ∧ (let s := calibrating 4 { Cal.reset with capture := some (capturing 2) }
      s.up = true ∧ s.get R.CAL_STAT_BUSY = 1 ∧ s.get R.CAL_STAT_OP = 4 ∧ s.cal.capture = some (capturing 2)
        ∧ s.scan.frame ≠ (capturing 2).frame ∧ s.get R.DEVICE_BOOT_STAGE = 7 ∧ s.scan.started = true
        ∧ (capturing 2).fail ≠ 1 ∧ 1 < (capturing 2).left ∧ (capturing 2).writing = false ∧ s.bgRuns = false)
    ∧ (let s : State := { scanning [(R.CAL_SCHED_PERIOD, 1)] with cal := { Cal.reset with bgTb := tbMod - 1000000 } }
      s.inRun = true ∧ s.scan.started = true ∧ s.slotOver true = false ∧ s.bgMay = true)
    ∧ (let s : State := { scanning [] with cal := { Cal.reset with slot := [0], slotBg := true, slotStep := 2 } }
      s.inRun = true ∧ s.scan.started = true ∧ s.slotOver true = true ∧ s.cal.slotStep < 3) := by
  (repeat' apply And.intro) <;> decide +kernel

/-- Whatever the factory's code, some code is far from it; where the factory's code is of 8 bits, one is near it. -/
theorem witness_lfTrim_codes (f : Int) : (∃ c : BitVec 8, 8 < (c.toInt - f).natAbs)
    ∧ (-128 ≤ f → f < 128 → ∃ c : BitVec 8, (c.toInt - f).natAbs ≤ 8) := by
  refine ⟨?_, fun h h' => ⟨BitVec.ofInt 8 f, ?_⟩⟩
  · by_cases h : f < 0
    · exact ⟨127, by have : (127 : BitVec 8).toInt = 127 := by decide
                     omega⟩
    · exact ⟨128, by have : (128 : BitVec 8).toInt = -128 := by decide
                     omega⟩
  · rw [BitVec.toInt_ofInt, Int.bmod_def]
    omega

/-! ### Analogue outputs, self-test, engines, controls, host port -/

/-- A device whose outputs are live. -/
def outputsLive (l : List (Fld × Nat)) : State := live ((List.range 8).map (fun n => (R.AOUT_STAT_ST n, 2)) ++ l)

theorem witness_AnalogueOutputs : ((live []).flt.safe = false ∧ (live []).get R.DEVICE_BOOT_STAGE = 7 ∧ (live []).inRun = true
      ∧ (live []).sup.lockout = false)
    ∧ ((∀ n < 8, (outputsLive []).outState n = 2) ∧ ∃ a < 4, a ≠ 1 ∧ a ≠ 2)
    ∧ ((outputsLive [(R.AOUT_CTL_SRCA, 0)]).strobeSource 0 = 0 ∧ (outputsLive [(R.AOUT_CTL_SRCB, 1)]).strobeSource 1 ≠ 0)
    ∧ ((0xFFFF : BitVec 16).toNat / 4 ^ 7 % 4 = 3 ∧ (0x8000 : BitVec 16).toNat / 4 ^ 7 % 4 = 2)
    ∧ ((live [(R.AOUT_STAT_ST 7, 3)]).outState 7 = 3 ∧ (outputsLive []).outState 7 ≠ 0 ∧ (outputsLive []).pd5 = true
      ∧ (live []).pd5 = true ∧ (outputsLive []).flt.safe = false)
    ∧ (let s := live [(R.AOUT_FLT_SHORT, 0x80), (R.AOUT_STAT_AVOGOOD, 1)]
      (s.get R.AOUT_FLT_SHORT).testBit 7 = true ∧ (s.get R.AOUT_FLT_SHORT).testBit 0 = false
        ∧ s.get R.AOUT_STAT_AVOGOOD = 1 ∧ s.pd5 = true)
    ∧ (live []).get R.AOUT_STAT_AVOGOOD = 0 := by
  (repeat' apply And.intro) <;> decide +kernel

theorem witness_SelfTestCommands : ((live []).st.kind = 0 ∧ (live []).get R.FAULT_STSTAT_BUSY = 0)
    ∧ (let s : State := { live [(R.FAULT_STCFG_QPERIOD, 1)] with st := { SelfTest.reset with lastTb := tbMod - 1000000 } }
      s.quickDue = true)
    ∧ (let s : State := { live [] with st := { SelfTest.reset with kind := 2 } }
      s.st.kind ≠ 3 ∧ s.st.request ≠ 1 ∧ (s.st.kind = 1 ∨ s.st.kind = 2) ∧ (s.scan.phase = .ended ∨ s.scan.phase = .idle))
    ∧ (let s : State := { live [] with st := { SelfTest.reset with kind := 1 }, scan := { Scan.reset with phase := .word } }
      s.st.kind ≠ 3 ∧ s.st.request ≠ 1 ∧ (s.st.kind = 1 ∨ s.st.kind = 2) ∧ s.scan.phase ≠ .ended ∧ s.scan.phase ≠ .idle)
    ∧ (let s : State := { live [] with st := { SelfTest.reset with request := 1 } }
      s.st.kind ≠ 3 ∧ s.st.request = 1) := by
  (repeat' apply And.intro) <;> decide +kernel

theorem witness_EngineDebugCommands : (let s := engines [] fun g => { g with state := .halted }
      s.Admits .host 0x4F 0x20 ∧ 31 < s.engines.length ∧ s.breakBits 31 < 32 ∧ (s.eng 31).state = .halted
        ∧ s.engIdle 31 = true ∧ s.heldTask 31 = none ∧ (s.eng 31).late = [] ∧ Memory.wf (s.eng 31).ram = true)
    ∧ (let s := engines [] fun g => { g with state := .run }
      (s.eng 0).state = .run ∧ (s.eng 0).core.pre = none ∧ s.engIdle 0 = false)
    ∧ (engines [] fun g => { g with state := .parked }).breakBits 0 < 32
    ∧ ((engines [] fun g => { g with state := .parked }).eng 0).state = .parked
    ∧ (let s := engines [(R.ENG_CTL_HALT 31, 1)] fun g => { g with state := .sleep }
      s.Admits .host 0x4F 0x20 ∧ s.engIdle 31 = false ∧ s.get (R.ENG_CTL_HALT 31) = 1 ∧ (s.eng 31).state = .sleep)
    ∧ (let s : State := { engines [] fun g => { g with state := .halted } with
        disp := { Disp.reset with tasks := [⟨1, 0, 0, 0, 0, 0, 0, 0, 0, 0, 0, .running 31⟩] } }
      s.engIdle 31 = true ∧ (s.heldTask 31).isSome = true)
    ∧ (reqEngine .host = false ∧ (live []).mayWrite .host = true)
    ∧ (let s := engines [(R.ENG_CTL_BP1EN 31, 1)] fun g => { g with state := .run }
      s.inRun = true ∧ 31 < s.engines.length ∧ s.stopsAt 31 = true) := by
  (repeat' apply And.intro) <;> decide +kernel

theorem witness_ControlCommands : ((live [(R.VCTRL_SEL, 15)]).get R.VCTRL_SEL < 16 ∧ (1 : Fin 6) ≠ 0
      ∧ (live [(R.VCTRL_SEL, 15)]).get (R.VCTRL_DEF_TYPE 15) = 0 ∧ 4 ≤ (5 : Fin 6).val)
    ∧ ((∀ f ∈ controlFields 15, f.off = 0x24 → f.legal (f.of (0 : Word).toNat) = true) ∧ (0 : Word).toNat % 8 = 0)
    ∧ (let s := live [(R.VCTRL_DEF_TYPE 0, 1), (R.VCTRL_RECTA_X0 0, 10), (R.VCTRL_RECTA_Y0 0, 20)]
      s.get (R.VCTRL_DEF_TYPE 0) ≠ 0 ∧ s.get (R.VCTRL_DEF_TYPE 0) ≠ 3
        ∧ s.get (R.VCTRL_RECTA_X0 0) < (0x0015000B : Word).toNat % 65536
        ∧ s.get (R.VCTRL_RECTA_Y0 0) < (0x0015000B : Word).toNat / 65536
        ∧ (0x0015000A : Word).toNat % 65536 ≤ s.get (R.VCTRL_RECTA_X0 0)) := by
  (repeat' apply And.intro) <;> decide +kernel

theorem witness_HostPort : ((live []).hostAnswers = true ∧ (3 : Addr).toNat % 4 ≠ 0 ∧ (0xFFFC : Addr).toNat % 4 = 0
      ∧ [(1 : Byte), 2, 3].length < 4 ∧ (live []).underrun 0 = false ∧ windowQueue 0 = none ∧ (0 : Byte).toNat ∉ [0x02, 0x04, 0x0A, 0xFF])
    ∧ (0x1B8C % 4 = 0 ∧ windowQueue 0x1B8C = some 3)
    ∧ (let s : State := { live [] with queues := List.replicate 4 ⟨[[1, 2, 3]], 0⟩ }
      s.queue 3 = ⟨[1, 2, 3] :: [], 0⟩ ∧ ([1, 2, 3] : List Byte) ≠ [])
    ∧ State.reset.hostAnswers = false := by
  (repeat' apply And.intro) <;> decide +kernel

/-! ### The two-wire port and the link -/

theorem witness_TwoWireTarget : ((live []).sup.vioGood = true ∧ (live []).twiPowered = true)
    ∧ ((joined []).twiTarget = true ∧ (60 : BitVec 7).toNat = (joined []).twiAddress ∧ (joined []).flt.safe = false
      ∧ (joined []).twi.buf.holdAddr = noReg ∧ (joined []).get R.TWOWIRE_CFG_GCEN = 1 ∧ (joined []).twiReady = true
      ∧ (0x14 : Byte) ≠ 4 ∧ (0x14 : Byte) ≠ 6)
    ∧ ((0xFE : Byte).toNat % 4 ≠ 3 ∧ (0xFF : Byte).toNat % 4 = 3)
    ∧ (let s := joined [(R.TWOWIRE_PTR, 0x1AFC)]
      s.twiTarget = true ∧ s.get R.TWOWIRE_PTR = 256 * 0x1A + 0xFC ∧ 0xFC % 4 = 0)
    ∧ (61 : BitVec 7).toNat ≠ (joined []).twiAddress ∧ State.reset.twiTarget = false := by
  (repeat' apply And.intro) <;> decide +kernel

theorem witness_WritesTo : WritesTo (joined []) 0x14 (.twiTargetWrite 60) ∧ WritesTo (joined []) 0x14 .twiGeneralCall
    ∧ (let s : State := { joined [] with
        twi := { State.reset.twi with buf := { State.reset.twi.buf with holdAddr := 0x1420, held := [(0, 7), (1, 8), (2, 9)] } } }
      s.twiTarget = true ∧ s.flt.safe = false ∧ s.twi.buf.holdAddr = 256 * 0x14 + 0x23 / 4 * 4
        ∧ s.twi.buf.held = [(0, (7 : Byte).toNat), (1, (8 : Byte).toNat), (2, (9 : Byte).toNat)]) :=
  ⟨⟨by decide +kernel, .inl ⟨60, by decide +kernel, rfl⟩⟩,
    ⟨by decide +kernel, .inr ⟨by decide +kernel, by decide +kernel, by decide +kernel, rfl⟩⟩, by decide +kernel⟩

theorem witness_TwoWireController : ((joined []).Admits .host 0x06 0x38 ∧ 1 ≤ (32 : BitVec 6).toNat ∧ (32 : BitVec 6).toNat ≤ 32
      ∧ 8 ≤ (0x77 : BitVec 7).toNat ∧ (0x77 : BitVec 7).toNat ≤ 0x77 ∧ (joined []).get R.TWOWIRE_CSTAT_BUSY = 0
      ∧ (joined []).flt.safe = false)
    ∧ (∀ op ∈ [1, 2, 3], (transfer op 1).twiRuns op = true ∧ (transfer op 1).twi.len ≤ 32
      ∧ (transfer op 1).get R.TWOWIRE_STAT_JOINED = 1 ∧ (transfer op 1).twi.tries = 0
      ∧ [(7 : Byte)].length = (transfer op 1).twi.len)
    ∧ ((transfer 1 1).Admits .host 0x06 0x38 ∧ (transfer 1 1).get R.TWOWIRE_CSTAT_BUSY = 1 ∧ (transfer 1 1).twiActive = true
      ∧ (transfer 1 1).get R.TWOWIRE_CSTAT_WBUSY = 0)
    ∧ (let s : State := { joined [] with twi := { State.reset.twi with wmsg := [0] } }
      s.up = true ∧ s.twi.wmsg ≠ [] ∧ s.get R.TWOWIRE_CSTAT_BUSY = 0 ∧ s.get R.TWOWIRE_CSTAT_WBUSY = 0 ∧ s.flt.safe = false)
    ∧ (let s := joined [(R.TWOWIRE_CSTAT_WBUSY, 1)]
      s.twiPowered = true ∧ s.get R.TWOWIRE_CSTAT_WBUSY = 1 ∧ s.get R.TWOWIRE_STAT_JOINED = 1) := by
  (repeat' apply And.intro) <;> decide +kernel

/-- A ROOT whose map is filled in, at a stage of discovery. -/
def discovering (stage : Nat) (boot : Nat := 7) : State :=
  { live ([(R.LINK_CFG_NDEV, 3), (R.LINK_STAT_STATE, stage), (R.LINK_PORT_UPST, 2), (R.LINK_PORT_DNST, 2), (R.DEVICE_BOOT_STAGE, boot)]
    ++ (List.range 3).flatMap fun k => [(R.LINK_MAP_NTX k, 100), (R.LINK_MAP_NRX k, 96)]) with
    panel := ⟨List.replicate 3 (100, 96), 0, 3, [], [], []⟩ }

theorem witness_Discovery : ((discovering 0 5).discMay = true ∧ (discovering 0 5).get R.DEVICE_BOOT_STAGE = 5
      ∧ mapFault (discovering 0 5).mapRegs = none)
    ∧ ((discovering 0).discMay = true ∧ (discovering 0).get R.DEVICE_BOOT_STAGE = 7
      ∧ aloneMap (discovering 0).panel.map = false)
    ∧ (let s := live ([(R.DEVICE_BOOT_STAGE, 5), (R.LINK_CFG_NDEV, 8)] ++ (List.range 8).map fun k => (R.LINK_MAP_NTX k, 160))
      s.discMay = true ∧ s.get R.DEVICE_BOOT_STAGE = 5 ∧ (mapFault s.mapRegs).isSome = true)
    ∧ ((discovering 1).inRun = true ∧ (discovering 1).flt.safe = false ∧ (discovering 1).isMember = false
      ∧ (discovering 1).get R.LINK_STAT_STATE = 1 ∧ (discovering 1).get R.LINK_PORT_UPST = 2)
    ∧ ((discovering 2).get R.LINK_STAT_STATE = 2 ∧ (2 : Fin 8) ≠ 0 ∧ (2 : Fin 8) < (discovering 2).panel.ndev
      ∧ (discovering 2).get R.LINK_STAT_RING = 0 ∧ (discovering 2).isLive Kind.rootConflict = false)
    ∧ (let s : State := { discovering 2 with link := { State.reset.link with reached := [1, 2] } }
      s.link.reached = [1] ++ [2])
    ∧ ((1 : Fin 8) ≠ 0 ∧ 0 < (1 : Fin 8).val ∧ (1 : Fin 8).val < (3 : Fin 9).val ∧ (live [(R.DEVICE_STRAPS_ROOT, 0)]).isMember = true
      ∧ (live [(R.DEVICE_STRAPS_ROOT, 0)]).inCascade = false)
    ∧ (let s : State := { discovering 3 with
        link := { State.reset.link with reached := [1], confd := [] }, pow := { Power.reset with tb := 0x7FFFFFFFFFFF } }
      s.discOver = true ∧ 2 ∈ s.others ∧ 2 ∉ s.link.confd)
    ∧ ((discovering 3).get R.LINK_STAT_STATE = 3 ∧ ∀ p ∈ (discovering 3).link.reached, p ∈ (discovering 3).link.confd)
    ∧ ((ring 2 []).inRun = true ∧ (ring 2 []).flt.safe = false ∧ (ring 2 []).isMember = true
      ∧ (ring 2 [(R.DEVICE_BOOT_STAGE, 5)]).get R.DEVICE_BOOT_STAGE = 5 ∧ (Instr.config someConfig).wf = true
      ∧ someConfig.pos ≠ 0 ∧ (ring 2 []).get R.DEVICE_BOOT_STAGE = 7 ∧ (ring 2 []).scan.started = true
      ∧ someConfig.acquire = false ∧ someConfig.ring = true ∧ (ring 2 []).get R.SCAN_CTL_MODE ≠ 2 ∧ (ring 2 []).get R.LINK_STAT_STATE < 4
      ∧ (∀ p ∈ [(1 : Fin 8), 7], p ≠ 0) ∧ (discovering 1).get R.LINK_PORT_DNST = 2) := by
  (repeat' apply And.intro) <;> decide +kernel

/-- Position `pos` of a ring in the middle of a frame. -/
def ringScan (pos : Nat) (l : List (Fld × Nat)) : State :=
  { ring pos l with scan := { Scan.reset with started := true, phase := .word } }

theorem witness_LinkSupervision : ((ring 0 []).inRun = true ∧ (ring 0 []).inCascade = true ∧ (ring 0 []).panel.pos = 0
      ∧ (2 : Fin 8) ≠ 0 ∧ (2 : Fin 8) < (ring 0 []).panel.ndev ∧ 2 ∉ (ring 0 []).link.lost ∧ (ring 0 []).scan.phase = .idle)
    ∧ ((ringScan 1 []).panel.pos ≠ 0 ∧ (ringScan 1 []).inCascade = true ∧ (ringScan 1 []).scan.phase ≠ .idle
      ∧ (ringScan 1 []).scan.phase ≠ .ended)
    ∧ (let s : State := { ring 0 [] with link := { State.reset.link with shadow := [(2, 0)] } }
      s.inRun = true ∧ s.inCascade = true ∧ s.panel.pos = 0 ∧ (2, 0) ∈ s.link.shadow)
    ∧ (let s := ring 0 [(R.LINK_PORT_UPST, 2), (R.LINK_PORT_DNST, 2), (R.LINK_STAT_RING, 1), (R.LINK_STAT_STATE, 4)]
      s.inRun = true ∧ s.get (portState 0) ≠ 0 ∧ s.get R.LINK_STAT_RING = 1 ∧ s.inCascade = true ∧ s.panel.pos = 0
        ∧ s.get R.LINK_STAT_STATE = 4)
    ∧ (1 - (0 : Fin 2).val ∈ (ring 1 [(R.LINK_PORT_UPST, 2), (R.LINK_PORT_DNST, 2)]).portsUp)
    ∧ ((discovering 1).get (portState 1) ≠ 0 ∧ (live [(R.LINK_CFG_NDEV, 2)]).get (portState 0) ≠ 2
      ∧ (live [(R.LINK_CFG_NDEV, 2)]).cascadeWired = true) := by
  (repeat' apply And.intro) <;> decide +kernel

theorem witness_FramesAndHopsOverTheLink : ((ring 1 []).inRun = true ∧ (ring 1 []).flt.safe = false ∧ (ring 1 []).inCascade = true
      ∧ (ring 1 []).panel.pos ≠ 0 ∧ (ring 1 []).scan.started = true ∧ (ring 0 []).flt.safe = false)
    ∧ ((ring 0 []).panel.pos = 0 ∧ (ring 0 []).scan.phase = .idle ∧ (ring 0 []).lf.fp = none ∧ (ring 0 []).scan.started = true)
    ∧ aget 0 R.SCAN_CTL_HOLD.key someParams.fields = 0
    ∧ (let s : State := { ring 0 [] with scan := { Scan.reset with started := true, fresh := false, startTb := 1000, period := 38 } }
      s.inCascade = true ∧ s.panel.pos = 0 ∧ s.scan.started = true ∧ s.scan.stopping = false ∧ s.scan.fresh = false
        ∧ s.lf.sync = none ∧ s.lf.tbLoad = none ∧ 38 ≤ s.scan.startFrac + s.scan.period
        ∧ tbDiff (s.scan.startTb + (s.scan.startFrac + s.scan.period - 38) / 96) s.pow.tb < 0x800000000000)
    ∧ (let s : State := { ringScan 0 [] with lf := { State.reset.lf with acks := [1], miss := [(2, 6)] } }
      s.scan.phase ≠ .idle ∧ s.scan.phase ≠ .ended ∧ s.scan.abandoned = false ∧ s.lf.fp = none ∧ s.missingAcks = [2]
        ∧ aget 0 2 s.lf.miss < 7 ∧ s.inCascade = true ∧ s.panel.pos = 0)
    ∧ (let s : State := { ring 0 [(R.DRIVE_STAT_BURST, 1)] with scan := { Scan.reset with phase := .word, sub := 1 } }
      s.panel.pos = 0 ∧ s.get R.DRIVE_STAT_BURST = 1 ∧ s.scan.settle = 0 ∧ s.scan.sub = 0 + 1)
    ∧ (let s : State := { ring 1 [(R.DRIVE_STAT_BURST, 1)] with scan := { Scan.reset with phase := .word, sub := 1 } }
      s.panel.pos ≠ 0 ∧ s.get R.DRIVE_STAT_BURST = 1 ∧ s.scan.settle = 0 ∧ s.scan.sub = 0 + 1 ∧ s.scan.sub ≤ 1) := by
  (repeat' apply And.intro) <;> decide +kernel

theorem witness_CuffsAndLists : (let s := ring 1 [(R.LINK_PORT_UPST, 2), (R.LINK_PORT_DNST, 2)]
      s.inRun = true ∧ s.flt.safe = false ∧ s.cuffLink 0 = true ∧ s.cuffLink 1 = true
        ∧ (0 : BitVec 16).toNat = s.scan.frame % 65536 ∧ Memory.wf s.fmem = true ∧ s.cuffWaited 0 = false ∧ s.cuffWaited 1 = false)
    ∧ (let s : State := { ring 1 [(R.LINK_PORT_UPST, 2), (R.LINK_PORT_DNST, 2)] with
        scan := { Scan.reset with phase := .ended }, disp := { Disp.reset with ready := [scanned []] } }
      s.inRun = true ∧ s.flt.safe = false ∧ s.cuffLink 0 = true ∧ s.cuffLink 1 = true ∧ s.scan.phase = .ended ∧ s.disp.ready ≠ []
        ∧ s.link.sigLo = false ∧ s.link.sigHi = false ∧ s.cuffWaited 0 = false ∧ s.cuffWaited 1 = false)
    ∧ (let s : State := { ring 0 [] with
        disp := { Disp.reset with cur := some (scanned []), ended := true, wave := 6 }, pipe := { Pipe.reset with lists := [(1, [])] } }
      s.inRun = true ∧ s.flt.safe = false ∧ s.inCascade = true ∧ s.panel.pos = 0 ∧ s.disp.cur = some (scanned [])
        ∧ (scanned []).frame % 65536 = (0 : BitVec 16).toNat ∧ s.link.listsDone = false ∧ s.disp.wave < 7
        ∧ (∀ q ∈ s.pipe.lists, q.1 ≠ 2) ∧ s.disp.ended = true ∧ s.nextWave (scanned []) s.disp.wave = some 7
        ∧ (s.others.filter fun p => s.reaches p && !(s.pipe.lists.any fun q => q.1 = p)) = [2]
        ∧ aget 0 2 s.lf.late < 7) := by
  (repeat' apply And.intro) <;> decide +kernel

theorem witness_RemoteAccessesAndRetries : (let s := ring 0 []
      s.Admits .host 0x08 0x40 ∧ s.panel.pos = 0 ∧ s.isMember = false ∧ s.get R.LINK_RSTAT_BUSY = 0 ∧ (2 : Fin 8) < s.panel.ndev
        ∧ 2 ∉ s.link.lost ∧ s.panel.ndev ≤ (3 : Fin 8)
        ∧ tbDiff (s.lf.remoteTb + 1000) s.pow.tb < 0x800000000000)
    ∧ ((0xFFFC : BitVec 16).toNat % 4 = 0 ∧ (0xFFFF : BitVec 16).toNat % 4 ≠ 0)
    ∧ ((ring 0 [(R.LINK_RSTAT_BUSY, 1)]).inRun = true ∧ (ring 0 [(R.LINK_RSTAT_BUSY, 1)]).get R.LINK_RSTAT_BUSY = 1)
    ∧ (let s := ring 1 [(R.LINK_PORT_UPST, 2), (R.LINK_PORT_DNST, 2)]
      s.portUp 0 = true ∧ s.portUp 1 = true ∧ s.panel.pos ≠ 0 ∧ s.flt.safe = false ∧ (7 : Fin 8).val ≠ s.panel.pos) := by
  (repeat' apply And.intro) <;> decide +kernel

/-! ### The frame -/

/-- The first word of a scan table that the running frame has reached. -/
def atWord (w : Nat) (phase : Phase) (l : List (Fld × Nat)) : State :=
  { live l with scan := { Scan.reset with started := true, phase := phase, words := [w] } }

theorem witness_FrameStart : (scanning []).frameMay = true ∧ (live []).frameMay = false
    ∧ (let s : State := { ring 1 [] with lf := { State.reset.lf with sync := some (7, 0) } }
      s.frameMay = true ∧ s.inCascade = true ∧ s.lf.fp = none ∧ s.follows = true)
    ∧ (let s : State := { ring 1 [] with lf := { State.reset.lf with sync := some (7, 0), fp := some someParams } }
      s.frameMay = true ∧ s.follows = true ∧ s.lf.fp = some someParams)
    ∧ (scanning []).follows = false := by
  (repeat' apply And.intro) <;> decide +kernel

/-- LISTEN 2 windows, BURST, SELF, TEST and WAIT words by the field tables of spec/06 R142 to R148. -/
theorem witness_SequencesAndWords : (let s : State := { atWord 0 .waitVtx [(R.DRIVE_STAT_VTXACT, 1)] with
        scan := { Scan.reset with phase := .waitVtx, seqs := [⟨0, [], []⟩] } }
      s.inRun = true ∧ s.flt.safe = false ∧ s.get R.DRIVE_STAT_VTXACT ≠ 0 ∧ s.get R.DRIVE_STAT_VTXGOOD = 0
        ∧ s.scan.phase = .waitVtx ∧ (∃ q ∈ s.scan.seqs, q.burst = s.scan.burst) ∧ s.flt.queue.length < 32 ∧ s.flt.queue = [])
    ∧ (∀ d ∈ [false, true], let s : State := { atWord 0 .word [(R.DRIVE_STAT_VTXACT, 1), (R.DRIVE_STAT_VTXGOOD, 1)] with
        scan := { Scan.reset with phase := .word, dropout := !d } }
      s.inRun = true ∧ s.flt.safe = false ∧ s.get R.DRIVE_STAT_VTXACT ≠ 0 ∧ s.get R.DRIVE_STAT_VTXGOOD = 1
        ∧ s.scan.dropout = !d ∧ s.scan.phase ≠ .waitVtx)
    ∧ (let s := atWord 0x80012014 .word [(R.DRIVE_STAT_VTXACT, 1)]
      s.inRun = true ∧ s.flt.safe = false ∧ s.get R.DRIVE_STAT_VTXACT ≠ 0
        ∧ (s.bursts[s.scan.built]?.any fun b => s.seqEntries + codeLen b.2.2.1 ≤ 512 && b.2.2.1 ≤ 3) = true
        ∧ s.scan.seqs = [] ∧ s.scan.phase = .word)
    ∧ (let s := atWord 0x80012014 .waitComp [(R.DRIVE_STAT_VTXACT, 1), (R.DRIVE_STAT_VTXGOOD, 1)]
      s.get R.DRIVE_STAT_VTXACT ≠ 0 ∧ (s.bursts[s.scan.built]?.any fun b => s.seqEntries + codeLen b.2.2.1 ≤ 512) = true
        ∧ s.scan.phase = .waitComp ∧ s.scan.built = s.scan.burst ∧ s.get R.DRIVE_STAT_VTXGOOD = 1) := by
  (repeat' apply And.intro) <;> decide +kernel

theorem witness_scan_parts : (let s := atWord 0x10000A02 .word []
      s.scanRuns = true ∧ (∃ t n, s.curWord = .listen t n ∧ s.scan.sub < n))
    ∧ (let s : State := { atWord 0x80012014 .word [(R.DRIVE_STAT_BURST, 1)] with
        scan := { Scan.reset with phase := .word, words := [0x80012014], settle := 1 } }
      s.scanRuns = true ∧ s.get R.DRIVE_STAT_BURST = 1 ∧ 0 < s.scan.settle ∧ s.scan.settle = 1)
    ∧ (let s := atWord 0x80012014 .word [(R.DRIVE_STAT_BURST, 1)]
      s.scanRuns = true ∧ s.get R.DRIVE_STAT_BURST = 1 ∧ s.scan.settle = 0 ∧ s.scan.sub < s.burstChips ∧ s.inCascade = false
        ∧ s.lf.hop = none)
    ∧ (let s : State := { atWord 0x80012014 .word [(R.DRIVE_STAT_BURST, 1)] with force := [(R.NOISE_EHOP_EEN.key, 0)] }
      s.inForce R.NOISE_EHOP_EEN = 0)
    ∧ (let s : State := { atWord 0x80012014 .word [(R.DRIVE_STAT_BURST, 1)] with
        scan := { Scan.reset with phase := .word, words := [0x80012014], sub := 1000000 } }
      s.scanRuns = true ∧ s.get R.DRIVE_STAT_BURST = 1 ∧ s.scan.settle = 0 ∧ (∃ a b l c, s.curWord = .burst a b l c)
        ∧ s.burstChips ≤ s.scan.sub ∧ s.bufferHeld = false ∧ s.scan.waits = false)
    ∧ (let s : State := { atWord 0x80012014 .word [(R.DRIVE_STAT_BURST, 1)] with
        scan := { Scan.reset with phase := .word, words := [0x80012014], sub := 1000000, frame := 2 }
        disp := { Disp.reset with tasks := [⟨1, 0, 0, 0, 0, 0, 0, 0, 0, 0, 0, .running 31⟩] } }
      s.scanRuns = true ∧ s.get R.DRIVE_STAT_BURST = 1 ∧ s.scan.settle = 0 ∧ (∃ a b l c, s.curWord = .burst a b l c)
        ∧ s.burstChips ≤ s.scan.sub ∧ s.bufferHeld = true)
    ∧ (let s := atWord 0x24100003 .word []
      s.scanRuns = true ∧ ∃ axis k sl tm, s.curWord = .self axis k sl tm ∧ s.scan.sub + 1 < (passes axis).length
        ∧ s.converts sl ((passes axis).getD s.scan.sub 0) 24 = false)
    ∧ (let s := atWord 0x31F00003 .word []
      s.scanRuns = true ∧ s.scan.test = false ∧ ∃ ty sl st tm, s.curWord = .test ty sl st tm ∧ s.scan.sub + 1 < (passes ty).length)
    ∧ (let s := atWord 0x40000007 .word []
      s.scanRuns = true ∧ s.curWord = .wait 7) := by
  refine ⟨⟨by decide +kernel, 10, 2, by decide +kernel, by decide +kernel⟩, by decide +kernel, by decide +kernel, by decide +kernel,
    ⟨by decide +kernel, by decide +kernel, by decide +kernel, ⟨_, _, _, _, rfl⟩, by decide +kernel, by decide +kernel, by decide +kernel⟩,
    ⟨by decide +kernel, by decide +kernel, by decide +kernel, ⟨_, _, _, _, rfl⟩, by decide +kernel, by decide +kernel⟩,
    ⟨by decide +kernel, _, _, _, _, rfl, by decide +kernel, by decide +kernel⟩,
    ⟨by decide +kernel, by decide +kernel, _, _, _, _, rfl, by decide +kernel⟩, by decide +kernel⟩

theorem witness_FramesStartEndAndWait : (let s := atWord 0 .done []
      s.inRun = true ∧ s.flt.safe = false ∧ s.scan.phase = .done ∧ s.bufferHeld = false ∧ s.scan.stopping = false
        ∧ s.scan.test = false ∧ s.scan.abandoned = false ∧ s.scan.waits = false ∧ s.base.acq = none)
    ∧ (let s : State := { atWord 0 .done [] with
        scan := { Scan.reset with phase := .done, frame := 2 }
        disp := { Disp.reset with tasks := [⟨1, 0, 0, 0, 0, 0, 0, 0, 0, 0, 0, .running 31⟩] } }
      s.inRun = true ∧ s.flt.safe = false ∧ s.scan.phase = .done ∧ s.bufferHeld = true)
    ∧ (let s : State := { atWord 0 .done [] with scan := { Scan.reset with phase := .done, abandoned := true } }
      s.scan.abandoned = true)
    ∧ (let s : State := { atWord 0 .done [] with base := { Baseline.reset with acq := some 0 } }
      s.scan.abandoned = false ∧ s.base.acq ≠ none) := by
  (repeat' apply And.intro) <;> decide +kernel

/-- A frame frozen by blanking. -/
def frozen (s : State) (voided : Bool) : State :=
  { s with scan := { s.scan with phase := .word, blank := { Blank.reset with frozen := true, voided := voided } } }

theorem witness_BlankingAndAcquisition : (let s : State := { atWord 0 .word [] with force := [(R.DRIVE_BLANK_EN0.key, 1)] }
      s.up = true ∧ s.inForce R.DRIVE_BLANK_EN0 ≠ 0 ∧ true = decide (s.inForce R.DRIVE_BLANK_POL0 = 0)
        ∧ s.scan.blank.frozen = false ∧ (⟨false, 0⟩ : BlankAt).inTransition = false)
    ∧ (let s : State := { frozen (live []) false with force := [(R.DRIVE_BLANK_EN0.key, 1)] }
      s.up = true ∧ s.inForce R.DRIVE_BLANK_EN1 = 0 ∧ s.scan.blank.frozen = true
        ∧ false ≠ decide (s.inForce R.DRIVE_BLANK_POL0 = 0) ∧ 0 ≤ s.inForce R.DRIVE_BLANK_LIM
        ∧ s.inForce R.DRIVE_BLANK_LIM ≤ s.inForce R.DRIVE_BLANK_LIM ∧ s.scan.phase = .word ∧ s.scan.blank.voided = false
        ∧ s.scan.clk ≤ s.scan.blank.start)
    ∧ (let s := frozen (atWord 0x80012014 .word []) false
      s.scan.blank.frozen = true ∧ s.scan.blank.voided = false ∧ s.inCascade = false ∧ s.scan.phase = .word
        ∧ s.curWord = .burst 0 9 0 5 ∧ s.scan.settle = 0 ∧ s.scan.sub < s.burstChips)
    ∧ (let t := atWord 0x80012014 .word []
      let s := frozen { t with scan := { t.scan with sub := 1000000 } } false
      s.curWord = .burst 0 9 0 5 ∧ s.scan.settle = 0 ∧ s.burstChips ≤ s.scan.sub)
    ∧ (let s := frozen (atWord 0x24100003 .word []) false
      s.scan.blank.frozen = true ∧ s.scan.blank.voided = false ∧ s.inCascade = false ∧ s.scan.phase = .word
        ∧ s.curWord = .self 1 0 1 3)
    ∧ ((frozen (live []) true).scan.blank.frozen = true ∧ (frozen (live []) true).scan.blank.voided = true)
    ∧ ((frozen (ring 0 []) false).inCascade = true ∧ (frozen (ring 0 []) false).panel.pos = 0
      ∧ (frozen (ring 0 []) false).scan.blank.frozen = true ∧ (frozen (ring 0 []) false).scan.blank.voided = false
      ∧ (frozen (ring 0 []) false).scan.phase ≠ .idle ∧ (frozen (ring 0 []) false).scan.phase ≠ .ended)
    ∧ (∀ i ∈ [0, 6, 7], let s : State := { atWord 0 .ended [] with base := { Baseline.reset with acq := some i, acqFrame := 1 } }
      s.inRun = true ∧ s.flt.safe = false ∧ s.scan.phase = .ended ∧ s.scan.test = false ∧ s.scan.abandoned = false
        ∧ s.base.acqFrame ≠ s.scan.frame ∧ s.base.acq = some i) := by
  (repeat' apply And.intro) <;> decide +kernel

/-! ### The dispatcher and the tasks -/

/-- A device that processes a frame. -/
def processing (d : Disp) : State := { engines [] fun g => { g with state := .run } with disp := d }

theorem witness_WavesAndExtensionTasks : (let s := processing { Disp.reset with ready := [scanned []] }
      s.inRun = true ∧ s.flt.safe = false ∧ s.disp.ready = scanned [] :: [] ∧ s.cuffsReady (scanned []) = true ∧ s.disp.cur = none)
    ∧ (let s := processing { Disp.reset with cur := some (scanned []), wave := 1, ended := true }
      s.disp.cur = some (scanned []) ∧ (s.nextWave (scanned []) s.disp.wave).isSome = true ∧ s.disp.ended = true)
    ∧ (let s := processing { Disp.reset with cur := some (scanned []), wave := 6, ended := true }
      s.nextWave (scanned []) s.disp.wave = some 7 ∧ s.listsReady = true)
    ∧ (let s := processing { Disp.reset with cur := some (scanned []), waiting := [(31, ⟨1, 0, 0, 0, 0, 0, 0, 0, 0, 0, 0, .posted 31⟩)] }
      s.inRun = true ∧ s.flt.safe = false ∧ s.disp.waiting = (31, ⟨1, 0, 0, 0, 0, 0, 0, 0, 0, 0, 0, .posted 31⟩) :: []
        ∧ s.qRoom (s.queueFor 31 ⟨1, 0, 0, 0, 0, 0, 0, 0, 0, 0, 0, .posted 31⟩) = true)
    ∧ (let fi := scanned [(R.WORKRING_CTL_WAVETMO.key, 1)]
      let s : State := { processing { Disp.reset with cur := some fi, wave := 1 } with pow := { Power.reset with tb := 100 } }
      s.disp.cur = some fi ∧ s.disp.wave ≠ 0 ∧ s.disp.ended = false
        ∧ 100 * ({ s with force := fi.force }).inForce R.WORKRING_CTL_WAVETMO ≤ tbDiff s.pow.tb s.disp.waveTb)
    ∧ (let s : State := { processing { Disp.reset with parkReq := [(31, some 0)] } with pow := { Power.reset with tb := 2000 } }
      (s.disp.parkReq.find? fun p => p.1 = 31) = some (31, some 0) ∧ (s.eng 31).state = .run ∧ 2000 ≤ tbDiff s.pow.tb 0)
    ∧ (engines [] fun g => { g with state := .stopped }).unstopped < 4 := by
  (repeat' apply And.intro) <;> decide +kernel

/-- A task that has been posted to the queue of engine 31. -/
def posted (kind : Nat) (d : Disp) : State :=
  let s := processing { d with cur := some (scanned []), waiting := [(31, ⟨kind, 0, 0, 0, 0, 0, 0, 0, 0, 0, 0, .posted 31⟩)] }
  after (execTaskPost s) s

theorem witness_TasksRunTheirStage : (∀ kind ∈ [1, 2, 3, 4, 5, 6], ((posted kind Disp.reset).nextTask 31 31 (· = kind)).isSome = true)
    ∧ ((posted 1 Disp.reset).nextTask 0 31 (· = 1)).isSome = true
    ∧ (processing Disp.reset).nextTask 31 31 (· = 1) = none := by
  (repeat' apply And.intro) <;> decide +kernel

/-- A device alone on a panel of 4 drive and 4 receive lines, its frame memory filled by a function. -/
def smallPanel (force : List (Nat × Nat)) (f : State → State) : State :=
  f { processing Disp.reset with panel := ⟨[(4, 4)], 0, 1, [], [], []⟩, force := force }

/-- A tile over the panel. -/
def tile : Task := ⟨1, 0, 0, 0, 0, 0, 4, 4, 0, 0, 0, .posted 31⟩

/-- The frame that stages are tried on. -/
def fr : FrameInfo := scanned []

/-- The values of node (1, 2) that the clauses of TasksRunTheirStage need: without a value, NEW, with a small error, touched. -/
theorem witness_TasksRunTheirStage_nodes : (let s := smallPanel [(R.PIPE_FILT_JUMP.key, 0)] fun s => s.setFm16 (node16 (rawPlane 0) 1 2) 9
      Memory.wf s.fmem = true ∧ fr.hasMutual = true ∧ aget Tag.reset 0 s.base.tags = fr.tag ∧ s.link.shadow = []
        ∧ s.pipe.lastShadow = [] ∧ (1, 2) ∈ tile.nodes ∧ (5, 2) ∉ tile.nodes ∧ s.nodeLive 1 2 = true ∧ s.rawAt 0 1 2 ≠ -32768
        ∧ s.flagsAt 1 2 = 0 ∧ 96 * 1 + 2 ∉ s.pipe.segOn ∧ s.rawAt 0 1 2 - s.baseAt 1 2 < fr.tag.thr 2 (s.inForce R.BASE_THR_REVTH)
        ∧ -fr.tag.thr 2 (s.inForce R.BASE_THR_TRKTH) < s.rawAt 0 1 2 - s.baseAt 1 2 ∧ s.inForce R.BASE_CTL_TRKEN ≠ 0
        ∧ s.inForce R.PIPE_FILT_JUMP = 0)
    ∧ ((smallPanel [] fun s => s.setFlags 1 2 0x20).flagsAt 1 2 = 0x20)
    ∧ (let s := smallPanel [] fun s => { s with scan := { s.scan with rxOff := [2] } }
      s.nodeLive 1 2 = false ∧ s.flagsAt 1 2 = 0)
    ∧ (let s := smallPanel [(R.BASE_CTL_BORROWEN.key, 0)] fun s => s.setBase 1 2 1000
      s.rawAt 0 1 2 - s.baseAt 1 2 ≤ -fr.tag.thr 2 (s.inForce R.BASE_THR_TRKTH) ∧ s.inForce R.BASE_CTL_BORROWEN = 0
        ∧ s.baseAt 1 2 ≠ -32768)
    ∧ (let s := smallPanel [] id
      s.ntx ≤ 512 ∧ 1 < s.ntx ∧ 2 < s.ownRx ∧ 2 = 2 + s.rxBase s.panel.pos ∧ s.hasSignal fr 1 2 = true
        ∧ s.inForce R.PIPE_FILT_SPK ≠ 0 ∧ ∀ i ≤ 2, ∀ j ≤ 2, s.filtOf fr (1 - 1 + i) (2 - 1 + j) = some 0)
    ∧ ((smallPanel [(R.PIPE_FILT_SPK.key, 0)] id).inForce R.PIPE_FILT_SPK = 0)
    ∧ ((smallPanel [] fun s => s.setFm16 (node16 (rawPlane 0) 1 2) 0x8000).hasSignal fr 1 2 = false)
    ∧ (∀ flags ∈ [0, 0x20], let s := smallPanel [] fun s => ((s.setFm16 0x2A104 1015).setSelfBase 2 999).setSelfFlags 2 flags
      Memory.wf s.fmem = true ∧ s.chanOn 2 = true ∧ isCount (s.selfCount 0 (rxEntry 2)) = true ∧ s.selfFlags (rxEntry 2) = flags
        ∧ (s.selfCount 0 (rxEntry 2) : Int) - s.selfBase (rxEntry 2) < s.inForce R.BASE_STHR_REVTH
        ∧ -(s.inForce R.BASE_STHR_TRKTH : Int) < (s.selfCount 0 (rxEntry 2) : Int) - s.selfBase (rxEntry 2)
        ∧ Int.tdiv ((s.selfCount 0 (rxEntry 2) : Int) - s.selfBase (rxEntry 2)) (2 ^ s.inForce R.BASE_CTL_TRKSH : Nat) ≠ 0) := by
  (repeat' apply And.intro) <;> decide +kernel

/-- Nodes that are on, with their g. -/
def touching (minArea : Nat) (l : List (Nat × Nat × Int)) : State :=
  smallPanel [(R.PIPE_SEG_MINAREA.key, minArea)] fun s =>
    l.foldl (fun s x => (s.setFm8 (node8 0x27000 x.1 x.2.1) 1).setG x.1 x.2.1 x.2.2) s

/-- A sub-blob of two nodes, and a track near it. -/
def blob : SubBlob := ⟨1, 1, false, 2, 698, 997, 698, 516612096000, 295206912000, false, 0, false, false, [(1, 1), (1, 2)], (1, 1),
  [(0, 1, 1)], [(1, 1), (1, 2)], 2, []⟩
def track (id : Nat) : Track := ⟨80, 70, 75, 70, 1, 0, 0, 0, id, false, 5600, 2, 3200, 5600, false, false, 0, 0, 0, 0, false, false, 0, 0,
  [], [], 0, false⟩

theorem witness_StagesMakeTheReport : (∀ m ∈ [1, 2], let s := touching m [(1, 1, 400)]
      fr.hasMutual = true ∧ s.inCascade = false ∧ s.link.cuffLo = false ∧ s.link.cuffHi = false ∧ s.link.shadow = []
        ∧ 1 = 1 + s.rxBase s.panel.pos ∧ 1 < s.ownRx ∧ 1 < s.ntx ∧ 1 < s.inForce R.PIPE_CLS_PALMA
        ∧ fr.thrU 1 (s.inForce R.PIPE_THR_TPEAK) ≤ s.gAt 1 1 ∧ (∀ q ∈ neighbours 1 1, s.gOf fr q.1 q.2 < s.gAt 1 1)
        ∧ s.nodes.filter (fun q => s.isOn q.1 q.2) = [(1, 1)] ∧ s.inForce R.PIPE_SEG_MINAREA = m)
    ∧ (let s := touching 2 [(1, 1, 400), (1, 2, 300)]
      s.nodes.filter (fun q => s.isOn q.1 q.2) = [(1, 1), (1, 1 + 1)] ∧ 1 + 1 < s.ownRx ∧ 2 < s.inForce R.PIPE_CLS_PALMA
        ∧ s.inForce R.PIPE_SEG_MINAREA ≤ 2 ∧ fr.thrU 1 (s.inForce R.PIPE_THR_TPEAK) ≤ s.gAt 1 1
        ∧ ∀ q ∈ neighbours 1 1, s.gOf fr q.1 q.2 < s.gAt 1 1)
    ∧ (∀ l ∈ [[], [track 5]], let s := smallPanel [] fun s => { s with pipe := { s.pipe with subs := [blob], tracks := l } }
      s.pipe.subs = [blob] ∧ s.classify fr blob ≠ 6 ∧ blob.fast = false ∧ 0 < blob.sw
        ∧ s.clampX (roundDiv (64 * blob.swc) blob.sw.toNat) = 91 ∧ s.clampY (roundDiv (64 * blob.swd) blob.sw.toNat) = 64
        ∧ ((91 - (2 * 80 - 75 : Int)) * (91 - (2 * 80 - 75)) + (64 - (2 * 70 - 70)) * (64 - (2 * 70 - 70))).toNat
          ≤ 4096 * s.inForce R.PIPE_TRACK_GATE * s.inForce R.PIPE_TRACK_GATE)
    ∧ (fr.mode ≠ 2 ∧ (track 5).x = 80)
    ∧ (let s := smallPanel [(R.PIPE_CTL_AUTOGLV.key, 0), (R.PIPE_GEST_DRAGEN.key, 0)] fun s =>
        { s with pipe := { s.pipe with tracks := [track 0] } }
      s.inCascade = false ∧ s.lastReport fr.frame = false ∧ s.pipe.cancelAll = false
        ∧ (∀ k < 16, s.inForce (R.VCTRL_DEF_TYPE k) = 0 ∧ (s.control k).owner = 0) ∧ s.pipe.pinch = none ∧ s.pipe.modes = []
        ∧ s.inForce R.PIPE_GEST_DRAGEN = 0 ∧ s.inForce R.PIPE_CTL_AUTOGLV = 0 ∧ 0 < s.queues.length ∧ (s.queue 0).level + 48 ≤ 16384
        ∧ s.pipe.tracks = [track 0] ∧ bit (s.inForce R.PIPE_CTL_RPTMASK) (track 0).cls = true ∧ (track 0).cls ≠ 5
        ∧ 0 < (track 0).volume ∧ s.pipe.freeIds.head? = some 1) := by
  (repeat' apply And.intro) <;> decide +kernel
theorem witness_ExtensionTask : (let s := posted 0x10 { Disp.reset with ext := [⟨2, true, 0x100, 50, 0, List.replicate 7 0⟩] }
      31 < s.engines.length ∧ (s.nextTask 31 31 (0x10 ≤ ·)).isSome = true ∧ s.disp.ext[0x10 - 0x10]?.isSome = true) := by
  (repeat' apply And.intro) <;> decide +kernel

/-! ### The engines -/

/-- Every engine runs, with a change of its registers and of the rest. -/
def running (f : Core → Core) (g : Engine → Engine) : State :=
  engines [] fun x => g { x with state := .run, core := f x.core }

theorem witness_EnginePorts : (let s := running id id
      s.canIssue 31 = true ∧ 31 < s.engines.length ∧ (s.eng 31).inExt = false ∧ (s.eng 31).late = []
        ∧ s.taskOf (s.eng 31).tid = none)
    ∧ (let s : State := { running id id with disp := { Disp.reset with tasks := [⟨1, 0, 0, 0, 0, 0, 0, 0, 0, 0, 0, .running 31⟩] } }
      s.canIssue 31 = true ∧ (s.eng 31).inExt = false ∧ s.taskOf (s.eng 31).tid = s.disp.tasks.head?
        ∧ (s.disp.tasks.all fun k => k.state = .running 31) = true)
    ∧ (let s := running id fun g => { g with xmode := some (0, 0) }
      s.canIssue 31 = true ∧ (s.eng 31).inExt = true ∧ (s.eng 31).core.trapAt = none)
    ∧ ((running id id).flag (R.ENG_CTL_HALT 31) = false ∧ ((running id id).eng 31).state = .run)
    ∧ (let s := engines [(R.ENG_CTL_HALT 31, 1)] fun g => { g with state := .halted, step := true }
      s.canIssue 31 = true ∧ (s.eng 31).inExt = false ∧ (s.eng 31).state = .halted ∧ (s.eng 31).core.pre = none)
    ∧ (let s := engines [] fun g => { g with state := .sleep, fevt := 8 }
      s.inRun = true ∧ (s.eng 31).state = .sleep ∧ (s.eng 31).fevt &&& ((s.eng 31).fevten ||| 8) ≠ 0)
    ∧ (let s := engines [] fun g => { g with state := .sleep, fevt := 1 }
      (s.eng 31).state = .sleep ∧ (s.eng 31).fevt &&& ((s.eng 31).fevten ||| 8) = 0)
    ∧ (let s := engines [] fun g => { g with state := .parked }
      (s.eng 31).state = .parked ∧ 31 ∈ s.disp.active) := by
  (repeat' apply And.intro) <;> decide +kernel

theorem witness_VectorsAreTaken : (let s := running (fun c => { c with fl := 0x20 }) fun g => { g with fevt := 8, fevten := 8 }
      s.inRun = true ∧ 31 < s.engines.length ∧ (s.eng 31).eventVector = some 0x10 ∧ (s.eng 31).state = .run
        ∧ (s.eng 31).core.permitted = true)
    ∧ (let s := running id id
      s.canIssue 31 = true ∧ (∀ c ∈ [(0x01 : Byte), 0x14], c.toNat ∈ trapCauses) ∧ (s.eng 31).core.trapAt = none
        ∧ (s.eng 31).core.pre = none ∧ (s.eng 31).core.delay = .none)
    ∧ (let s := running (fun c => { c with fl := 0x20, rc := 2, pre := some ⟨0, 3, true, true, none⟩ }) fun g => { g with fevt := 8, fevten := 8 }
      (s.eng 31).eventVector = some 0x10 ∧ (s.eng 31).core.permitted = true ∧ (s.eng 31).core.rc ≠ 0)
    ∧ (let s := running (fun c => { c with pre := some ⟨0, 3, true, false, none⟩, rc := 3 }) id
      s.canIssue 31 = true ∧ (s.eng 31).core.pre = some ⟨0, 3, true, false, none⟩ ∧ (s.eng 31).core.delay = .none
        ∧ (s.eng 31).core.rc ≠ 1 ∧ (s.eng 31).core.trapAt = none)
    ∧ (let s := running (fun c => { c with trapAt := some 0 }) id
      s.canIssue 31 = true ∧ (s.eng 31).core.trapAt.isSome = true ∧ s.heldTask 31 = none ∧ (s.eng 31).core.pre = none) := by
  (repeat' apply And.intro) <;> decide +kernel

theorem witness_ReservationsAndResults : ((running (fun c => { c with rsv := some (3, 0) }) id).eng 31).core.rsv = some (3, 0)
    ∧ Memory.wf (live []).fmem = true
    ∧ (∀ mac ∈ [true, false], ((running (fun c => { c with prods := [⟨4, 0xFFFF, mac⟩] }) id).eng 31).core.prods = ⟨4, 0xFFFF, mac⟩ :: [])
    ∧ ((running (fun c => { c with quot := some (10, 3, 1) }) id).eng 31).core.quot = some (10, 3, 1)
    ∧ (let s := running (fun c => { c with quince := some (0, 20) }) fun g => { g with late := [⟨20, .ram 0x10, 7, true⟩] }
      (s.eng 31).core.quince = some (0, 20) ∧ (s.eng 31).core.slot < 20 ∧ (s.eng 31).late = [⟨20, .ram 0x10, 7, true⟩]
        ∧ Memory.wf (s.eng 31).ram = true ∧ (s.eng 31).core.sloe = none ∧ (s.eng 31).core.qbusy = true)
    ∧ (let o : Sloe := ⟨8, 0, 0, .peak, 1, [(.ram 0x10, 2)], [(some (.ram 0x20), [7]), (some (.ram 0x21), [0])]⟩
      let s := running (fun c => { c with sloe := some o }) fun g => { g with ram := [(0x20, 7)] }
      s.inRun = true ∧ (s.eng 31).core.sloe = some o ∧ (s.eng 31).late = [] ∧ (s.eng 31).hidden = []
        ∧ Memory.wf (s.eng 31).ram = true
        ∧ (∀ p ∈ o.src, p.2.length = 1 ∧ ∀ q ∈ p.1, p.2.getLastD 0 = s.seen 31 q)) := by
  (repeat' apply And.intro) <;> decide +kernel

/-! ### Frarid-8 -/

theorem witness_Issues : (running id id).Issues 31 ∧ (running id id).Settled 31 ∧ ((running id id).eng 31).core.notReti := by
  refine ⟨⟨by decide +kernel, by decide +kernel, fun _ => by decide +kernel, by decide +kernel⟩,
    ⟨by decide +kernel, by decide +kernel, by decide +kernel, ?_, by decide +kernel, by decide +kernel, by decide +kernel⟩, ?_⟩
  · intro q h
    have h' : ((running id id).eng 31).core.quot = none := by decide +kernel
    rw [h'] at h
    cases h
  · intro pc fl rc h
    have h' : ((running id id).eng 31).core.delay = .none := by decide +kernel
    rw [h'] at h
    cases h

/-- Every shape has a well-formed encoding, at the first and at the last of its modes. -/
theorem witness_shapes : (∀ w ∈ [(⟨1, 0, 0, 0, 0, 0, 0⟩ : Enc), ⟨8, 8, 8, 0, 0, 0, 0⟩], (Shape.plain .d .s .s).check w = none)
    ∧ (∀ w ∈ [(⟨1, 0, 0, 0, 0, 0, 0⟩ : Enc), ⟨8, 8, 0, 0, 0, 0, 0⟩], (Shape.plain .d .s .none).check w = none)
    ∧ (∀ w ∈ [(⟨0, 0, 0, 0, 0, 0, 0⟩ : Enc), ⟨0, 8, 8, 0, 0, 0, 0⟩], (Shape.plain .none .s .s).check w = none)
    ∧ (∀ w ∈ [(⟨1, 2, 0, 0, 0, 0, 0⟩ : Enc), ⟨8, 3, 0, 0, 0, 0, 0⟩], (Shape.plain .d .ia .none).check w = none)
    ∧ (∀ w ∈ [(⟨0, 0, 0, 0, 0, 0, 0⟩ : Enc), ⟨0, 8, 0, 0, 0, 0, 0⟩], (Shape.plain .none .s .none).check w = none)
    ∧ (∀ w ∈ [(⟨1, 0, 0, 0, 0, 0, 0⟩ : Enc), ⟨8, 0, 0, 0, 0, 0, 0⟩], (Shape.plain .d .none .none).check w = none)
    ∧ (∀ w ∈ [(⟨0, 0, 0, 0, 0, 0, 0⟩ : Enc), ⟨0, 2, 0, 0, 0, 0, 0⟩], (Shape.flow .t).check w = none)
    ∧ (Shape.flow .none).check ⟨0, 0, 0, 0, 0, 0, 0⟩ = none
    ∧ (Shape.other .d .io .none).check ⟨1, 2, 0, 0, 0, 0x11, 0⟩ = none
    ∧ (Shape.other .io .s .none).check ⟨2, 0, 0, 0, 0x3C, 0, 0⟩ = none
    ∧ (Shape.other .d .a .none).check ⟨1, 2, 0, 0, 0, 0x2000, 0⟩ = none
    ∧ (Shape.other .a .s .none).check ⟨2, 0, 0, 0, 0x2000, 0, 0⟩ = none
    ∧ Shape.prefix_.check ⟨0, 0, 0, 0, 0, 255, 0⟩ = none
    ∧ (Shape.other .m .m .m).check ⟨1, 1, 1, 0, 0, 0, 0⟩ = none
    ∧ (Shape.other .m .m .none).check ⟨1, 1, 0, 0, 0, 0, 0⟩ = none
    ∧ (Shape.other .none .none .none).check ⟨0, 0, 0, 0, 0, 0, 0⟩ = none := by
  (repeat' apply And.intro) <;> decide +kernel

/-- The run at the issue of an engine. -/
def first : Run := Run.start (running id id) 31

/-- Sources and addresses raise no cause, and destinations in memory and in a register take a byte. -/
theorem witness_operands : (first.source 31 0 7).2.causes = [] ∧ (first.source 31 1 7).2.causes = []
    ∧ (first.source 31 8 1).2.causes = []
    ∧ (((running id id).eng 31).place 7 = some (.ram 7) ∧ ((running id id).eng 31).accepts (.ram 7) = true)
    ∧ (∀ m ∈ [1, 2, 3, 4, 6, 7], (((running id id).eng 31).place ((running id id).operandAddress 31 m 7)).isSome = true)
    ∧ ((0x13 : BitVec 16).toNat % 256 < 0x14)
    ∧ (∃ f, ((running id id).eng 31).place 0x2000 = some (.frame f) ∧ ((running id id).eng 31).accepts (.frame f) = true) := by
  refine ⟨by decide +kernel, by decide +kernel, by decide +kernel, by decide +kernel, by decide +kernel, by decide +kernel,
    _, rfl, by decide +kernel⟩

theorem witness_DestOk : DestOk first 31 1 7 ∧ DestOk first 31 8 1 := by
  refine ⟨?_, ?_⟩
  · unfold DestOk
    rw [if_neg (by decide)]
    exact ⟨.ram 7, by decide +kernel, by decide +kernel⟩
  · unfold DestOk
    rw [if_pos rfl]
    intro h
    exact absurd h (by decide)

/-- A delay slot after each kind of control instruction, and a divide whose trap is enabled or not. -/
theorem witness_DelaySlotsEnd : (running (fun c => { c with delay := .flow (some 0x40) false }) id).canIssue 31 = true
    ∧ ((running (fun c => { c with delay := .call 0x40 0xFF 0xFE 3 }) id).eng 31).core.delay = .call 0x40 0xFF 0xFE 3
    ∧ ((running (fun c => { c with delay := .reti 0x40 0x80 5, depth := 1 }) id).eng 31).core.delay = .reti 0x40 0x80 5
    ∧ (((running id id).eng 31).core.fl.getLsbD 6 = false
      ∧ ((running (fun c => { c with fl := 0x40 }) id).eng 31).core.fl.getLsbD 6 = true) := by
  (repeat' apply And.intro) <;> decide +kernel

/-- A reservation that an STCD holds, and one that it does not. -/
theorem witness_AtomicInstructions : ∀ held ∈ [true, false],
    let s := running (fun c => { c with rsv := if held then some (98304, 0) else none }) id
    let r := Run.start s 31
    (s.eng 31).place 0x2000 = some (.frame 786432) ∧ (s.eng 31).accepts (.frame 786432) = true
      ∧ ((held = true ∧ (s.eng 31).core.rsv = some (786432 / 8, 0) ∧ r.now 31 + (s.eng 31).emptyWait (r.now 31) < 0 + 64)
        ∨ (held = false ∧ (s.eng 31).core.rsv = none)) := by decide +kernel

/-- Two operands in local RAM and a destination in frame memory: the places of a coprocessor's operation exist. -/
theorem witness_CoprocessorOperations : (Shape.other .m .m .m).check ⟨2, 2, 2, 0, 0x2000, 0x20, 0x40⟩ = none
    ∧ ((first.addr 31 2 0x20).1 = 0x20 ∧ (first.addr 31 2 0x2000).1 = 0x2000)
    ∧ (∀ i < 64, ((running id id).eng 31).place (0x2000 + i) ≠ none) ∧ (∀ i < 8, ((running id id).eng 31).place (0x40 + i) ≠ none)
    ∧ (15 < 16 ∧ (9 ∉ [8, 16, 32]) ∧ (0 ≤ 15 ∧ 32 ∈ [8, 16, 32]))
    ∧ ((∀ x ∈ ([] : List Nat), x = 0x8000) ∧ [(5 : Nat), 9, 0x8000, 9][1]? = some 9 ∧ 9 ≠ 0x8000
      ∧ ∀ j < 4, [(5 : Nat), 9, 0x8000, 9][j]? ≠ some 0x8000 → ∀ x ∈ [(5 : Nat), 9, 0x8000, 9][j]?,
        signed16 x < signed16 9 ∨ (signed16 x = signed16 9 ∧ 1 ≤ j)) := by
  (repeat' apply And.intro) <;> decide +kernel

theorem witness_PortInstructions : (let v := (Run.start (running id id) 31).input 31 0x11
      v.2.core 31 = ((running id id).eng 31).core ∧ 31 < v.2.s.engines.length)
    ∧ ((first.addr 31 2 0x3C).1 = 0x3C ∧ (first.addr 31 2 0x1A54).1 = 0x1A54)
    ∧ (let q := first.s.engineOut 31 0x1B50 0
      (q.eng 31).core = first.core 31 ∧ 31 < q.engines.length) := by
  (repeat' apply And.intro) <;> decide +kernel

/-- The lowest and the highest repetition count, and none. -/
theorem witness_RepeatPrefixes : (∀ n ∈ [0, 1, 255], ∀ i ∈ [true, false],
      let s := running (fun c => { c with pre := some ⟨0, n, i, false, none⟩, rc := BitVec.ofNat 8 n }) id
      31 < s.engines.length ∧ s.canIssue 31 = true ∧ (s.eng 31).core.pre = some ⟨0, n, i, false, none⟩ ∧ s.stopsAt 31 = false
        ∧ (s.eng 31).core.rc = BitVec.ofNat 8 n ∧ n < 256)
    ∧ (Shape.plain .d .s .s).check ⟨8, 8, 0, 0, 1, 1, 7⟩ = none := by
  (repeat' apply And.intro) <;> decide +kernel

/-- Encodings that trap: a reserved field, a literal destination, a reserved mode. -/
theorem witness_BreaksAndTraps : ((Shape.plain .d .s .s).check ⟨1, 0, 0, 1, 0, 0, 0⟩ = some (4, 0x04)
      ∧ (Shape.plain .d .s .s).check ⟨0, 0, 0, 0, 0, 0, 0⟩ = some (5, 0x03)
      ∧ (Shape.plain .d .s .s).check ⟨9, 0, 0, 0, 0, 0, 0⟩ = some (6, 0x02))
    ∧ ((∃ op : Byte, op ∉ definedOpcodes.map (BitVec.ofNat 8) ∧ op.toNat / 16 ≠ 14) ∧ (0xE0 : Byte).toNat / 16 = 14)
    ∧ (let s := engines [(R.ENG_CTL_BRKEN 31, 1)] fun g => { g with state := .run }
      s.flag (R.ENG_CTL_BRKEN 31) = true ∧ (s.eng 31).state = .run ∧ (s.eng 31).pass = false)
    ∧ ((running id fun g => { g with pass := true }).eng 31).pass = true
    ∧ (running id id).flag (R.ENG_CTL_BRKEN 31) = false
    ∧ (let s := running id fun g => { g with xmode := some (0, 0), win := List.replicate 7 0 }
      (s.eng 31).inExt = true
        ∧ granule ((s.eng 31).win.getD (0x2000 / 0x2000 - 1) 0 * 0x2000 + 0x2000 % 0x2000) % 32 < 28) := by
  refine ⟨by decide +kernel, ⟨⟨0x7F, by decide +kernel, by decide +kernel⟩, by decide +kernel⟩, by decide +kernel, by decide +kernel,
    by decide +kernel, by decide +kernel⟩

theorem witness_EnginesStartCleared : Cleared (running id id) 31 := by
  (repeat' apply And.intro) <;> decide +kernel

/-- The premises of PlainestCases that the witnesses above do not show: a wave before the lists', a task in its queue, an
engine that issues without a delay slot or an extension task, and frame places for its accesses and its coprocessors. -/
theorem witness_PlainestCases : (let s := processing { Disp.reset with cur := some (scanned []), wave := 1, ended := true }
      s.inRun = true ∧ s.flt.safe = false ∧ (s.nextWave (scanned []) s.disp.wave).any (· ≠ 7) = true ∧ s.inCascade = false)
    ∧ (∀ kind ∈ [1, 2, 3, 4, 5, 6], ((posted kind Disp.reset).nextTask 31 31 (· = kind)).any
      (fun x => x.2.1.state = .posted 31) = true ∧ Memory.wf (posted kind Disp.reset).fmem = true)
    ∧ ((running id id).canIssue 31 = true ∧ ((running id id).eng 31).inExt = false ∧ ((running id id).eng 31).fevt = 0
      ∧ ((running id id).eng 31).dbg = [] ∧ ((running id id).eng 31).core.trapAt = none
      ∧ ((running id id).eng 31).core.delay = .none ∧ (running id id).flag (R.ENG_CTL_BRKEN 31) = false)
    ∧ (let s := engines [] fun g => { g with state := .parked }
      s.inRun = true ∧ (s.eng 31).state = .parked ∧ (31 : Fin 32).val ∈ s.disp.active)
    ∧ (0x2000 ≤ (0x2000 : BitVec 16).toNat ∧ 0x2000 ≤ (0xFEFF : BitVec 16).toNat ∧ (0xFEFF : BitVec 16).toNat < 0xFF00) := by
  (repeat' apply And.intro) <;> decide +kernel

/-! ### WellFormed refuses -/

/-- One ill-formed command for each check, refused by that check; a well-formed neighbour passes. -/
theorem test_wf_refuses : (Instr.frameStart 0 ⟨100, 3300, 100, [25]⟩).check = some .sensors
    ∧ (Instr.listenWindowEnd [1]).check = some .powers ∧ (Instr.chipEnd []).check = some .powers
    ∧ (Instr.burstEnd [[0]]).check = some .residuals ∧ (Instr.selfPassEnd [1]).check = some .caps
    ∧ (Instr.testPassEnd []).check = some .caps ∧ (Instr.nightcapScan 0 [1]).check = some .zones
    ∧ (Instr.isaIllegalOpcode 0 0x40).check = some .opcode ∧ (Instr.trapEntry 0 0x0F 0).check = some .cause
    ∧ (Instr.badCommand 0xFF).check = some .code ∧ (Instr.config { someConfig with pos := 3 }).check = some .map
    ∧ (Instr.cuffArrival 0 true 0 [] [0]).check = some .words ∧ (Instr.fparamReceive ⟨0, { someParams with fidx := 32 }⟩).check = some .table := by
  decide +kernel

theorem test_wf_accepts : (Instr.frameStart 0 someMeas).wf = true ∧ (Instr.badCommand 0x00).wf = true
    ∧ (Instr.config someConfig).wf = true ∧ (Instr.isaIllegalOpcode 31 0x7F).wf = true
    ∧ (Instr.fparamReceive ⟨1, someParams⟩).wf = true := by decide +kernel

/-! ### The spec's worked examples -/

/-- Table 0 of the example after 06 R155: LISTEN 20 µs and 8 measurements (field 7), BURST 0 to 159 with 256 chips from code 1, SELF of
the receive electrodes with the guard for 50 units. -/
theorem test_scan_words : decodeWord 0x10001407 = .listen 20 7 ∧ decodeWord 0x8013F004 = .burst 0 159 2 1 ∧ codeLen 2 = 256
    ∧ decodeWord 0x22F00032 = .self 0 1 15 50 ∧ decodeWord 0 = .finish := by decide +kernel

/-- The instructions whose bytes 10 and 11 write out: ADD <0x40, [0x10]+, #3, MOV >0x2104, <0x41, QATAN <0x50, <0x40, <0x42 and
SPEAK <0x78, [0x10], <0x70; and an opcode in a reserved cell. -/
theorem test_instruction_words :
    decodeIsa 0 [0x00, 0x14, 0x00, 0x40, 0x10, 0x03] = some (.isaAdd 0 ⟨1, 4, 0, 0, 0x40, 0x10, 3⟩)
    ∧ decodeIsa 0 [0x40, 0x21, 0x00, 0x04, 0x21, 0x41] = some (.isaMov 0 ⟨2, 1, 0, 0, 0x2104, 0x41, 0⟩)
    ∧ decodeIsa 0 [0xC4, 0x11, 0x10, 0x50, 0x40, 0x42] = some (.isaQatan 0 ⟨1, 1, 1, 0, 0x50, 0x40, 0x42⟩)
    ∧ decodeIsa 0 [0xD0, 0x13, 0x10, 0x78, 0x10, 0x70] = some (.isaSpeak 0 ⟨1, 3, 1, 0, 0x78, 0x10, 0x70⟩)
    ∧ decodeIsa 0 [0x15, 0x00, 0x00] = some (.isaIllegalOpcode 0 0x15) := by decide +kernel

/-- The opcodes of the map are the defined ones, each once. -/
theorem test_opcode_map : opcodeMap.map Opcode.byte = definedOpcodes ∧ (opcodeMap.map Opcode.byte).Nodup := by decide +kernel

/-- FIPS 180-4's example for SHA-256: the digest of "abc". -/
theorem test_sha256_abc :
    sha256 [0x61, 0x62, 0x63] = 0xba7816bf8f01cfea414140de5dae2223b00361a396177a9cb410ff61f20015ad := by decide +kernel

/-- The CRC-32 of "123456789" is 0xCBF43926, as for every reflected CRC-32 of polynomial 0x04C11DB7. -/
theorem test_crc32_check : crc32 [0x31, 0x32, 0x33, 0x34, 0x35, 0x36, 0x37, 0x38, 0x39] = 0xCBF43926 := by decide +kernel

/-- An engine with bytes of local RAM, at a slot. -/
def atSlot (slot : Nat) (ram : List Host.Cell) (late : List Late) (f : Core → Core) : State :=
  running (fun c => f { c with slot := slot }) fun g => { g with ram := ram, late := late }

/-- A REP #4 governs the next instruction. -/
def four (c : Core) : Core := { c with rc := 4, pre := some ⟨0, 4, false, false, none⟩ }

/-- 10, "a value read too early": slot 2 still reads 0x20, and in slot 3 the byte is 5. -/
theorem test_value_read_too_early : (let s := atSlot 2 [(0x40, 0x20)] [⟨3, .ram 0x40, 5, false⟩] id
    let t := after (execIsaAdd 0 ⟨1, 1, 0, 0, 0x42, 0x40, 1⟩ s) s
    (t.eng 0).late = [⟨5, .ram 0x42, 0x21, false⟩] ∧ (t.eng 0).core.slot = 3 ∧ t.readPlace 0 (.ram 0x40) = 5) := by
  decide +kernel

/-- 10, "a 32-bit addition": REP #4 and ADDC [0x10]+, [0x10], [0x12]+ over 80 FF FF 12 and 90 00 00 00. -/
theorem test_32_bit_addition : (let s : State := atSlot 2 [(0x10, 0x20), (0x12, 0x30), (0x20, 0x80), (0x21, 0xFF), (0x22, 0xFF), (0x23, 0x12), (0x30, 0x90)] [] four;
      let t := after (execIsaAddc 0 ⟨4, 3, 4, 0, 0x10, 0x10, 0x12⟩ s) s
      (t.eng 0).core.slot = 6 ∧ (t.eng 0).core.fl.getLsbD 0 = false
        ∧ [t.readPlace 0 (.ram 0x20), ((t.eng 0).late.filter fun l => l.place = .ram 0x23).map Late.val |>.headD 0] = [0x10, 0x13]) := by
  decide +kernel

/-- 10, "a four-tap dot product": the products of 3, -2, 5, 1 and 10, 20, -4, 7. -/
theorem test_dot_product : (let s := atSlot 3 [(0x10, 0x20), (0x12, 0x30), (0x20, 3), (0x21, 0xFE), (0x22, 5), (0x23, 1), (0x30, 10), (0x31, 20), (0x32, 0xFC), (0x33, 7)] [] four;
      let t := after (execIsaMac 0 ⟨0, 4, 4, 0, 0, 0x10, 0x12⟩ s) s
      (t.eng 0).core.slot = 7 ∧ (t.eng 0).core.mh = 0 ∧ (t.eng 0).core.ml = 30
        ∧ (t.eng 0).core.prods = [⟨8, 65496, true⟩, ⟨9, 65516, true⟩, ⟨10, 7, true⟩]) := by
  decide +kernel

/-- 11, "locating a knob's owner": the angle of (64, -64), among those that the accuracy of QATAN allows, and the radius. -/
theorem test_knob : 57344 ∈ angleNear 64 (-64)
    ∧ (let s := atSlot 0 [(0x40, 0x40), (0x42, 0xC0), (0x43, 0xFF)] [] id
      let t := after (execIsaQhyp 0 ⟨1, 1, 1, 0, 0x52, 0x40, 0x42⟩ s) s
      ⟨24, .ram 0x52, 0x5A, true⟩ ∈ (t.eng 0).late ∧ ⟨24, .ram 0x53, 0, true⟩ ∈ (t.eng 0).late) := by
  decide +kernel

/-- 13, "writing DRIVE.VTXCTL": the write of code 7, and the pointer behind it. -/
theorem test_two_wire_write : (let s := joined []
      let t := after (execTwiTargetWrite 0x3C [0x14, 0x20, 7, 0, 0, 0] s) s
      t.get R.DRIVE_VTXCTL_CODE = 7 ∧ t.get R.TWOWIRE_PTR = 0x1424) := by
  decide +kernel

/-- 12, the example of quad mode: a read of PIPE.STAT at 60 MHz is in time with DUMMY = 8 and not with DUMMY = 0. -/
theorem test_host_underrun : (live [(R.HOSTPORT_CFG_LANES, 2), (R.HOSTPORT_CFG_DUMMY, 8)]).underrun 60000 = false
    ∧ (live [(R.HOSTPORT_CFG_LANES, 2), (R.HOSTPORT_CFG_DUMMY, 0)]).underrun 60000 = true := by decide +kernel

/-- 15, "a span change under a moving value": AOUT5 holds at the apron voltage, and a strobe during the hold comes after it. -/
theorem test_span_change : (let s := outputsLive [(R.AOUT_CTL_SRCB, 0), (R.AOUT_IN 5, 0x6000), (R.AOUT_ACT 5, 0x4000)]
      let t := after (execSpanChange .host 0x0400 s) s
      let u := after (execLdac t) t
      t.outState 5 = 3 ∧ u.get (R.AOUT_ACT 5) = 0x4000 ∧ (after (execSpanHoldEnd 5 u) u).get (R.AOUT_ACT 5) = 0x6000) := by
  decide +kernel

/-- The premises of CodeDivisionSeparatesLines: two lines with codes 1 and 2, and a constant compensation. -/
theorem witness_CodeDivisionSeparatesLines :
    0 < 1 ∧ 1 + [5, (-3 : Int)].length ≤ 2 ^ 6 ∧ (List.replicate 64 (1 : Int)).length = 2 ^ 6
    ∧ ((List.range 64).map fun j => 5 * walsh 1 j - 3 * walsh 2 j - 1000).length = 1 * 2 ^ 6
    ∧ ∀ j < 1 * 2 ^ 6, 768 * ((List.range 64).map fun j => 5 * walsh 1 j - 3 * walsh 2 j - 1000).getD j 0 =
      768 * ((List.range 2).map fun i => [5, (-3 : Int)].getD i 0 * walsh (1 + i) (j % 2 ^ 6)).sum
        - (List.replicate 64 (1 : Int)).getD (j % 2 ^ 6) 0 * (1000 * 2 ^ 0 * (768 : Nat)) := by decide +kernel

/-- Worked value of 15 R392's example: code 0x8000 in UNI-HALF at VREFA = 10 V is 2.5 V. -/
theorem test_span_volts : spanVolts 1 0x8000 * 10000 = 2500 * 131072 := by decide

end Sys2Proof.Tests
end

/-! ### The Walsh codes (04 R98)

A code is a character of the XOR of indices: chip by chip, the product of two codes is the code of the XOR of their
numbers. The orthogonality of two codes is then the balance of one code other than code 0: flipping in the chip index a
bit that the code's number has pairs each chip with one of the opposite sign. -/

namespace Sys2Proof.Machine

theorem oddBits_succ (k n : Nat) : oddBits (k + 1) n = (n.testBit 0 ^^ oddBits k (n / 2)) := by
  rw [Nat.testBit_zero]
  rfl

theorem oddBits_zero (k : Nat) : oddBits k 0 = false := by
  induction k with
  | zero => rfl
  | succ k ih => simp [oddBits_succ, ih]

theorem oddBits_xor (k m n : Nat) : oddBits k (m ^^^ n) = (oddBits k m ^^ oddBits k n) := by
  induction k generalizing m n with
  | zero => rfl
  | succ k ih =>
    rw [oddBits_succ, oddBits_succ, oddBits_succ, Nat.testBit_xor, Nat.xor_div_two, ih]
    simp only [Bool.xor_assoc, Bool.xor_left_comm]

/-- A single one bit is counted when it is among the bits looked at. -/
theorem oddBits_two_pow {k i : Nat} (hi : i < k) : oddBits k (2 ^ i) = true := by
  induction k generalizing i with
  | zero => omega
  | succ k ih =>
    cases i with
    | zero => simp [oddBits_succ, oddBits_zero]
    | succ i =>
      have half : 2 ^ (i + 1) / 2 = 2 ^ i := by omega
      simp [oddBits_succ, half, ih (Nat.lt_of_succ_lt_succ hi)]

/-- `oddBits` is the parity of the count of one bits. -/
theorem sign_oddBits (k n : Nat) :
    (if oddBits k n then -1 else 1 : Int) = (-1) ^ (List.range k).countP fun i => n.testBit i := by
  induction k generalizing n with
  | zero => rfl
  | succ k ih =>
    have tail : (List.range k).countP ((fun i => n.testBit i) ∘ Nat.succ)
        = (List.range k).countP fun i => (n / 2).testBit i := by
      simp only [Function.comp_def, Nat.succ_eq_add_one, Nat.testBit_succ]
    rw [List.range_succ_eq_map, List.countP_cons, List.countP_map, tail, pow_add, ← ih]
    cases hlow : n.testBit 0 <;> cases hrest : oddBits k (n / 2) <;> simp [oddBits_succ, hlow, hrest]

theorem walsh_zero (j : Nat) : walsh 0 j = 1 := by simp [walsh, oddBits_zero]

theorem walsh_comm (w j : Nat) : walsh w j = walsh j w := by simp only [walsh, Nat.and_comm]

theorem walsh_mul (a b j : Nat) : walsh a j * walsh b j = walsh (a ^^^ b) j := by
  simp only [walsh, Nat.and_xor_distrib_right, oddBits_xor]
  cases oddBits 9 (a &&& j) <;> cases oddBits 9 (b &&& j) <;> rfl

theorem walsh_two_pow {w i : Nat} (hi : i < 9) (hw : w.testBit i = true) : walsh w (2 ^ i) = -1 := by
  simp [walsh, Nat.and_two_pow, hw, oddBits_two_pow hi]

/-- Flipping a bit of the chip index that the code's number has changes the sign of the chip. -/
theorem walsh_flip {w i : Nat} (hi : i < 9) (hw : w.testBit i = true) (j : Nat) :
    walsh w (j ^^^ 2 ^ i) = -walsh w j := by
  rw [walsh_comm, ← walsh_mul, walsh_comm j, walsh_comm (2 ^ i), walsh_two_pow hi hw, mul_neg_one]

/-- Every code but code 0 has as many chips of +1 as of -1. -/
theorem sum_walsh_eq_zero {k w : Nat} (hk : k ≤ 9) (hw : w < 2 ^ k) (h0 : w ≠ 0) :
    ∑ j ∈ Finset.range (2 ^ k), walsh w j = 0 := by
  obtain ⟨i, hbit⟩ := Nat.exists_testBit_of_ne_zero h0
  have hi : i < k := (Nat.pow_lt_pow_iff_right Nat.one_lt_two).mp ((Nat.ge_two_pow_of_testBit hbit).trans_lt hw)
  have flip : ∀ j, walsh w (j ^^^ 2 ^ i) = -walsh w j := walsh_flip (hi.trans_le hk) hbit
  refine Finset.sum_involution (fun j _ => j ^^^ 2 ^ i) ?opposite ?moves ?inRange ?involutive
  case opposite => exact fun j _ => by rw [flip, add_neg_cancel]
  case moves =>
    intro j _ hne heq
    have := flip j
    rw [heq] at this
    omega
  case inRange =>
    exact fun j hj => Finset.mem_range.mpr
      (Nat.xor_lt_two_pow (Finset.mem_range.mp hj) (Nat.pow_lt_pow_right Nat.one_lt_two hi))
  case involutive => exact fun j _ => Nat.xor_xor_cancel_right j (2 ^ i)

theorem sum_walsh_mul_walsh {k a b : Nat} (hk : k ≤ 9) (ha : a < 2 ^ k) (hb : b < 2 ^ k) :
    ((List.range (2 ^ k)).map fun j => walsh a j * walsh b j).sum = if a = b then 2 ^ k else 0 := by
  simp only [walsh_mul]
  split
  next heq => simp [heq, walsh_zero]
  next hne => exact sum_walsh_eq_zero hk (Nat.xor_lt_two_pow ha hb) (mt Nat.xor_eq_zero_iff.mp hne)

/-- Settles O58: the codes are the parities of R98, and their products are codes again, which are balanced. -/
theorem walshCodes : Obligations.WalshCodes :=
  ⟨fun w j _ _ => sign_oddBits 9 (w &&& j), walsh_zero, fun _ _ hk _ _ ha hb => sum_walsh_mul_walsh hk ha hb⟩

end Sys2Proof.Machine

/-! ### One engine of the block

What a change of one engine, a run of slots on which nothing arrives, and a halt make of the engine: the facts that the
statements about the engines share. -/

namespace Sys2Proof.Machine

theorem upd_eq_modify {α : Type} (l : List α) (i : Nat) (f : α → α) : upd l i f = l.modify i f := by
  induction l generalizing i with
  | nil => cases i <;> rfl
  | cons a t ih => cases i with
    | zero => rfl
    | succ i => simp [upd, ih]

@[simp] theorem length_engines_setEng (s : State) (e : Nat) (f : Engine → Engine) :
    (s.setEng e f).engines.length = s.engines.length := by
  simp [State.setEng, upd_eq_modify]

/-- A changed engine is what the change makes of it. -/
theorem eng_setEng {s : State} {e : Nat} (here : e < s.engines.length) (f : Engine → Engine) :
    (s.setEng e f).eng e = f (s.eng e) := by
  simp [State.eng, State.setEng, upd_eq_modify, here]

/-- An engine that the block does not have stays at its reset state. -/
theorem eng_of_length_le {s : State} {e : Nat} (h : s.engines.length ≤ e) : s.eng e = Engine.reset e := by
  simp [State.eng, h]

theorem eng_congr {s t : State} (h : t.engines = s.engines) (e : Nat) : t.eng e = s.eng e := by
  unfold State.eng
  rw [h]

theorem setEng_setEng (s : State) (e : Nat) (f g : Engine → Engine) :
    (s.setEng e f).setEng e g = s.setEng e fun x => g (f x) := by
  simp only [State.setEng, upd_eq_modify, List.modify_modify_eq]
  rfl

/-- Changes that agree on the engine as it stands are one change. -/
theorem setEng_congr {s : State} {e : Nat} {f g : Engine → Engine} (h : f (s.eng e) = g (s.eng e)) :
    s.setEng e f = s.setEng e g := by
  have engines : s.engines.modify e f = s.engines.modify e g := by
    apply List.ext_getElem?
    intro i
    by_cases hi : e = i
    · subst hi
      cases here : s.engines[e]? with
      | none => simp [here]
      | some x => simpa [State.eng, here, List.getD_eq_getElem?_getD] using h
    · simp [hi]
  simp only [State.setEng, upd_eq_modify, engines]

/-- A change that leaves the engine as it stands is none. -/
theorem setEng_eq_self {s : State} {e : Nat} {f : Engine → Engine} (h : f (s.eng e) = s.eng e) : s.setEng e f = s := by
  rw [setEng_congr (g := id) h]
  simp [State.setEng, upd_eq_modify]

/-! ### Slots on which nothing arrives -/

/-- Nothing that is on its way to the engine arrives up to slot `j`. -/
structure Engine.Quiet (g : Engine) (j : Nat) : Prop where
  prods : ∀ p ∈ g.core.prods, j < p.due
  quot : ∀ q ∈ g.core.quot, j < q.1
  sloe : g.core.sloe = none
  late : ∀ w ∈ g.late, j < w.due
  hidden : ∀ h ∈ g.hidden, j < h.1

/-- Slots and stall cycles go by on the engine's counters. -/
def Core.elapse (c : Core) (slots stall : Nat) : Core :=
  { c with slot := c.slot + slots, cyc := c.cyc + slots + stall }

/-- Slots and stall cycles that bring no result: time goes by, and the reservation ages. -/
def Engine.elapse (g : Engine) (slots stall : Nat) : Engine :=
  { g with
    core := (g.core.elapse slots stall).ageRsv
    busy := (g.busy + slots + stall) % 2 ^ 32
    stall := (g.stall + stall) % 2 ^ 32 }

theorem Core.ageRsv_eq (c : Core) : ∃ r, c.ageRsv = { c with rsv := r } := by
  unfold Core.ageRsv
  split
  · split
    · exact ⟨none, rfl⟩
    · exact ⟨c.rsv, rfl⟩
  · exact ⟨c.rsv, rfl⟩

theorem Engine.elapse_core (g : Engine) (slots stall : Nat) :
    ∃ r, (g.elapse slots stall).core = { g.core.elapse slots stall with rsv := r } :=
  Core.ageRsv_eq (g.core.elapse slots stall)

theorem Engine.quiet_elapse {g : Engine} {slots stall j : Nat} (h : g.Quiet j) : (g.elapse slots stall).Quiet j := by
  obtain ⟨r, core⟩ := g.elapse_core slots stall
  obtain ⟨prods, quot, sloe, late, hidden⟩ := h
  constructor
  case prods => rw [core]; exact prods
  case quot => rw [core]; exact quot
  case sloe => rw [core]; exact sloe
  case late => exact late
  case hidden => exact hidden

theorem Engine.slot_elapse (g : Engine) (slots stall : Nat) : (g.elapse slots stall).core.slot = g.core.slot + slots := by
  obtain ⟨r, core⟩ := g.elapse_core slots stall
  rw [core]
  rfl

theorem Core.takeProducts_of_none_due {c : Core} {j : Nat} (h : ∀ p ∈ c.prods, j < p.due) : c.takeProducts j = c := by
  have due : (c.prods.filter fun p => p.due ≤ j) = [] :=
    List.filter_eq_nil_iff.mpr fun p hp => by simpa using h p hp
  have later : (c.prods.filter fun p => j < p.due) = c.prods :=
    List.filter_eq_self.mpr fun p hp => by simpa using h p hp
  simp [Core.takeProducts, due, later]

theorem Core.takeQuot_of_not_due {c : Core} (h : ∀ q ∈ c.quot, c.slot < q.1) : c.takeQuot = c := by
  unfold Core.takeQuot
  split
  next due q r hq => exact if_neg (Nat.not_le.mpr (h _ hq))
  next => rfl

theorem noteSloe_of_none {s : State} {e : Nat} (h : (s.eng e).core.sloe = none) : s.noteSloe e = s := by
  unfold State.noteSloe
  rw [h]

/-- No byte that left the buffer early is due: the engine sees what it saw. -/
theorem reveal_of_none_due {s : State} {e due issued : Nat} (h : ∀ x ∈ (s.eng e).hidden, due < x.1) :
    s.reveal e due issued = s := by
  refine setEng_eq_self ?_
  have keep : ((s.eng e).hidden.filter fun x => !(x.1 < due || (x.1 = due && x.1 - 3 ≤ issued))) = (s.eng e).hidden :=
    List.filter_eq_self.mpr fun x hx => by
      have := h x hx
      simp
      omega
  rw [keep]

theorem commitSome_of_none_due {s : State} {e : Nat} (p : Late → Bool)
    (h : ∀ w ∈ (s.eng e).late, (s.eng e).core.slot < w.due) : s.commitSome e p = s := by
  have due : ((s.eng e).late.filter fun w => w.due ≤ (s.eng e).core.slot && p w) = [] :=
    List.filter_eq_nil_iff.mpr fun w hw => by simp [Nat.not_le.mpr (h w hw)]
  have keep : ((s.eng e).late.filter fun w => !(w.due ≤ (s.eng e).core.slot && p w)) = (s.eng e).late :=
    List.filter_eq_self.mpr fun w hw => by simp [Nat.not_le.mpr (h w hw)]
  unfold State.commitSome
  simp only [due, List.foldl_nil]
  exact setEng_eq_self (by rw [keep])

theorem commitDue_of_quiet {s : State} {e : Nat} (h : (s.eng e).Quiet (s.eng e).core.slot) : s.commitDue e = s := by
  unfold State.commitDue
  simp only [commitSome_of_none_due _ h.late, reveal_of_none_due h.hidden, noteSloe_of_none h.sloe]

/-- Slots that bring no result pass: time goes on, and no more. -/
theorem pass_of_quiet {s : State} {e slots : Nat} (stall : Nat) (here : e < s.engines.length)
    (h : (s.eng e).Quiet ((s.eng e).core.slot + slots)) :
    s.pass e slots stall = s.setEng e fun g => g.elapse slots stall := by
  have core : (((s.eng e).core.elapse slots stall).takeProducts ((s.eng e).core.slot + slots)).takeQuot
      = (s.eng e).core.elapse slots stall := by
    rw [Core.takeProducts_of_none_due (c := (s.eng e).core.elapse slots stall) h.prods,
      Core.takeQuot_of_not_due (c := (s.eng e).core.elapse slots stall) h.quot]
  have eng : (s.setEng e fun g => g.elapse slots stall).eng e = (s.eng e).elapse slots stall := eng_setEng here _
  have quiet : ((s.eng e).elapse slots stall).Quiet ((s.eng e).elapse slots stall).core.slot := by
    rw [Engine.slot_elapse]
    exact Engine.quiet_elapse h
  unfold State.pass
  dsimp only
  rw [setEng_congr (g := fun g => g.elapse slots stall) (congrArg (fun c => { s.eng e with
      core := Core.ageRsv c, busy := ((s.eng e).busy + slots + stall) % 2 ^ 32
      stall := ((s.eng e).stall + stall) % 2 ^ 32 }) core), noteSloe_of_none (by rw [eng]; exact quiet.sloe)]
  unfold State.arrive
  simp only [eng, quiet.sloe]
  exact commitDue_of_quiet (by rw [eng]; exact quiet)

/-! ### The stack: SP, and the bytes that are on their way to local RAM -/

theorem Late.mem_place_ {w x : Late} {l : List Late} : w ∈ x.place_ l ↔ w = x ∨ w ∈ l := by
  induction l with
  | nil => simp [Late.place_]
  | cons h t ih =>
    unfold Late.place_
    split
    · simp
    · simp [ih, or_left_comm]

/-- SP stays, and so does every write on its way that does not wait in the write buffer. -/
structure Engine.KeepsStack (g g' : Engine) : Prop where
  sp : g'.core.sp = g.core.sp
  late : ∀ w ∈ g.late, w.buffered = false → w ∈ g'.late

theorem Engine.KeepsStack.refl (g : Engine) : g.KeepsStack g := ⟨rfl, fun _ hw _ => hw⟩

theorem Engine.KeepsStack.trans {g h k : Engine} (a : g.KeepsStack h) (b : h.KeepsStack k) : g.KeepsStack k :=
  ⟨b.sp.trans a.sp, fun w hw hb => b.late w (a.late w hw hb) hb⟩

theorem Engine.keepsStack_elapse (g : Engine) (slots stall : Nat) : g.KeepsStack (g.elapse slots stall) := by
  obtain ⟨r, core⟩ := g.elapse_core slots stall
  exact ⟨by rw [core]; rfl, fun _ hw _ => hw⟩

theorem keepsStack_setEng {s : State} {e : Nat} {f : Engine → Engine} (here : e < s.engines.length)
    (h : (s.eng e).KeepsStack (f (s.eng e))) : (s.eng e).KeepsStack ((s.setEng e f).eng e) := by
  rwa [eng_setEng here]

theorem keepsStack_breakLines (s : State) (by_ lo hi e : Nat) : (s.eng e).KeepsStack ((s.breakLines by_ lo hi).eng e) := by
  unfold State.eng State.breakLines
  cases here : s.engines[e]? with
  | none => simp [List.getD_eq_getElem?_getD, here, Engine.KeepsStack.refl]
  | some g =>
    simp only [List.getD_eq_getElem?_getD, List.getElem?_map, List.getElem?_zipIdx, here, Option.map_some, Option.getD_some]
    split
    · split
      · exact ⟨rfl, fun _ hw _ => hw⟩
      · exact .refl g
    · exact .refl g

theorem keepsStack_leaveBuffer {s : State} {e : Nat} (here : e < s.engines.length) (w : Late) :
    (s.eng e).KeepsStack ((s.leaveBuffer e w).eng e) := by
  unfold State.leaveBuffer
  split
  · exact (keepsStack_setEng here ⟨rfl, fun _ hw _ => hw⟩).trans (keepsStack_breakLines _ _ _ _ _)
  · exact .refl _

theorem length_engines_leaveBuffer (s : State) (e : Nat) (w : Late) :
    (s.leaveBuffer e w).engines.length = s.engines.length := by
  unfold State.leaveBuffer
  split
  · simp [State.frameWrite, State.breakLines]
  · rfl

theorem keepsStack_leaveBuffers {e : Nat} (l : List Late) {s : State} (here : e < s.engines.length) :
    (s.eng e).KeepsStack ((l.foldl (fun s w => s.leaveBuffer e w) s).eng e)
      ∧ (l.foldl (fun s w => s.leaveBuffer e w) s).engines.length = s.engines.length := by
  induction l generalizing s with
  | nil => exact ⟨.refl _, rfl⟩
  | cons w t ih =>
    have len := length_engines_leaveBuffer s e w
    obtain ⟨stack, len'⟩ := ih (s := s.leaveBuffer e w) (len ▸ here)
    exact ⟨(keepsStack_leaveBuffer here w).trans stack, len'.trans len⟩

theorem keepsStack_drain {s : State} {e : Nat} (here : e < s.engines.length) :
    (s.eng e).KeepsStack ((s.drain e).eng e) ∧ (s.drain e).engines.length = s.engines.length := by
  unfold State.drain
  dsimp only
  have emptied := keepsStack_setEng (f := fun g => { g with late := g.late.filter fun w => !w.buffered, wbuf := [] }) here
    ⟨rfl, fun w hw hb => by simp [hw, hb]⟩
  obtain ⟨stack, len⟩ := keepsStack_leaveBuffers ((s.eng e).late.filter Late.buffered)
    (s := s.setEng e fun g => { g with late := g.late.filter fun w => !w.buffered, wbuf := [] })
    ((length_engines_setEng s e _).symm ▸ here)
  exact ⟨emptied.trans stack, len.trans (length_engines_setEng s e _)⟩

theorem keepsStack_haltEng {s : State} {e : Nat} (here : e < s.engines.length) :
    (s.eng e).KeepsStack ((s.haltEng e).eng e) := by
  obtain ⟨stack, len⟩ := keepsStack_drain here
  exact stack.trans (keepsStack_setEng (len.symm ▸ here) ⟨rfl, fun _ hw _ => hw⟩)

theorem keepsStack_boundary {s : State} {e : Nat} (here : e < s.engines.length) :
    (s.eng e).KeepsStack ((s.boundary e).eng e) := by
  unfold State.boundary
  dsimp only
  split
  · exact keepsStack_haltEng here
  · exact .refl _

theorem length_engines_pushReturn (s : State) (e : Nat) (next : BitVec 16) :
    (s.pushReturn e next).engines.length = s.engines.length := by
  unfold State.pushReturn
  split
  · exact length_engines_setEng _ _ _
  · rfl

/-- The return address of a CALL comes on top of what is on its way. -/
theorem keepsStack_pushReturn {s : State} {e : Nat} (here : e < s.engines.length) (next : BitVec 16) :
    (s.eng e).KeepsStack ((s.pushReturn e next).eng e) := by
  unfold State.pushReturn
  split
  · exact keepsStack_setEng here ⟨rfl, fun w hw _ => by simp [Late.mem_place_, hw]⟩
  · exact .refl _

theorem keepsStack_setCore {s : State} {e : Nat} {f : Core → Core} (here : e < s.engines.length)
    (h : (f (s.eng e).core).sp = (s.eng e).core.sp) : (s.eng e).KeepsStack ((s.setCore e f).eng e) :=
  keepsStack_setEng here ⟨h, fun _ hw _ => hw⟩

theorem keepsStack_proceed {s : State} {e : Nat} (here : e < s.engines.length) (next : BitVec 16) :
    (s.eng e).KeepsStack ((s.proceed e next).eng e) := by
  unfold State.proceed
  cases (s.eng e).core.delay with
  | flow t leave =>
    dsimp only
    split
    · exact (keepsStack_setCore here (by rfl)).trans
        (keepsStack_setEng ((length_engines_setEng s e _).symm ▸ here) ⟨rfl, fun _ hw _ => hw⟩)
    · exact keepsStack_setCore here (by rfl)
  | none | call | reti => exact keepsStack_setCore here (by rfl)

theorem keepsStack_follow {s : State} {e : Nat} (here : e < s.engines.length) (len : Nat) :
    (s.eng e).KeepsStack ((s.follow e len).eng e) :=
  (keepsStack_pushReturn here _).trans (keepsStack_proceed ((length_engines_pushReturn s e _).symm ▸ here) _)

theorem length_engines_proceed (s : State) (e : Nat) (next : BitVec 16) :
    (s.proceed e next).engines.length = s.engines.length := by
  unfold State.proceed
  cases (s.eng e).core.delay with
  | flow t leave => cases leave <;> simp [State.setCore]
  | none | call | reti => exact length_engines_setEng _ _ _

theorem length_engines_follow (s : State) (e len : Nat) : (s.follow e len).engines.length = s.engines.length :=
  (length_engines_proceed _ _ _).trans (length_engines_pushReturn _ _ _)

/-! ### The issue of an instruction -/

/-- An engine that issues meets no halt, no breakpoint and no event at its boundary. -/
theorem atBoundary_of_issues {s : State} {e : Nat} (h : s.Issues e) (go : State → State) :
    s.atBoundary e go = (go (Run.start s e).s).boundary e := by
  obtain ⟨-, may, calm, -⟩ := h
  unfold State.atBoundary
  by_cases running : (s.eng e).state = .run
  · obtain ⟨noHalt, noStop, noEvent⟩ := calm running
    have stops : s.stopsAt e = false := by
      rcases noStop with h | h <;> simp [State.stopsAt, h]
    have calmly : (if (s.eng e).state = .run && (s.eng e).core.permitted && !(s.eng e).brk then (s.eng e).eventVector
        else none) = none := by
      split
      next due =>
        simp only [Bool.and_eq_true] at due
        exact noEvent due.1.2
      next => rfl
    simp only [may, noHalt, stops, calmly, Bool.not_true, Bool.and_false, Bool.false_eq_true, if_false]
      <;> rfl
  · simp [may, running, State.stopsAt] <;> rfl

theorem issue_of_issues {s : State} {e : Nat} {sh : Shape} {w : Enc} (h : s.Issues e) (ok : sh.check w = none)
    (body : Run → Run) : s.issue e sh w body = ((Run.start s e).s.single e (sh.len w) body).boundary e := by
  have alone : ((Run.start s e).s.eng e).core.pre = none := by
    simpa [Run.start, eng_setEng h.here] using h.alone
  unfold State.issue
  rw [atBoundary_of_issues h]
  simp only [alone, ok]

/-- An instruction that meets no execution cause takes its slot, and the engine goes on behind it. -/
theorem single_of_no_cause {s : State} {e len : Nat} {body : Run → Run}
    (slot : ((body ⟨s, [], 0, [], false⟩).s.eng e).core.slot = (s.eng e).core.slot)
    (causes : (body ⟨s, [], 0, [], false⟩).causes = []) :
    s.single e len body = ((body ⟨s, [], 0, [], false⟩).s.pass e 1 (body ⟨s, [], 0, [], false⟩).stall).follow e len := by
  simp [State.single, slot, causes, leastCause]

theorem eng_start {s : State} {e : Nat} (here : e < s.engines.length) :
    (Run.start s e).s.eng e = { s.eng e with pass := false, brk := false } := eng_setEng here _

/-- Once an instruction that meets no cause has done what it does, its slot, its delay slot and its boundary leave SP and
what is on its way to local RAM alone. -/
theorem keepsStack_issue {s : State} {e : Nat} {sh : Shape} {w : Enc} {body : Run → Run} (h : s.Issues e)
    (ok : sh.check w = none) (here : e < (body (Run.start s e)).s.engines.length)
    (causes : (body (Run.start s e)).causes = [])
    (slot : ((body (Run.start s e)).s.eng e).core.slot = (s.eng e).core.slot)
    (quiet : ((body (Run.start s e)).s.eng e).Quiet ((s.eng e).core.slot + 1)) :
    ((body (Run.start s e)).s.eng e).KeepsStack ((s.issue e sh w body).eng e) := by
  have started : ((Run.start s e).s.eng e).core.slot = (s.eng e).core.slot := by rw [eng_start h.here]
  have single : (Run.start s e).s.single e (sh.len w) body
      = ((body (Run.start s e)).s.pass e 1 (body (Run.start s e)).stall).follow e (sh.len w) :=
    single_of_no_cause (slot.trans started.symm) causes
  rw [issue_of_issues h ok, single]
  have passed : ((body (Run.start s e)).s.eng e).KeepsStack
      (((body (Run.start s e)).s.pass e 1 (body (Run.start s e)).stall).eng e) := by
    rw [pass_of_quiet _ here (slot ▸ quiet)]
    exact keepsStack_setEng here (Engine.keepsStack_elapse _ _ _)
  have herePassed : e < ((body (Run.start s e)).s.pass e 1 (body (Run.start s e)).stall).engines.length := by
    rwa [pass_of_quiet _ here (slot ▸ quiet), length_engines_setEng]
  exact (passed.trans (keepsStack_follow herePassed _)).trans
    (keepsStack_boundary ((length_engines_follow _ e _).symm ▸ herePassed))

/-- A store into local RAM is on its way there, under XMODE too (log 24). -/
theorem store_ram (r : Run) (e : Nat) {a : Nat} (h : a < 0x1000) (v : Byte) :
    r.store e a v = { r with s := r.s.later e 3 (.ram a) v } := by
  have place : (r.s.eng e).place a = some (.ram a) := by
    simp [Engine.place, Nat.mod_eq_of_lt (show a < 65536 by omega), h]
  simp [Run.store, place, Engine.accepts]

/-- SP takes a byte; a product that is not due in the next slot goes on. -/
theorem setSpecial_sp {r : Run} {e : Nat} (prods : ∀ p ∈ (r.core e).prods, (r.core e).slot + 1 < p.due) (v : Byte) :
    r.setSpecial e 2 v = { r with s := r.s.setCore e fun c => { c with sp := v } } := by
  have none_due : ((r.s.eng e).core.prods.any fun p => p.due ≤ (r.s.eng e).core.slot + 1 && !p.mac) = false := by
    simp only [List.any_eq_false, Bool.and_eq_true, decide_eq_true_eq]
    exact fun p hp ⟨due, _⟩ => Nat.not_le.mpr (prods p hp) due
  have change : r.s.setCore e (fun c =>
      let now := c.prods.any fun p => p.due ≤ c.slot + 1 && !p.mac
      (if now then c.takeProducts (c.slot + 1) else c).setSpecial 2 v) = r.s.setCore e fun c => { c with sp := v } :=
    setEng_congr (by simp only [none_due, Bool.false_eq_true, if_false]; rfl)
  unfold Run.setSpecial
  rw [if_neg (by simp)]
  exact congrArg (fun t => { r with s := t }) change

theorem eng_later {s : State} {e : Nat} (here : e < s.engines.length) (n : Nat) (p : Place) (v : Byte) :
    (s.later e n p v).eng e = { s.eng e with late := Late.place_ ⟨(s.eng e).core.slot + n, p, v, false⟩ (s.eng e).late } :=
  eng_setEng here _

/-! ### PUSH of a literal (11 R299) -/

/-- What the instruction does: the byte goes to the byte below SP, and SP points there. -/
def pushLiteral (e : Nat) (v : BitVec 16) (r : Run) : Run :=
  let sp := (r.core e).sp - 1
  (r.store e sp.toNat (BitVec.ofNat 8 v.toNat)).setSpecial e 2 sp

theorem execIsaPush_literal (s : State) (e : Fin 32) (v : BitVec 16) :
    execIsaPush e ⟨0, 0, 0, 0, 0, v, 0⟩ s =
      done s (s.issue e (.plain .none .s .none) ⟨0, 0, 0, 0, 0, v, 0⟩ (pushLiteral e v)) := rfl

/-- An engine behind a push of a byte. -/
def Engine.pushed (g : Engine) (v : Byte) : Engine :=
  { g with
    core := { g.core with sp := g.core.sp - 1 }
    late := Late.place_ ⟨g.core.slot + 3, .ram (g.core.sp - 1).toNat, v, false⟩ g.late }

theorem pushLiteral_eq {r : Run} {e : Nat} (here : e < r.s.engines.length) (v : BitVec 16)
    (prods : ∀ p ∈ (r.core e).prods, (r.core e).slot + 1 < p.due) :
    pushLiteral e v r = { r with s := r.s.setEng e fun g => g.pushed (BitVec.ofNat 8 v.toNat) } := by
  have near : ((r.core e).sp - 1).toNat < 0x1000 := Nat.lt_trans ((r.core e).sp - 1).isLt (by decide)
  have stored := store_ram r e near (BitVec.ofNat 8 v.toNat)
  have core : (r.store e ((r.core e).sp - 1).toNat (BitVec.ofNat 8 v.toNat)).core e = r.core e := by
    rw [stored, Run.core, eng_later here]
    rfl
  unfold pushLiteral
  dsimp only
  rw [setSpecial_sp (by rwa [core]), stored]
  simp only [State.setCore, State.later, setEng_setEng]
  congr 1
  exact setEng_congr rfl

theorem Engine.quiet_pushed {g : Engine} (v : Byte) (h : g.Quiet (g.core.slot + 1)) : (g.pushed v).Quiet (g.core.slot + 1) := by
  obtain ⟨prods, quot, sloe, late, hidden⟩ := h
  refine ⟨prods, quot, sloe, fun w hw => ?_, hidden⟩
  rcases Late.mem_place_.mp hw with rfl | old
  · exact Nat.add_lt_add_left (by decide) _
  · exact late w old

/-- PUSH of a literal sends its byte to the near page below SP, and SP points there. -/
theorem push_literal {s : State} {e : Fin 32} (h : s.Issues e) (quiet : (s.eng e).Quiet ((s.eng e).core.slot + 1))
    (v : BitVec 16) : Completes (.isaPush e ⟨0, 0, 0, 0, 0, v, 0⟩) s fun t =>
      ⟨(s.eng e).core.slot + 3, .ram ((s.eng e).core.sp - 1).toNat, BitVec.ofNat 8 v.toNat, false⟩ ∈ (t.eng e).late
        ∧ (t.eng e).core.sp = (s.eng e).core.sp - 1 := by
  have ok : (Shape.plain .none .s .none).check ⟨0, 0, 0, 0, 0, v, 0⟩ = none := by
    simp [Shape.check, Shape.plain, Pos.modes, badSpecial]
  have here : e.val < (Run.start s e).s.engines.length := (length_engines_setEng s e _).symm ▸ h.here
  have start := eng_start h.here
  have run := pushLiteral_eq here v (by rw [Run.core, start]; exact quiet.prods)
  have eng : (pushLiteral e v (Run.start s e)).s.eng e
      = { (s.eng e).pushed (BitVec.ofNat 8 v.toNat) with pass := false, brk := false } := by
    rw [run, eng_setEng here, start]
    rfl
  have stillQuiet : ((pushLiteral e v (Run.start s e)).s.eng e).Quiet ((s.eng e).core.slot + 1) := by
    obtain ⟨prods, quot, sloe, late, hidden⟩ := Engine.quiet_pushed (BitVec.ofNat 8 v.toNat) quiet
    rw [eng]
    exact ⟨prods, quot, sloe, late, hidden⟩
  obtain ⟨sp, late⟩ := keepsStack_issue h ok (by rwa [run, length_engines_setEng]) (by rw [run]; rfl)
    (by rw [eng]; rfl) stillQuiet
  rw [eng] at sp late
  exact ⟨_, execIsaPush_literal s e v, late _ (Late.mem_place_.mpr (.inl rfl)) rfl, sp⟩

/-! ### Reset and restart (10 R290) -/

/-- An engine with the registers of reset and nothing on its way is cleared. -/
theorem cleared_of_core_reset {t : State} {e : Nat} (core : (t.eng e).core = Core.reset) (late : (t.eng e).late = [])
    (hidden : (t.eng e).hidden = []) : Cleared t e := by
  have special : ∀ n ≤ 8, t.special e n = 0 := by
    intro n hn
    interval_cases n <;> simp [State.special, Engine.ms, Core.qbusy, core, Core.reset, b2n, byteOf]
  unfold Cleared
  rw [core, late, hidden]
  exact ⟨rfl, special, rfl, rfl, rfl, rfl, rfl, rfl⟩

theorem eng_of_engines_reset {t : State} (h : t.engines = State.reset.engines) (e : Nat) : t.eng e = Engine.reset e := by
  rw [eng_congr h]
  by_cases he : e < 32 <;> simp [State.eng, State.reset, he]

theorem cleared_of_engines_reset {t : State} (h : t.engines = State.reset.engines) (e : Nat) : Cleared t e :=
  have eng := eng_of_engines_reset h e
  cleared_of_core_reset (by rw [eng]; rfl) (by rw [eng]; rfl) (by rw [eng]; rfl)

/-- Whether an engine is cleared shows in that engine alone. -/
theorem cleared_congr {s t : State} {e : Nat} (eng : t.eng e = s.eng e) (h : Cleared s e) : Cleared t e := by
  have special : ∀ n ≤ 8, t.special e n = s.special e n := by
    intro n hn
    interval_cases n <;> simp [State.special, eng]
  obtain ⟨pc, zero, rest⟩ := h
  unfold Cleared
  rw [eng]
  exact ⟨pc, fun n hn => (special n hn).trans (zero n hn), rest⟩

theorem cleared_finish {s t : State} {e : Nat} (h : Cleared t e) : Cleared (s.finish t) e :=
  cleared_congr (eng_congr (finish_engines s t) e) h

theorem engines_keepFields (s t : State) (l : List Fld) : (l.foldl s.keepField t).engines = t.engines := by
  induction l generalizing t with
  | nil => rfl
  | cons f l ih =>
    rw [List.foldl_cons, ih]
    unfold State.keepField
    split <;> rfl

theorem engines_deviceReset (s : State) (cause : Fld) (pins : StrapPins) :
    (s.deviceReset cause pins).engines = State.reset.engines :=
  engines_keepFields s (s.afterReset pins) resetKeeps

theorem completes_done {c : Instr} {s t : State} {P : State → Prop} (h : exec c s = done s t) (ht : P (s.finish t)) :
    Completes c s P := ⟨_, h, ht⟩

theorem completes_onlyIf {c : Instr} {s t : State} {b : Bool} {P : State → Prop} (h : exec c s = onlyIf b s t)
    (hb : b = true) (ht : P (s.finish t)) : Completes c s P :=
  completes_done (h.trans (if_pos hb)) ht

theorem bit_or_two_pow (n i : Nat) : bit (n ||| 2 ^ i) i = true := by
  have set : (n ||| 2 ^ i).testBit i = true := by simp
  rw [Nat.testBit_eq_decide_div_mod_eq] at set
  simpa [bit, Nat.shiftRight_eq_div_pow] using set

/-- A write that rejects nothing is its fields' work. -/
theorem fabricWrite_accepted {s t : State} {req : Requester} {addr p off w : Nat} (hp : addr / 256 = p)
    (ho : addr % 256 / 4 * 4 = off) (h20 : 0x20 ≤ off) (hc : ¬(p = 0x19 ∧ off = 0x20)) (hn : ¬(0x10 ≤ p ∧ p ≤ 0x14))
    (h : s.Admits req p off) (reg : s.writeReg p off w = (t, false)) : s.fabricWrite req addr w = t := by
  rw [fabricWrite_reg w hp ho h20 hc hn h, reg]
  rfl

theorem writeReg_engine (s : State) {e : Nat} (he : e < 32) (off w : Nat) :
    s.writeReg (0x30 + e) off w = s.writeEng e off w := by
  unfold State.writeReg
  split
  case h_38 => rw [if_pos (by simp; omega), Nat.add_sub_cancel_left]
  all_goals omega

/-- RESTART of an idle engine is the restart, whatever stands in the other fields. -/
theorem engCtl_restart {s : State} {e w : Nat} (idle : s.engIdle e = true) (hw : bit w 5 = true) :
    ∃ t, s.engCtl e w = (State.restart t e, false) := by
  unfold State.engCtl
  refine ⟨_, if_pos ?_⟩
  rw [hw, Bool.true_and]
  exact idle

/-- A change that gives an engine its reset registers and drops what is on its way clears it. -/
theorem cleared_setEng {s : State} {e : Nat} {f : Engine → Engine}
    (h : ∀ g, (f g).core = Core.reset ∧ (f g).late = [] ∧ (f g).hidden = []) : Cleared (s.setEng e f) e := by
  by_cases here : e < s.engines.length
  · obtain ⟨core, late, hidden⟩ := h (s.eng e)
    rw [← eng_setEng here f] at core late hidden
    exact cleared_of_core_reset core late hidden
  · have eng := eng_of_length_le (s := s.setEng e f) (e := e) (by simpa using here)
    exact cleared_of_core_reset (by rw [eng]; rfl) (by rw [eng]; rfl) (by rw [eng]; rfl)

theorem cleared_restart (s : State) (e : Nat) : Cleared (s.restart e) e :=
  cleared_setEng fun _ => ⟨rfl, rfl, rfl⟩

theorem Engine.quiet_of_cleared {s : State} {e : Nat} (h : Cleared s e) (j : Nat) : (s.eng e).Quiet j := by
  obtain ⟨-, -, -, prods, quot, sloe, late, hidden⟩ := h
  exact ⟨by simp [prods], by simp [quot], sloe, by simp [late], by simp [hidden]⟩

theorem cleared_deviceReset (s : State) (cause : Fld) (pins : StrapPins) (e : Nat) :
    Cleared (s.deviceReset cause pins) e :=
  cleared_of_engines_reset (engines_deviceReset s cause pins) e

theorem writeRstcmd_go (s : State) :
    s.writeRstcmd (b2n true + 65536 * (0x5A1D : BitVec 16).toNat)
      = (s.deviceReset R.DEVICE_RSTCAUSE_SOFT s.sup.pins, false) := rfl

theorem rstcmd_clears {s : State} {req : Requester} (h : s.Admits req 0x00 0x30) :
    Completes (.rstcmdReset req true 0x5A1D) s fun t => ∀ e : Fin 32, Cleared t e := by
  have write := fabricWrite_accepted (addr := 0x0030) rfl rfl (by decide) (by decide) (by decide) h (writeRstcmd_go s)
  refine completes_done (congrArg (done s) write) fun e => ?_
  exact cleared_finish (cleared_deviceReset _ _ _ e)

theorem restart_clears {s : State} {req : Requester} {e : Fin 32} (h : s.Admits req (0x30 + e) 0x20)
    (idle : s.engIdle e = true) : Completes (.engRestart req e) s fun t => Cleared t e := by
  obtain ⟨t, reg⟩ := engCtl_restart idle (bit_or_two_pow (s.keepWord (engAddr e 0x20)) 5)
  have write := fabricWrite_accepted (addr := engAddr e 0x20) (by unfold engAddr; omega) (by unfold engAddr; omega)
    (Nat.le_refl _) (by omega) (by omega) h ((writeReg_engine s e.isLt 0x20 _).trans reg)
  refine completes_done (congrArg (done s) write) ?_
  exact cleared_finish (cleared_restart t e)

/-- With SP at 0 the first PUSH writes near-page byte 0xFF. -/
theorem first_push {s : State} {e : Fin 32} (h : s.Issues e) (cleared : Cleared s e) (v : BitVec 16) :
    Completes (.isaPush e ⟨0, 0, 0, 0, 0, v, 0⟩) s fun t =>
      ⟨(s.eng e).core.slot + 3, .ram 0xFF, BitVec.ofNat 8 v.toNat, false⟩ ∈ (t.eng e).late ∧ (t.eng e).core.sp = 0xFF := by
  have push := push_literal h (Engine.quiet_of_cleared cleared _) v
  obtain ⟨-, zero, -⟩ := cleared
  have sp : (s.eng e).core.sp = 0 := zero 2 (by decide)
  rwa [sp] at push

/-- Settles O57: a reset makes every engine anew and RESTART makes one, and the PUSH of a cleared engine, on which nothing
arrives, takes SP from 0x00 to 0xFF. -/
theorem enginesStartCleared : Obligations.EnginesStartCleared := by
  unfold Obligations.EnginesStartCleared
  refine ⟨fun e => cleared_of_engines_reset rfl e, ?powerOn, ?pin, ?link, fun s req h => rstcmd_clears h,
    fun s req e h _ idle _ => restart_clears h idle, fun s e v h _ cleared => first_push h cleared v⟩
  case powerOn =>
    intro s vio pins off
    exact completes_onlyIf (t := s.powerOn vio pins) rfl (by simp [off]) fun e =>
      cleared_finish (cleared_deviceReset _ _ _ e)
  case pin =>
    intro s ns pins on vio long
    exact completes_onlyIf (t := s.deviceReset R.DEVICE_RSTCAUSE_PIN pins) rfl (by simp [on, vio, long]) fun e =>
      cleared_finish (cleared_deviceReset _ _ _ e)
  case link =>
    intro s up sampled member
    exact completes_onlyIf (t := s.deviceReset R.DEVICE_RSTCAUSE_LINK s.sup.pins) rfl
      (by simp [up, State.flag, sampled, member]) fun e => cleared_finish (cleared_deviceReset _ _ _ e)

end Sys2Proof.Machine

/-! ### The flag computations of the arithmetic group (11 R295 to R300)

Each result and FL that the model computes is what its row of the statement lists. -/

namespace Sys2Proof.Machine

theorem getLsbD_putFl (fl : Byte) {i j : Nat} (hi : i < 8) (hj : j < 8) (b : Bool) :
    (putFl fl i b).getLsbD j = if j = i then b else fl.getLsbD j := by
  unfold putFl
  by_cases h : j = i
  · subst h
    cases b <;> simp [hj]
  · cases b <;> simp [h, hj]

/-- FL with a flag set, where there is a value for it. -/
def putOpt (fl : Byte) (i : Nat) : Option Bool → Byte
  | none => fl
  | some b => putFl fl i b

theorem getLsbD_putOpt (fl : Byte) {i j : Nat} (hi : i < 8) (hj : j < 8) (o : Option Bool) :
    (putOpt fl i o).getLsbD j = if j = i then o.getD (fl.getLsbD i) else fl.getLsbD j := by
  cases o with
  | none => by_cases h : j = i <;> simp [putOpt, h]
  | some b => exact getLsbD_putFl fl hi hj b

/-- Z and N of a result, and C and V where there is a value for them, are the flags that are wanted. -/
theorem flagsBecome_zn (fl r : Byte) (c v : Option Bool) :
    FlagsBecome fl (putOpt (putOpt (putZN fl r) flC c) flV v) (.zn r c v) := by
  intro i hi
  unfold putZN flC flZ flN flV Want.zn
  rw [getLsbD_putOpt _ (by decide) hi, getLsbD_putOpt _ (by decide) (by decide), getLsbD_putOpt _ (by decide) hi,
    getLsbD_putFl _ (by decide) hi, getLsbD_putFl _ (by decide) hi, getLsbD_putFl _ (by decide) (by decide),
    getLsbD_putFl _ (by decide) (by decide), getLsbD_putFl _ (by decide) (by decide),
    getLsbD_putFl _ (by decide) (by decide)]
  interval_cases i <;> rfl

/-- A result and its FL are what a row lists. -/
structure Res.Meets (r : Res) (fl : Byte) (x : Want) : Prop where
  val : r.val = x.val
  flags : FlagsBecome fl r.fl x

theorem Res.meets_zn {r : Res} {fl val : Byte} {c v : Option Bool} (hval : r.val = val)
    (hfl : r.fl = putOpt (putOpt (putZN fl r.val) flC c) flV v) : r.Meets fl (.zn val c v) :=
  ⟨hval, hfl ▸ hval ▸ flagsBecome_zn fl r.val c v⟩

/-! #### Sums and differences -/

theorem toInt_eq_toNat_sub (a : Byte) : a.toInt = a.toNat - if a.msb then 256 else 0 := by
  rw [BitVec.toInt_eq_msb_cond]
  split <;> simp

theorem carryIn_eq_cy (fl : Byte) : carryIn fl = cy fl := by
  unfold carryIn cy flag flC
  cases fl.getLsbD 0 <;> rfl

theorem cy_le_one (fl : Byte) : cy fl ≤ 1 := Bool.toNat_le _

theorem addVal_eq (a b : Byte) (k : Nat) : BitVec.ofNat 8 (a.toNat + b.toNat + k) = a + b + BitVec.ofNat 8 k := by
  apply BitVec.eq_of_toNat_eq
  simp

theorem subVal_eq (a b : Byte) {k : Nat} (hk : k ≤ 1) : subVal a b k = a - b - BitVec.ofNat 8 k := by
  have ha := a.isLt
  have hb := b.isLt
  apply BitVec.eq_of_toNat_eq
  simp only [subVal, BitVec.toNat_ofNat, BitVec.toNat_sub]
  omega

/-- A sum overflows where its sources have one sign and it has the other. -/
theorem add_overflows (a b : Byte) {k : Nat} (hk : k ≤ 1) :
    (decide (a.msb = b.msb) && decide ((BitVec.ofNat 8 (a.toNat + b.toNat + k)).msb ≠ a.msb))
      = overflows (a.toInt + b.toInt + k) := by
  have ha := a.isLt
  have hb := b.isLt
  simp only [overflows, toInt_eq_toNat_sub, BitVec.msb_eq_decide, BitVec.toNat_ofNat, ← Bool.decide_and,
    decide_eq_decide]
  simp only [ne_eq, decide_eq_decide, decide_eq_true_eq]
  split <;> split <;> omega

/-- A difference overflows where its sources differ in sign and it has the sign of the second. -/
theorem sub_overflows (a b : Byte) {k : Nat} (hk : k ≤ 1) :
    (decide (a.msb ≠ b.msb) && decide ((subVal a b k).msb ≠ a.msb)) = overflows (a.toInt - b.toInt - k) := by
  have ha := a.isLt
  have hb := b.isLt
  simp only [overflows, subVal, toInt_eq_toNat_sub, BitVec.msb_eq_decide, BitVec.toNat_ofNat, ← Bool.decide_and,
    decide_eq_decide]
  simp only [ne_eq, decide_eq_decide, decide_eq_true_eq]
  split <;> split <;> omega

theorem addRes_meets (fl a b : Byte) {k : Nat} (hk : k ≤ 1) :
    (addRes fl a b k).Meets fl (.zn (a + b + BitVec.ofNat 8 k) (some (decide (256 ≤ a.toNat + b.toNat + k)))
      (some (overflows (a.toInt + b.toInt + k)))) := by
  rw [← add_overflows a b hk]
  exact Res.meets_zn (addVal_eq a b k) rfl

theorem subRes_meets (fl a b : Byte) {k : Nat} (hk : k ≤ 1) :
    (subRes fl a b k).Meets fl (.zn (a - b - BitVec.ofNat 8 k) (some (decide (a.toNat < b.toNat + k)))
      (some (overflows (a.toInt - b.toInt - k)))) := by
  rw [← sub_overflows a b hk]
  exact Res.meets_zn (subVal_eq a b hk) rfl

/-- With Z chained, every flag but Z is that of the difference. -/
theorem subcRes_meets (fl a b : Byte) :
    (subcRes fl a b).Meets fl { Want.zn (a - b - BitVec.ofNat 8 (cy fl)) (some (decide (a.toNat < b.toNat + cy fl)))
      (some (overflows (a.toInt - b.toInt - cy fl))) with
      z := some (decide (a - b - BitVec.ofNat 8 (cy fl) = 0) && fl.getLsbD 1) } := by
  obtain ⟨val, flags⟩ := subRes_meets fl a b (cy_le_one fl)
  unfold subcRes
  rw [carryIn_eq_cy]
  refine ⟨val, fun i hi => ?_⟩
  dsimp only
  rw [getLsbD_putFl _ (by decide) hi, flags i hi, val]
  interval_cases i <;> rfl

/-! #### Smaller and larger, saturation, differences without sign -/

theorem minVal_eq (a b : Byte) : (if a.toNat ≤ b.toNat then a else b) = BitVec.ofNat 8 (min a.toNat b.toNat) := by
  rw [min_def]
  split <;> simp

theorem maxVal_eq (a b : Byte) : (if a.toNat ≤ b.toNat then b else a) = BitVec.ofNat 8 (max a.toNat b.toNat) := by
  rw [max_def]
  split <;> simp

theorem minsVal_eq (a b : Byte) : (if a.toInt ≤ b.toInt then a else b) = BitVec.ofInt 8 (min a.toInt b.toInt) := by
  rw [min_def]
  split <;> simp

theorem maxsVal_eq (a b : Byte) : (if a.toInt ≤ b.toInt then b else a) = BitVec.ofInt 8 (max a.toInt b.toInt) := by
  rw [max_def]
  split <;> simp

theorem satSigned_eq (i : Int) : satSigned i = (BitVec.ofInt 8 (max (-128) (min 127 i)), overflows i) := by
  unfold satSigned overflows
  split
  · rw [max_eq_left (by omega)]
    simp [*]
  · split
    · rw [min_eq_left (by omega)]
      simp [*]
    · rw [min_eq_right (by omega), max_eq_right (by omega)]
      simp [*]

theorem satRes_meets (fl : Byte) (i : Int) :
    (satRes fl i).Meets fl (.zn (BitVec.ofInt 8 (max (-128) (min 127 i))) none (some (overflows i))) := by
  unfold satRes
  rw [satSigned_eq]
  exact Res.meets_zn rfl rfl

theorem addusVal_eq (a b : Byte) : (if 256 ≤ a.toNat + b.toNat then 0xFF else BitVec.ofNat 8 (a.toNat + b.toNat))
    = BitVec.ofNat 8 (min 255 (a.toNat + b.toNat)) := by
  split
  · rw [min_eq_left (by omega)]
    rfl
  · rw [min_eq_right (by omega)]

theorem subusVal_eq (a b : Byte) : (if a.toNat < b.toNat then 0 else BitVec.ofNat 8 (a.toNat - b.toNat))
    = BitVec.ofNat 8 (a.toNat - b.toNat) := by
  split
  · rw [Nat.sub_eq_zero_of_le (by omega)]
    rfl
  · rfl

theorem absdVal_eq (a b : Byte) : BitVec.ofNat 8 ((a.toNat : Int) - b.toNat).natAbs
    = BitVec.ofNat 8 (max a.toNat b.toNat - min a.toNat b.toNat) := by
  congr 1
  omega

theorem absdsVal_eq (a b : Byte) : BitVec.ofNat 8 (a.toInt - b.toInt).natAbs
    = BitVec.ofInt 8 (max a.toInt b.toInt - min a.toInt b.toInt) := by
  rw [← BitVec.ofInt_natCast]
  congr 1
  omega

/-! #### Shifts and rotates -/

/-- With a count of 0 the result is a and C stays; else the row's value and carry are to be the model's. -/
theorem shiftRes_meets {fl a r : Byte} {n v : Nat} {c c' : Bool} (h : n ≠ 0 → r = BitVec.ofNat 8 v ∧ c = c') :
    (shiftRes fl a n r c).Meets fl (.shift a n v c') := by
  unfold shiftRes Want.shift
  split
  next => exact Res.meets_zn rfl rfl
  next hn =>
    obtain ⟨rfl, rfl⟩ := h hn
    exact Res.meets_zn rfl rfl

theorem getLsbD_eq_decide {w : Nat} (a : BitVec w) (i : Nat) : a.getLsbD i = decide (a.toNat / 2 ^ i % 2 = 1) :=
  Nat.testBit_eq_decide_div_mod_eq

theorem shlRes_meets (fl a b : Byte) : (shlRes fl a b).Meets fl
    (.shift a b.toNat (a.toNat * 2 ^ b.toNat) (decide (a.toNat * 2 ^ b.toNat / 256 % 2 = 1))) := by
  refine shiftRes_meets fun _ => ⟨?_, ?_⟩
  · apply BitVec.eq_of_toNat_eq
    simp [Nat.shiftLeft_eq]
  · by_cases h : b.toNat ≤ 8
    · have split : 256 = 2 ^ (8 - b.toNat) * 2 ^ b.toNat := by rw [← pow_add, Nat.sub_add_cancel h]; rfl
      rw [split, Nat.mul_div_mul_right _ _ (Nat.two_pow_pos _)]
      simp [h, getLsbD_eq_decide]
    · have split : a.toNat * 2 ^ b.toNat = 2 * (a.toNat * 2 ^ (b.toNat - 9)) * 256 := by
        rw [show b.toNat = b.toNat - 9 + 9 by omega, pow_add]
        simp only [Nat.add_sub_cancel]
        ring
      rw [split, Nat.mul_div_cancel _ (by decide)]
      simp [h]

theorem shrRes_meets (fl a b : Byte) : (shrRes fl a b).Meets fl
    (.shift a b.toNat (a.toNat / 2 ^ b.toNat) (decide (a.toNat / 2 ^ (b.toNat - 1) % 2 = 1))) := by
  refine shiftRes_meets fun _ => ⟨?_, ?_⟩
  · apply BitVec.eq_of_toNat_eq
    rw [BitVec.toNat_ushiftRight, Nat.shiftRight_eq_div_pow, BitVec.toNat_ofNat,
      Nat.mod_eq_of_lt ((Nat.div_le_self _ _).trans_lt a.isLt)]
  · rw [← getLsbD_eq_decide]
    by_cases h : b.toNat ≤ 8
    · simp [h]
    · simp [h, BitVec.getLsbD_of_ge a (b.toNat - 1) (by omega)]

theorem sshiftRight_eq_div (a : Byte) (n : Nat) : a.sshiftRight n = BitVec.ofInt 8 (a.toInt / 2 ^ n) := by
  rw [BitVec.sshiftRight_eq, Int.shiftRight_eq_div_pow]
  norm_cast

/-- Bit i of the number that a byte is, its sign going on without end. -/
theorem odd_toInt_div (a : Byte) (i : Nat) :
    decide (a.toInt / 2 ^ i % 2 = 1) = if i < 8 then a.getLsbD i else a.msb := by
  have low := BitVec.getLsbD_sshiftRight a i 0
  rw [sshiftRight_eq_div, getLsbD_eq_decide, BitVec.toNat_ofInt] at low
  simp only [Nat.add_zero, Nat.reduceLeDiff, decide_false, Bool.not_false, Bool.true_and] at low
  rw [← low, decide_eq_decide]
  generalize a.toInt / 2 ^ i = q
  omega

theorem sarRes_meets (fl a b : Byte) : (sarRes fl a b).Meets fl
    (.shift a b.toNat (BitVec.ofInt 8 (a.toInt / 2 ^ b.toNat)).toNat
      (decide (a.toInt / 2 ^ (b.toNat - 1) % 2 = 1))) := by
  refine shiftRes_meets fun hn => ⟨?_, ?_⟩
  · rw [BitVec.ofNat_toNat, BitVec.setWidth_eq, sshiftRight_eq_div]
  · rw [odd_toInt_div]
    simp only [show b.toNat - 1 < 8 ↔ b.toNat ≤ 8 by omega]

/-- A rotate to the left as arithmetic: what leaves at the top comes in at the bottom. -/
theorem toNat_rotateLeft_of_lt {w n : Nat} (x : BitVec w) (hn : n < w) :
    (x.rotateLeft n).toNat = x.toNat * 2 ^ n % 2 ^ w + x.toNat / 2 ^ (w - n) := by
  have split : 2 ^ w = 2 ^ n * 2 ^ (w - n) := by rw [← pow_add, Nat.add_sub_cancel' hn.le]
  have low : x.toNat / 2 ^ (w - n) < 2 ^ n := Nat.div_lt_of_lt_mul (by rw [mul_comm, ← split]; exact x.isLt)
  have high : x.toNat * 2 ^ n % 2 ^ w = 2 ^ n * (x.toNat % 2 ^ (w - n)) := by
    rw [split, mul_comm x.toNat, Nat.mul_mod_mul_left]
  rw [BitVec.toNat_rotateLeft, Nat.mod_eq_of_lt hn, Nat.shiftLeft_eq, Nat.shiftRight_eq_div_pow, high,
    Nat.two_pow_add_eq_or_of_lt low]

theorem rotateRight_eq_rotateLeft {w n : Nat} (x : BitVec w) (h0 : n ≠ 0) (hn : n < w) :
    x.rotateRight n = x.rotateLeft (w - n) := by
  apply BitVec.eq_of_toNat_eq
  have hsub : w - n < w := by omega
  rw [BitVec.toNat_rotateRight, BitVec.toNat_rotateLeft, Nat.mod_eq_of_lt hn, Nat.mod_eq_of_lt hsub,
    Nat.sub_sub_self hn.le, Nat.lor_comm]

theorem rotateLeft_eq_ofNat {n : Nat} (a : Byte) (hn : n < 8) :
    a.rotateLeft n = BitVec.ofNat 8 (a.toNat * 2 ^ n + a.toNat / 2 ^ (8 - n)) := by
  apply BitVec.eq_of_toNat_eq
  have below := (a.rotateLeft n).isLt
  rw [toNat_rotateLeft_of_lt a hn] at below ⊢
  rw [BitVec.toNat_ofNat, Nat.add_mod, Nat.mod_eq_of_lt ((Nat.div_le_self _ _).trans_lt a.isLt), Nat.mod_eq_of_lt below]

theorem rolRes_meets (fl a b : Byte) : (rolRes fl a b).Meets fl
    (.shift a (b.toNat % 8) (a.toNat * 2 ^ (b.toNat % 8) + a.toNat / 2 ^ (8 - b.toNat % 8))
      (decide (a.toNat / 2 ^ (8 - b.toNat % 8) % 2 = 1))) := by
  have hlt : b.toNat % 8 < 8 := Nat.mod_lt _ (by decide)
  refine shiftRes_meets fun hn => ⟨rotateLeft_eq_ofNat a hlt, ?_⟩
  rw [BitVec.getLsbD_rotateLeft, Nat.mod_eq_of_lt hlt, ← getLsbD_eq_decide]
  simp [Nat.pos_of_ne_zero hn]

theorem rorRes_meets (fl a b : Byte) : (rorRes fl a b).Meets fl
    (.shift a (b.toNat % 8) (a.toNat / 2 ^ (b.toNat % 8) + a.toNat * 2 ^ (8 - b.toNat % 8))
      (decide (a.toNat / 2 ^ (b.toNat % 8 - 1) % 2 = 1))) := by
  have hlt : b.toNat % 8 < 8 := Nat.mod_lt _ (by decide)
  refine shiftRes_meets fun hn => ⟨?_, ?_⟩
  · rw [rotateRight_eq_rotateLeft a hn hlt, rotateLeft_eq_ofNat a (by omega), Nat.sub_sub_self hlt.le, Nat.add_comm]
  · rw [BitVec.msb_eq_getLsbD_last, BitVec.getLsbD_rotateRight, Nat.mod_eq_of_lt hlt, ← getLsbD_eq_decide,
      show 8 - 1 - (8 - b.toNat % 8) = b.toNat % 8 - 1 by omega]
    simp [show ¬ 7 < 8 - b.toNat % 8 by omega]

theorem toNat_withCarry (fl a : Byte) : (withCarry fl a).toNat = cy fl * 256 + a.toNat := by
  have ha := a.isLt
  have hc := cy_le_one fl
  rw [withCarry, carryIn_eq_cy, BitVec.toNat_ofNat]
  omega

/-- C:a rotated: the low 8 bits are the result, the high one is the carry. -/
theorem rot9_eq {fl a : Byte} {n : Nat} {r : BitVec 9} (hn : n < 9) (hr : r = (withCarry fl a).rotateLeft n) :
    r.setWidth 8 = BitVec.ofNat 8 (rot9 fl a n) ∧ r.msb = decide (256 ≤ rot9 fl a n) := by
  have value : r.toNat = rot9 fl a n := by
    rw [hr, toNat_rotateLeft_of_lt _ hn, toNat_withCarry]
    rfl
  rw [BitVec.msb_eq_decide, value, ← BitVec.ofNat_toNat, value]
  exact ⟨rfl, rfl⟩

theorem rlcRes_meets (fl a b : Byte) : (rlcRes fl a b).Meets fl
    (.shift a (b.toNat % 9) (rot9 fl a (b.toNat % 9)) (decide (256 ≤ rot9 fl a (b.toNat % 9)))) :=
  shiftRes_meets fun _ => rot9_eq (Nat.mod_lt _ (by decide)) rfl

theorem rrcRes_meets (fl a b : Byte) : (rrcRes fl a b).Meets fl
    (.shift a (b.toNat % 9) (rot9 fl a (9 - b.toNat % 9)) (decide (256 ≤ rot9 fl a (9 - b.toNat % 9)))) :=
  have hlt : b.toNat % 9 < 9 := Nat.mod_lt _ (by decide)
  shiftRes_meets fun hn => rot9_eq (by omega) (rotateRight_eq_rotateLeft _ hn hlt)

/-! #### The rows -/

/-- A row of the statement is an instruction of the model with a computation that meets it. -/
def Computes (row : (Fin 32 → Enc → Instr) × (Byte → Byte → Byte → Want)) : Prop :=
  ∃ f : Byte → Byte → Byte → Res, (∀ e w s, exec (row.1 e w) s = done s (s.alu3 e w f))
    ∧ ∀ fl a b, (f fl a b).Meets fl (row.2 fl a b)

theorem threeRows_compute : ∀ row ∈ threeRows, Computes row := by
  simp only [threeRows, List.forall_mem_cons]
  refine ⟨⟨_, fun _ _ _ => rfl, fun fl a b => by simpa using addRes_meets fl a b (Nat.zero_le 1)⟩,
    ⟨_, fun _ _ _ => rfl, fun fl a b => carryIn_eq_cy fl ▸ addRes_meets fl a b (carryIn_eq_cy fl ▸ cy_le_one fl)⟩,
    ⟨_, fun _ _ _ => rfl, fun fl a b => by simpa using subRes_meets fl a b (Nat.zero_le 1)⟩,
    ⟨_, fun _ _ _ => rfl, subcRes_meets⟩,
    ⟨_, fun _ _ _ => rfl, fun _ _ _ => Res.meets_zn rfl rfl⟩,
    ⟨_, fun _ _ _ => rfl, fun _ _ _ => Res.meets_zn rfl rfl⟩,
    ⟨_, fun _ _ _ => rfl, fun _ _ _ => Res.meets_zn rfl rfl⟩,
    ⟨_, fun _ _ _ => rfl, fun _ _ _ => Res.meets_zn rfl rfl⟩,
    ⟨_, fun _ _ _ => rfl, fun _ a b => Res.meets_zn (minVal_eq a b) rfl⟩,
    ⟨_, fun _ _ _ => rfl, fun _ a b => Res.meets_zn (maxVal_eq a b) rfl⟩,
    ⟨_, fun _ _ _ => rfl, fun _ a b => Res.meets_zn (minsVal_eq a b) rfl⟩,
    ⟨_, fun _ _ _ => rfl, fun _ a b => Res.meets_zn (maxsVal_eq a b) rfl⟩,
    ⟨_, fun _ _ _ => rfl, fun fl a b => satRes_meets fl _⟩,
    ⟨_, fun _ _ _ => rfl, fun fl a b => satRes_meets fl _⟩,
    ⟨_, fun _ _ _ => rfl, fun _ a b => Res.meets_zn (addusVal_eq a b) rfl⟩,
    ⟨_, fun _ _ _ => rfl, fun _ a b => Res.meets_zn (subusVal_eq a b) rfl⟩,
    ⟨_, fun _ _ _ => rfl, fun _ a b => Res.meets_zn (absdVal_eq a b) rfl⟩,
    ⟨_, fun _ _ _ => rfl, fun _ a b => Res.meets_zn (absdsVal_eq a b) rfl⟩,
    ⟨_, fun _ _ _ => rfl, fun _ _ _ => Res.meets_zn rfl rfl⟩,
    ⟨_, fun _ _ _ => rfl, shlRes_meets⟩,
    ⟨_, fun _ _ _ => rfl, shrRes_meets⟩,
    ⟨_, fun _ _ _ => rfl, sarRes_meets⟩,
    ⟨_, fun _ _ _ => rfl, rolRes_meets⟩,
    ⟨_, fun _ _ _ => rfl, rorRes_meets⟩,
    ⟨_, fun _ _ _ => rfl, rlcRes_meets⟩,
    ⟨_, fun _ _ _ => rfl, rrcRes_meets⟩, by simp⟩

end Sys2Proof.Machine

/-! ### What arrives on an engine

The results and bytes that become visible in a slot leave an engine's registers as they were, but for those that a
product, a quotient, a Sloe operation or a lost reservation reaches, and they leave on its way what is not due. -/

namespace Sys2Proof.Machine

/-- What becomes visible on an engine leaves its registers but for the reservation and the pending Sloe operation, its
state, and every write whose slot has not come. -/
structure Engine.Arrives (g g' : Engine) : Prop where
  core : g'.core = { g.core with rsv := g'.core.rsv, sloe := g'.core.sloe }
  state : g'.state = g.state
  late : ∃ keep : Late → Bool, g'.late = g.late.filter keep ∧ ∀ w : Late, g.core.slot < w.due → keep w = true

theorem Engine.Arrives.of_late_eq {g g' : Engine} (core : g'.core = { g.core with rsv := g'.core.rsv, sloe := g'.core.sloe })
    (state : g'.state = g.state) (late : g'.late = g.late) : g.Arrives g' :=
  ⟨core, state, fun _ => true, by simpa using late, fun _ _ => rfl⟩

theorem Engine.Arrives.refl (g : Engine) : g.Arrives g := .of_late_eq rfl rfl rfl

theorem Engine.Arrives.trans {g h k : Engine} (a : g.Arrives h) (b : h.Arrives k) : g.Arrives k := by
  obtain ⟨core, state, keep, late, kept⟩ := a
  obtain ⟨core', state', keep', late', kept'⟩ := b
  rw [core] at core' kept'
  refine ⟨core', state'.trans state, fun w => keep' w && keep w, by rw [late', late, List.filter_filter], fun w due => ?_⟩
  simp [kept w due, kept' w due]

/-- Of the block, what becomes visible on engine e leaves the register fields and the form of frame memory. -/
structure State.Arrives (s t : State) (e : Nat) : Prop where
  length : t.engines.length = s.engines.length
  regs : t.regs = s.regs
  wf : Memory.wf s.fmem = true → Memory.wf t.fmem = true
  eng : (s.eng e).Arrives (t.eng e)

theorem State.Arrives.refl (s : State) (e : Nat) : s.Arrives s e := ⟨rfl, rfl, id, .refl _⟩

theorem State.Arrives.trans {s t u : State} {e : Nat} (a : s.Arrives t e) (b : t.Arrives u e) : s.Arrives u e :=
  ⟨b.length.trans a.length, b.regs.trans a.regs, b.wf ∘ a.wf, a.eng.trans b.eng⟩

theorem arrives_setEng {s : State} {e : Nat} {f : Engine → Engine} (h : (s.eng e).Arrives (f (s.eng e))) :
    s.Arrives (s.setEng e f) e := by
  refine ⟨length_engines_setEng s e f, rfl, id, ?_⟩
  by_cases here : e < s.engines.length
  · rwa [eng_setEng here]
  · rw [eng_of_length_le (Nat.le_of_not_lt here), eng_of_length_le (by simpa using here)]
    exact .refl _

theorem arrives_foldl {α : Type} {e : Nat} {f : State → α → State} (h : ∀ (s : State) a, s.Arrives (f s a) e)
    (l : List α) (s : State) :
    s.Arrives (l.foldl f s) e := by
  induction l generalizing s with
  | nil => exact .refl s e
  | cons a l ih => exact (h s a).trans (ih (f s a))

theorem eng_breakLines (s : State) (by_ lo hi e : Nat) : ∃ r, (s.breakLines by_ lo hi).eng e
    = { s.eng e with core := { (s.eng e).core with rsv := r } } := by
  unfold State.eng State.breakLines
  cases here : s.engines[e]? with
  | none => exact ⟨(Engine.reset e).core.rsv, by simp [here]⟩
  | some g =>
    simp only [List.getD_eq_getElem?_getD, List.getElem?_map, List.getElem?_zipIdx, here, Option.map_some, Option.getD_some]
    split
    · split
      · exact ⟨none, rfl⟩
      · exact ⟨g.core.rsv, rfl⟩
    · exact ⟨g.core.rsv, rfl⟩

theorem length_engines_frameWrite (s : State) (by_ a : Nat) (l : List Byte) :
    (s.frameWrite by_ a l).engines.length = s.engines.length := by simp [State.frameWrite, State.breakLines]

theorem eng_frameWrite (s : State) (by_ a : Nat) (l : List Byte) (e : Nat) : ∃ r, (s.frameWrite by_ a l).eng e
    = { s.eng e with core := { (s.eng e).core with rsv := r } } :=
  eng_breakLines { s with fmem := Memory.writeList s.fmem a l } by_ a (a + l.length - 1) e

theorem arrives_frameWrite (s : State) (by_ a : Nat) (l : List Byte) (e : Nat) : s.Arrives (s.frameWrite by_ a l) e := by
  obtain ⟨r, eng⟩ := eng_frameWrite s by_ a l e
  refine ⟨length_engines_frameWrite s by_ a l, rfl, Memory.wf_writeList l s.fmem a, ?_⟩
  rw [eng]
  exact .of_late_eq rfl rfl rfl

theorem arrives_commit (s : State) (e : Nat) (w : Late) : s.Arrives (s.commit e w) e := by
  unfold State.commit
  cases w.place with
  | ram a => exact arrives_setEng (.of_late_eq rfl rfl rfl)
  | frame a =>
    dsimp only
    split
    · exact arrives_setEng (.of_late_eq rfl rfl rfl)
    · exact arrives_frameWrite s e a _ e
  | port n =>
    refine arrives_setEng ?_
    dsimp only
    split
    · exact .of_late_eq rfl rfl rfl
    · split <;> exact .of_late_eq rfl rfl rfl

theorem arrives_reveal (s : State) (e due issued : Nat) : s.Arrives (s.reveal e due issued) e :=
  arrives_setEng (.of_late_eq rfl rfl rfl)

theorem arrives_noteSloe (s : State) (e : Nat) : s.Arrives (s.noteSloe e) e := by
  unfold State.noteSloe
  split
  · exact .refl s e
  · exact arrives_setEng (.of_late_eq rfl rfl rfl)

theorem arrives_commitSome (s : State) (e : Nat) (p : Late → Bool) : s.Arrives (s.commitSome e p) e := by
  unfold State.commitSome
  refine (arrives_setEng ⟨rfl, rfl, _, rfl, fun w due => ?_⟩).trans (arrives_foldl (fun s w =>
    ((arrives_reveal s e _ _).trans (arrives_commit _ e w)).trans (arrives_noteSloe _ e)) _ _)
  simp [Nat.not_le.mpr due]

theorem arrives_commitDue (s : State) (e : Nat) : s.Arrives (s.commitDue e) e :=
  ((arrives_commitSome s e _).trans (arrives_reveal _ e _ _)).trans (arrives_noteSloe _ e)

theorem arrives_takeSloe (s : State) (e j : Nat) : s.Arrives (s.takeSloe e j) e := by
  unfold State.takeSloe
  split
  · exact .refl s e
  · exact ((arrives_setEng (.of_late_eq rfl rfl rfl)).trans (arrives_reveal _ e _ _)).trans
      (arrives_foldl (fun s w => arrives_commit s e _) _ _)

theorem arrives_arrive (s : State) (e slots : Nat) : s.Arrives (s.arrive e slots) e := by
  unfold State.arrive
  dsimp only
  split
  · split
    · exact ((arrives_commitSome s e _).trans (arrives_takeSloe _ e _)).trans (arrives_commitDue _ e)
    · exact (arrives_commitDue s e).trans ⟨rfl, rfl, id, .refl _⟩
  · exact arrives_commitDue s e

/-! #### The registers after a slot -/

theorem Core.foldl_takeProduct_eq (l : List Product) (c : Core) :
    ∃ mh ml, l.foldl Core.takeProduct c = { c with mh := mh, ml := ml } := by
  induction l generalizing c with
  | nil => exact ⟨c.mh, c.ml, rfl⟩
  | cons p l ih =>
    obtain ⟨mh, ml, h⟩ := ih (c.takeProduct p)
    exact ⟨mh, ml, h⟩

theorem Core.takeProducts_eq (c : Core) (j : Nat) :
    ∃ mh ml, c.takeProducts j = { c with mh := mh, ml := ml, prods := c.prods.filter fun p => j < p.due } := by
  obtain ⟨mh, ml, h⟩ := Core.foldl_takeProduct_eq (c.prods.filter fun p => p.due ≤ j) c
  exact ⟨mh, ml, by rw [Core.takeProducts, h]⟩

theorem Core.takeQuot_eq (c : Core) : ∃ mq mr q, c.takeQuot = { c with mq := mq, mr := mr, quot := q } := by
  unfold Core.takeQuot
  split
  · split
    · exact ⟨_, _, _, rfl⟩
    · exact ⟨c.mq, c.mr, c.quot, rfl⟩
  · exact ⟨c.mq, c.mr, c.quot, rfl⟩

/-- A number of slots passes on the registers: only cycles and what may arrive by itself change, and MH:ML stay where no
product is due. -/
structure Core.Passes (c c' : Core) (slots : Nat) : Prop where
  eq : c' = { c with
    slot := c.slot + slots, cyc := c'.cyc, mh := c'.mh, ml := c'.ml, prods := c'.prods, mq := c'.mq, mr := c'.mr
    quot := c'.quot, rsv := c'.rsv, sloe := c'.sloe }
  product : (∀ p ∈ c.prods, c.slot + slots < p.due) → c'.mh = c.mh ∧ c'.ml = c.ml

/-- An engine whose counters have passed some slots, with the results that its own units give by then. -/
def Engine.passing (g : Engine) (slots stall : Nat) : Engine :=
  { g with
    core := (((g.core.elapse slots stall).takeProducts (g.core.slot + slots)).takeQuot).ageRsv
    busy := (g.busy + slots + stall) % 2 ^ 32
    stall := (g.stall + stall) % 2 ^ 32 }

theorem pass_eq (s : State) (e slots stall : Nat) :
    s.pass e slots stall = ((s.setEng e fun g => g.passing slots stall).noteSloe e).arrive e slots := rfl

theorem Engine.passes_passing (g : Engine) (slots stall : Nat) : g.core.Passes (g.passing slots stall).core slots := by
  obtain ⟨mh, ml, products⟩ := Core.takeProducts_eq (g.core.elapse slots stall) (g.core.slot + slots)
  obtain ⟨mq, mr, q, quot⟩ := Core.takeQuot_eq ((g.core.elapse slots stall).takeProducts (g.core.slot + slots))
  obtain ⟨r, aged⟩ := Core.ageRsv_eq ((g.core.elapse slots stall).takeProducts (g.core.slot + slots)).takeQuot
  refine ⟨?_, fun none_due => ?_⟩
  · rw [Engine.passing, aged, quot, products]
    rfl
  · rw [Engine.passing, aged, quot, Core.takeProducts_of_none_due (c := g.core.elapse slots stall) none_due]
    exact ⟨rfl, rfl⟩

theorem arrives_pass (s : State) (e slots stall : Nat) :
    (s.setEng e fun g => g.passing slots stall).Arrives (s.pass e slots stall) e :=
  pass_eq s e slots stall ▸ (arrives_noteSloe _ e).trans (arrives_arrive _ e slots)

theorem length_engines_pass (s : State) (e slots stall : Nat) : (s.pass e slots stall).engines.length = s.engines.length :=
  (arrives_pass s e slots stall).length.trans (length_engines_setEng s e _)

/-- Some slots pass on an engine. -/
theorem passes_pass {s : State} {e : Nat} (here : e < s.engines.length) (slots stall : Nat) :
    (s.eng e).core.Passes ((s.pass e slots stall).eng e).core slots := by
  obtain ⟨core, -, -⟩ := (arrives_pass s e slots stall).eng
  rw [eng_setEng here] at core
  obtain ⟨passing, product⟩ := Engine.passes_passing (s.eng e) slots stall
  refine ⟨?_, fun none_due => ?_⟩
  · rw [core, passing]
  · rw [core]
    exact product none_due

/-- What is not due by the slots that pass is on its way as before. -/
theorem late_pass {s : State} {e : Nat} (here : e < s.engines.length) (slots stall : Nat) :
    ∃ keep : Late → Bool, ((s.pass e slots stall).eng e).late = (s.eng e).late.filter keep
      ∧ ∀ w : Late, (s.eng e).core.slot + slots < w.due → keep w = true := by
  obtain ⟨-, -, late⟩ := (arrives_pass s e slots stall).eng
  obtain ⟨passing, -⟩ := Engine.passes_passing (s.eng e) slots stall
  rw [eng_setEng here, passing] at late
  exact late

theorem state_pass {s : State} {e : Nat} (here : e < s.engines.length) (slots stall : Nat) :
    ((s.pass e slots stall).eng e).state = (s.eng e).state := by
  obtain ⟨-, state, -⟩ := (arrives_pass s e slots stall).eng
  rwa [eng_setEng here] at state

end Sys2Proof.Machine

/-! ### The end of an instruction: its delay slot, and the boundary behind it -/

namespace Sys2Proof.Machine

theorem Late.filter_place_ {w : Late} {keep : Late → Bool} (h : keep w = false) (l : List Late) :
    (w.place_ l).filter keep = l.filter keep := by
  induction l with
  | nil => simp [Late.place_, h]
  | cons x l ih =>
    unfold Late.place_
    split
    · simp [h]
    · simp [List.filter_cons, ih]

/-- Behind everything that becomes visible no later, a write comes last. -/
theorem Late.place_eq_append {w : Late} {l : List Late} (h : ∀ x ∈ l, x.due ≤ w.due) : w.place_ l = l ++ [w] := by
  induction l with
  | nil => rfl
  | cons x l ih =>
    obtain ⟨first, rest⟩ := List.forall_mem_cons.mp h
    unfold Late.place_
    rw [if_neg (Nat.not_lt.mpr first), ih rest]
    rfl

/-- A CALL before a delay slot puts its return address on the way, into local RAM; nothing else changes. -/
theorem pushReturn_eq_setEng (s : State) (e : Nat) (next : BitVec 16) :
    ∃ l, s.pushReturn e next = s.setEng e (fun g => { g with late := l })
      ∧ (∀ w ∈ (s.eng e).late, w ∈ l) ∧ l.filter Late.buffered = (s.eng e).late.filter Late.buffered := by
  unfold State.pushReturn
  split
  · refine ⟨_, setEng_congr rfl, fun w hw => ?_, ?_⟩
    · simp [Late.mem_place_, hw]
    · rw [Late.filter_place_ rfl, Late.filter_place_ rfl]
  · exact ⟨(s.eng e).late, (setEng_eq_self rfl).symm, fun _ hw => hw, rfl⟩

/-- Behind any instruction but one in the delay slot of a RETI, the engine goes on at the next PC. -/
theorem proceed_eq_setEng {s : State} {e : Nat} (ret : (s.eng e).core.notReti) (len : Nat) :
    ∃ x, s.proceed e ((s.eng e).core.pc + BitVec.ofNat 16 len) = s.setEng e fun g => { g with
        core := { g.core with pc := (s.eng e).core.nextPc len, delay := .none }, xmode := x } := by
  unfold State.proceed Core.nextPc
  cases delay : (s.eng e).core.delay with
  | none => exact ⟨(s.eng e).xmode, setEng_congr (by dsimp only; rw [← delay])⟩
  | flow t leave =>
    cases leave with
    | false => exact ⟨(s.eng e).xmode, setEng_congr rfl⟩
    | true => exact ⟨none, setEng_setEng s e _ _⟩
  | call t hi lo due => exact ⟨(s.eng e).xmode, setEng_congr rfl⟩
  | reti pc fl rc => exact absurd delay (ret pc fl rc)

theorem follow_eq_setEng {s : State} {e : Nat} (here : e < s.engines.length) (ret : (s.eng e).core.notReti) (len : Nat) :
    ∃ l x, s.follow e len = s.setEng e (fun g => { g with
        core := { g.core with pc := (s.eng e).core.nextPc len, delay := .none }, late := l, xmode := x })
      ∧ (∀ w ∈ (s.eng e).late, w ∈ l) ∧ l.filter Late.buffered = (s.eng e).late.filter Late.buffered := by
  obtain ⟨l, push, more, same⟩ := pushReturn_eq_setEng s e ((s.eng e).core.pc + BitVec.ofNat 16 len)
  have core : ((s.setEng e fun g => { g with late := l }).eng e).core = (s.eng e).core := by rw [eng_setEng here]
  obtain ⟨x, go⟩ := proceed_eq_setEng (s := s.setEng e fun g => { g with late := l }) (core.symm ▸ ret) len
  rw [core, setEng_setEng] at go
  exact ⟨l, x, by rw [State.follow, push]; exact go, more, same⟩

/-- With no delay slot open, the PC goes on by the length. -/
theorem follow_of_no_delay {s : State} {e : Nat} (delay : (s.eng e).core.delay = .none) (len : Nat) :
    s.follow e len = s.setCore e fun c => { c with pc := c.pc + BitVec.ofNat 16 len } := by
  unfold State.follow State.proceed State.pushReturn
  dsimp only
  simp only [delay]
  exact setEng_congr rfl

/-! #### The write buffer empties -/

theorem eng_leaveBuffer {s : State} {e : Nat} (here : e < s.engines.length) (w : Late) : ∃ r h, (s.leaveBuffer e w).eng e
    = { s.eng e with core := { (s.eng e).core with rsv := r }, hidden := h } := by
  unfold State.leaveBuffer
  split
  next a _ =>
    obtain ⟨r, eng⟩ := eng_frameWrite
      (s.setEng e fun g => { g with hidden := g.hidden ++ [(w.due, a, Memory.read s.fmem a)] }) e a [w.val] e
    rw [eng_setEng here] at eng
    exact ⟨r, _, eng⟩
  next => exact ⟨(s.eng e).core.rsv, (s.eng e).hidden, rfl⟩

theorem wf_leaveBuffer {s : State} {e : Nat} (w : Late) (h : Memory.wf s.fmem = true) :
    Memory.wf (s.leaveBuffer e w).fmem = true := by
  unfold State.leaveBuffer
  split
  · exact Memory.wf_writeList _ _ _ h
  · exact h

theorem eng_leaveBuffers {e : Nat} (l : List Late) {s : State} (here : e < s.engines.length) :
    ∃ r h, (l.foldl (fun s w => s.leaveBuffer e w) s).eng e
      = { s.eng e with core := { (s.eng e).core with rsv := r }, hidden := h } := by
  induction l generalizing s with
  | nil => exact ⟨(s.eng e).core.rsv, (s.eng e).hidden, rfl⟩
  | cons w l ih =>
    obtain ⟨r, h, eng⟩ := eng_leaveBuffer here w
    obtain ⟨r', h', engs⟩ := ih (s := s.leaveBuffer e w) (length_engines_leaveBuffer s e w ▸ here)
    exact ⟨r', h', by rw [List.foldl_cons, engs, eng]⟩

theorem wf_leaveBuffers {e : Nat} (l : List Late) {s : State} (h : Memory.wf s.fmem = true) :
    Memory.wf (l.foldl (fun s w => s.leaveBuffer e w) s).fmem = true := by
  induction l generalizing s with
  | nil => exact h
  | cons w l ih => exact ih (wf_leaveBuffer w h)

/-- What left the buffer last is what frame memory holds. -/
theorem read_leaveBuffers_last {s : State} {e a : Nat} {l : List Late} {w : Late} (wf : Memory.wf s.fmem = true)
    (last : l.getLast? = some w) (place : w.place = .frame a) :
    Memory.read (l.foldl (fun s w => s.leaveBuffer e w) s).fmem a = w.val := by
  obtain ⟨before, rfl⟩ := List.getLast?_eq_some_iff.mp last
  rw [List.foldl_append, List.foldl_cons, List.foldl_nil]
  generalize earlier : before.foldl (fun s w => s.leaveBuffer e w) s = u
  have wfu : Memory.wf u.fmem = true := earlier ▸ wf_leaveBuffers before wf
  unfold State.leaveBuffer
  rw [place]
  show Memory.read (Memory.writeList u.fmem a [w.val]) a = w.val
  simp [Memory.read_writeList_of_wf wfu]

theorem eng_haltEng {s : State} {e : Nat} (here : e < s.engines.length) :
    ∃ r, ((s.haltEng e).eng e).core = { (s.eng e).core with rsv := r }
      ∧ ((s.haltEng e).eng e).late = (s.eng e).late.filter fun w => !w.buffered := by
  have emptied : e < (s.setEng e fun g =>
      { g with late := g.late.filter (fun w => !w.buffered), wbuf := [] }).engines.length :=
    (length_engines_setEng s e _).symm ▸ here
  obtain ⟨-, length⟩ := keepsStack_drain here
  obtain ⟨r, h, eng⟩ := eng_leaveBuffers ((s.eng e).late.filter Late.buffered) emptied
  rw [eng_setEng here] at eng
  refine ⟨r, ?_, ?_⟩
  · rw [State.haltEng, eng_setEng (length.symm ▸ here)]
    exact congrArg Engine.core eng
  · rw [State.haltEng, eng_setEng (length.symm ▸ here)]
    exact congrArg Engine.late eng

/-! #### The boundary -/

theorem boundary_cases (s : State) (e : Nat) : s.boundary e = s ∨ s.boundary e = s.haltEng e
    ∧ ((s.eng e).state = .run ∧ s.flag (R.ENG_CTL_HALT e) = true ∨ (s.eng e).state = .halted) := by
  unfold State.boundary
  dsimp only
  split
  next stops =>
    simp only [Bool.or_eq_true, Bool.and_eq_true, decide_eq_true_eq] at stops
    rcases stops with ⟨⟨run, -⟩, halt⟩ | ⟨⟨halted, -⟩, -⟩
    · exact .inr ⟨rfl, .inl ⟨run, halt⟩⟩
    · exact .inr ⟨rfl, .inr halted⟩
  next => exact .inl rfl

theorem core_boundary {s : State} {e : Nat} (here : e < s.engines.length) :
    ∃ r, ((s.boundary e).eng e).core = { (s.eng e).core with rsv := r } := by
  rcases boundary_cases s e with stays | ⟨halts, -⟩
  · exact ⟨(s.eng e).core.rsv, by rw [stays]⟩
  · obtain ⟨r, core, -⟩ := eng_haltEng here
    exact ⟨r, by rw [halts, core]⟩

/-- A running engine of which no halt is asked goes on. -/
theorem boundary_of_run {s : State} {e : Nat} (run : (s.eng e).state = .run) (calm : s.flag (R.ENG_CTL_HALT e) = false) :
    s.boundary e = s := by
  rcases boundary_cases s e with stays | ⟨-, ⟨-, halt⟩ | halted⟩
  · exact stays
  · rw [calm] at halt
    cases halt
  · rw [run] at halted
    cases halted

/-- At the boundary of an engine of which no halt is asked, a write stays on its way, or it is the byte of frame memory that
a stepped engine has stored last. -/
theorem boundary_lands {s : State} {e : Nat} {w : Late} (here : e < s.engines.length)
    (calm : (s.eng e).state = .run → s.flag (R.ENG_CTL_HALT e) = false) (mem : w ∈ (s.eng e).late) :
    w ∈ ((s.boundary e).eng e).late ∨ ((s.eng e).state = .halted ∧ ∃ a, w.place = .frame a ∧ (Memory.wf s.fmem = true →
      ((s.eng e).late.filter Late.buffered).getLast? = some w → Memory.read (s.boundary e).fmem a = w.val)) := by
  rcases boundary_cases s e with stays | ⟨halts, ⟨run, halt⟩ | halted⟩
  · exact .inl (by rwa [stays])
  · rw [calm run] at halt
    cases halt
  · obtain ⟨r, -, late⟩ := eng_haltEng here
    rw [halts]
    cases place : w.place with
    | frame a =>
      refine .inr ⟨halted, a, rfl, fun wf last => ?_⟩
      exact read_leaveBuffers_last (s := s.setEng e _) wf last place
    | ram a => exact .inl (by simp [late, mem, Late.buffered, place])
    | port n => exact .inl (by simp [late, mem, Late.buffered, place])

end Sys2Proof.Machine

/-! ### What operands do

Forming an address, reading a source and storing a result change of their engine alone the writes on their way, the
entries of the write buffer, the snapshots and the time at which a pending Sloe operation completes. -/

namespace Sys2Proof.Machine

/-- Accesses to operands on an engine, which store to places of `stored`. -/
structure Engine.Works (g g' : Engine) (stored : Place → Prop) : Prop where
  eng : g' = { g with core := g'.core, late := g'.late, wbuf := g'.wbuf }
  core : g'.core = { g.core with cycSnap := g'.core.cycSnap, tbsSnap := g'.core.tbsSnap, sloe := g'.core.sloe }
  sloe : g.core.sloe = none → g'.core.sloe = none
  late : ∀ w ∈ g'.late, w ∈ g.late ∨ stored w.place ∧ w.due = g.core.slot + 3

theorem Engine.Works.refl (g : Engine) (stored : Place → Prop) : g.Works g stored :=
  ⟨rfl, rfl, id, fun _ hw => .inl hw⟩

theorem Engine.Works.trans {g h k : Engine} {stored : Place → Prop} (a : g.Works h stored) (b : h.Works k stored) :
    g.Works k stored := by
  obtain ⟨eng, core, sloe, late⟩ := a
  obtain ⟨eng', core', sloe', late'⟩ := b
  have slot : h.core.slot = g.core.slot := by rw [core]
  refine ⟨by rw [eng', eng], by rw [core', core], sloe' ∘ sloe, fun w hw => ?_⟩
  rcases late' w hw with old | new
  · exact late w old
  · exact .inr (slot ▸ new)

theorem Engine.Works.mono {g h : Engine} {stored stored' : Place → Prop} (a : g.Works h stored)
    (more : ∀ p, stored p → stored' p) : g.Works h stored' :=
  ⟨a.eng, a.core, a.sloe, fun w hw => (a.late w hw).imp_right fun ⟨p, due⟩ => ⟨more _ p, due⟩⟩

/-- The same for a run: of the block, engine e alone changes. -/
structure Run.Works (r r' : Run) (e : Nat) (stored : Place → Prop) : Prop where
  s : ∃ f, r'.s = r.s.setEng e f
  eng : (r.s.eng e).Works (r'.s.eng e) stored
  rep : r'.rep = r.rep

theorem Run.Works.of_s_eq {r r' : Run} (s : r'.s = r.s) (rep : r'.rep = r.rep) (e : Nat) (stored : Place → Prop) :
    r.Works r' e stored :=
  ⟨⟨id, s.trans (setEng_eq_self rfl).symm⟩, s ▸ .refl _ _, rep⟩

theorem Run.Works.refl (r : Run) (e : Nat) (stored : Place → Prop) : r.Works r e stored := .of_s_eq rfl rfl e stored

theorem Run.Works.of_setEng {r r' : Run} {e : Nat} {f : Engine → Engine} {stored : Place → Prop}
    (s : r'.s = r.s.setEng e f) (works : (r.s.eng e).Works (f (r.s.eng e)) stored) (rep : r'.rep = r.rep) :
    r.Works r' e stored := by
  refine ⟨⟨f, s⟩, ?_, rep⟩
  by_cases here : e < r.s.engines.length
  · rwa [s, eng_setEng here]
  · rw [s, eng_of_length_le (Nat.le_of_not_lt here), eng_of_length_le (by simpa using here)]
    exact .refl _ _

theorem Run.Works.trans {r r' r'' : Run} {e : Nat} {stored : Place → Prop} (a : r.Works r' e stored)
    (b : r'.Works r'' e stored) : r.Works r'' e stored := by
  obtain ⟨⟨f, s⟩, eng, rep⟩ := a
  obtain ⟨⟨f', s'⟩, eng', rep'⟩ := b
  exact ⟨⟨fun g => f' (f g), by rw [s', s, setEng_setEng]⟩, eng.trans eng', rep'.trans rep⟩

theorem Run.Works.mono {r r' : Run} {e : Nat} {stored stored' : Place → Prop} (a : r.Works r' e stored)
    (more : ∀ p, stored p → stored' p) : r.Works r' e stored' := ⟨a.s, a.eng.mono more, a.rep⟩

theorem Run.Works.length {r r' : Run} {e : Nat} {stored : Place → Prop} (h : r.Works r' e stored) :
    r'.s.engines.length = r.s.engines.length := by
  obtain ⟨f, s⟩ := h.s
  rw [s, length_engines_setEng]

theorem Run.Works.slot {r r' : Run} {e : Nat} {stored : Place → Prop} (h : r.Works r' e stored) :
    (r'.core e).slot = (r.core e).slot := by
  rw [Run.core, h.eng.core]
  rfl

theorem later_works (r : Run) (e : Nat) (p : Place) (v : Byte) :
    r.Works { r with s := r.s.later e 3 p v } e (· = p) := by
  refine .of_setEng rfl ⟨rfl, rfl, id, fun w hw => ?_⟩ rfl
  rcases Late.mem_place_.mp hw with rfl | old
  · exact .inr ⟨rfl, rfl⟩
  · exact .inl old

theorem setPtr_works (r : Run) (e nn v : Nat) :
    r.Works (r.setPtr e nn v) e fun p => p = .ram (nn % 256) ∨ p = .ram ((nn + 1) % 256) := by
  have low := (later_works r e (.ram (nn % 256)) (byteOf v)).mono fun p (hp : p = _) =>
    Or.inl (b := p = .ram ((nn + 1) % 256)) hp
  have high := (later_works { r with s := r.s.later e 3 (.ram (nn % 256)) (byteOf v) } e (.ram ((nn + 1) % 256))
    (byteOf (v / 256))).mono fun p (hp : p = _) => Or.inr (a := p = .ram (nn % 256)) hp
  exact low.trans ⟨high.s, high.eng, rfl⟩

/-- An operand of mode 4 or 5 updates its pointer; the other modes form their addresses alone. -/
theorem addr_works (r : Run) (e : Nat) (m : BitVec 4) (f : BitVec 16) : r.Works (r.addr e m f).2 e (pointerByte m f) := by
  have pointer : m.toNat = 4 ∨ m.toNat = 5 → ∀ v, r.Works (r.setPtr e (f.toNat % 256) v) e (pointerByte m f) := by
    refine fun hm v => (setPtr_works r e (f.toNat % 256) v).mono fun p hp => ⟨?_, ?_⟩
    · exact hm.imp (fun h => BitVec.eq_of_toNat_eq h) fun h => BitVec.eq_of_toNat_eq h
    · rwa [Nat.mod_mod] at hp
  unfold Run.addr
  dsimp only
  split
  next => exact .refl _ _ _
  next => exact .refl _ _ _
  next => exact .refl _ _ _
  next h => exact pointer (.inl h) _
  next h => exact pointer (.inr h) _
  next => exact .refl _ _ _
  next => exact .refl _ _ _
  next => exact .refl _ _ _

theorem causes_addr (r : Run) (e : Nat) (m : BitVec 4) (f : BitVec 16) : (r.addr e m f).2.causes = r.causes := by
  unfold Run.addr
  dsimp only
  split <;> rfl

theorem access_works (r : Run) (e n : Nat) (stored : Place → Prop) : r.Works (r.access e n) e stored :=
  .of_setEng rfl ⟨rfl, rfl, fun none => by simp [none], fun _ hw => .inl hw⟩ rfl

theorem data_works (r : Run) (e a : Nat) (stored : Place → Prop) : r.Works (r.data e a).2 e stored := by
  unfold Run.data
  dsimp only
  split
  · exact .of_s_eq (r := r) (r' := r.fail 0x10) rfl rfl e stored
  · unfold Run.cost
    split
    · exact .refl r e stored
    · exact access_works r e _ stored

theorem snapSpecial_works (r : Run) (e n : Nat) (stored : Place → Prop) :
    r.Works { r with s := r.s.snapSpecial e n } e stored := by
  unfold State.snapSpecial
  split
  · exact .of_setEng rfl ⟨rfl, rfl, id, fun _ hw => .inl hw⟩ rfl
  · split
    · exact .of_setEng rfl ⟨rfl, rfl, id, fun _ hw => .inl hw⟩ rfl
    · exact .refl r e stored

theorem source_works (r : Run) (e : Nat) (m : BitVec 4) (f : BitVec 16) : r.Works (r.source e m f).2 e (pointerByte m f) := by
  unfold Run.source
  split
  · exact .refl _ _ _
  · exact snapSpecial_works r e _ _
  · exact (addr_works r e m f).trans (data_works _ e _ _)

theorem buffered_works (r : Run) (e a : Nat) (stored : Place → Prop) : r.Works (r.buffered e a) e stored :=
  (access_works r e _ stored).trans (.of_setEng rfl ⟨rfl, rfl, id, fun _ hw => .inl hw⟩ rfl)

theorem late_buffered (r : Run) (e a : Nat) : ((r.buffered e a).s.eng e).late = (r.s.eng e).late := by
  unfold Run.buffered Run.access State.setCore
  dsimp only
  rw [setEng_setEng]
  by_cases here : e < r.s.engines.length
  · rw [eng_setEng here]
    rfl
  · rw [eng_of_length_le (Nat.le_of_not_lt here), eng_of_length_le (by simpa using here)]

/-- A byte that its place accepts is put on its way there, behind what becomes visible no later. -/
theorem store_works {r : Run} {e a : Nat} {p : Place} (here : e < r.s.engines.length)
    (place : (r.s.eng e).place a = some p) (accepts : (r.s.eng e).accepts p = true) (v : Byte) :
    r.Works (r.store e a v) e (· = p) ∧ (r.store e a v).causes = r.causes
      ∧ ((r.store e a v).s.eng e).late = Late.place_ ⟨(r.core e).slot + 3, p, v, false⟩ (r.s.eng e).late := by
  unfold Run.store
  rw [place]
  simp only [accepts, Bool.not_true, Bool.false_eq_true, if_false]
  cases p with
  | ram b => exact ⟨later_works r e _ v, rfl, congrArg Engine.late (eng_later here 3 _ v)⟩
  | port n => exact ⟨later_works r e _ v, rfl, congrArg Engine.late (eng_later here 3 _ v)⟩
  | frame b =>
    have buffers := buffered_works r e b (· = .frame b)
    refine ⟨buffers.trans (later_works _ e _ v), rfl, ?_⟩
    dsimp only
    rw [eng_later (buffers.length ▸ here), ← late_buffered r e b, ← buffers.slot]
    rfl

end Sys2Proof.Machine

/-! ### What a result does to the registers -/

namespace Sys2Proof.Machine

/-- The special registers that an instruction can write. -/
def Core.reg (c : Core) (n : Nat) : Byte :=
  match n with
  | 0 => c.fl
  | 1 => c.x
  | 2 => c.sp
  | 3 => c.rc
  | 4 => c.mh
  | _ => c.ml

theorem Core.reg_zero (c : Core) : c.reg 0 = c.fl := rfl

theorem special_eq_reg (s : State) (e : Nat) {n : Nat} (hn : n ≤ 5) : s.special e n = (s.eng e).core.reg n := by
  interval_cases n <;> rfl

theorem Core.reg_setSpecial (c : Core) {n : Nat} (hn : n ≤ 5) (v : Byte) :
    (c.setSpecial n v).reg n = if n = 0 then v &&& 0x7F else v := by
  interval_cases n <;> rfl

theorem Core.setSpecial_eq (c : Core) (n : Nat) (v : Byte) : ∃ fl x sp rc mh ml, c.setSpecial n v
    = { c with fl := fl, x := x, sp := sp, rc := rc, mh := mh, ml := ml } ∧ (n ≠ 0 → fl = c.fl) := by
  unfold Core.setSpecial
  split
  next => exact ⟨_, _, _, _, _, _, rfl, fun h => absurd rfl h⟩
  all_goals exact ⟨_, _, _, _, _, _, rfl, fun _ => rfl⟩

/-- A special register takes a byte, behind a plain product that becomes visible in the same slot (10 R268). -/
def Core.take (c : Core) (n : Nat) (v : Byte) : Core :=
  (if c.prods.any fun p => p.due ≤ c.slot + 1 && !p.mac then c.takeProducts (c.slot + 1) else c).setSpecial n v

theorem setSpecial_eq_take {r : Run} (rep : r.rep = false) (e n : Nat) (v : Byte) :
    r.setSpecial e n v = { r with s := r.s.setCore e fun c => c.take n v } := by
  unfold Run.setSpecial
  rw [rep]
  rfl

theorem Core.take_of_none_due {c : Core} (h : ∀ p ∈ c.prods, c.slot + 1 < p.due) (n : Nat) (v : Byte) :
    c.take n v = c.setSpecial n v := by
  unfold Core.take
  rw [Core.takeProducts_of_none_due h, ite_self]

theorem Core.reg_take (c : Core) {n : Nat} (hn : n ≤ 5) (v : Byte) :
    (c.take n v).reg n = if n = 0 then v &&& 0x7F else v := Core.reg_setSpecial _ hn v

/-- A register leaves the program counter, the slot and the delay slot alone; FL too, if it is another one. -/
theorem Core.take_rest (c : Core) (n : Nat) (v : Byte) : (c.take n v).pc = c.pc ∧ (c.take n v).slot = c.slot
    ∧ (c.take n v).delay = c.delay ∧ (n ≠ 0 → (c.take n v).fl = c.fl) := by
  unfold Core.take
  obtain ⟨mh, ml, products⟩ := Core.takeProducts_eq c (c.slot + 1)
  split
  · obtain ⟨fl, x, sp, rc, mh', ml', eq, other⟩ := Core.setSpecial_eq (c.takeProducts (c.slot + 1)) n v
    rw [eq, products]
    rw [products] at other
    exact ⟨rfl, rfl, rfl, other⟩
  · obtain ⟨fl, x, sp, rc, mh', ml', eq, other⟩ := Core.setSpecial_eq c n v
    rw [eq]
    exact ⟨rfl, rfl, rfl, other⟩

/-- No product is due behind a register where no MAC was to arrive. -/
theorem Core.none_due_take {c : Core} (mac : ∀ p ∈ c.prods, p.due ≤ c.slot + 1 → p.mac = false) (n : Nat) (v : Byte) :
    ∀ p ∈ (c.take n v).prods, c.slot + 1 < p.due := by
  intro p hp
  unfold Core.take at hp
  split at hp
  next =>
    obtain ⟨_, _, _, _, _, _, eq, -⟩ := Core.setSpecial_eq (c.takeProducts (c.slot + 1)) n v
    rw [eq] at hp
    exact of_decide_eq_true (List.mem_filter.mp hp).2
  next plain =>
    obtain ⟨_, _, _, _, _, _, eq, -⟩ := Core.setSpecial_eq c n v
    rw [eq] at hp
    by_contra due
    simp only [List.any_eq_true, Bool.and_eq_true, decide_eq_true_eq, not_exists, not_and] at plain
    have late := plain p hp (Nat.le_of_not_lt due)
    simp [mac p hp (Nat.le_of_not_lt due)] at late

/-- The registers behind a result: its flags, unless FL is the destination, and a special register that is the destination. -/
def Core.results (w : Enc) (x : Res) (c : Core) : Core :=
  let c := if toFl w then c else { c with fl := x.fl }
  if w.dm = 8 then c.take (w.d.toNat % 256) x.val else c

theorem toFl_of_memory {w : Enc} (hm : w.dm ≠ 8) : toFl w = false := by
  unfold toFl
  rw [decide_eq_false hm]
  rfl

theorem Core.results_of_memory {w : Enc} (hm : w.dm ≠ 8) (x : Res) (c : Core) : c.results w x = { c with fl := x.fl } := by
  unfold Core.results
  rw [toFl_of_memory hm, if_neg hm]
  rfl

theorem Core.results_rest (w : Enc) (x : Res) (c : Core) : (c.results w x).pc = c.pc ∧ (c.results w x).slot = c.slot
    ∧ (c.results w x).delay = c.delay := by
  unfold Core.results
  dsimp only
  split
  · obtain ⟨pc, slot, delay, -⟩ := Core.take_rest (if toFl w then c else { c with fl := x.fl }) (w.d.toNat % 256) x.val
    rw [pc, slot, delay]
    split <;> exact ⟨rfl, rfl, rfl⟩
  · split <;> exact ⟨rfl, rfl, rfl⟩

theorem Core.fl_results {w : Enc} (notFl : toFl w = false) (x : Res) (c : Core) : (c.results w x).fl = x.fl := by
  unfold Core.results
  simp only [notFl, Bool.false_eq_true, if_false]
  split
  next hm =>
    have other : w.d.toNat % 256 ≠ 0 := by simpa [toFl, hm] using notFl
    exact (Core.take_rest { c with fl := x.fl } _ x.val).2.2.2 other
  next => rfl

theorem Core.reg_results {w : Enc} (hm : w.dm = 8) (hn : w.d.toNat % 256 ≤ 5) (x : Res) (c : Core) :
    (c.results w x).reg (w.d.toNat % 256) = if w.d.toNat % 256 = 0 then x.val &&& 0x7F else x.val := by
  unfold Core.results
  rw [if_pos hm]
  exact Core.reg_take _ hn x.val

theorem Core.none_due_results {w : Enc} {c : Core} (hm : w.dm = 8) (mac : ∀ p ∈ c.prods, p.due ≤ c.slot + 1 → p.mac = false)
    (x : Res) : ∀ p ∈ (c.results w x).prods, c.slot + 1 < p.due := by
  unfold Core.results
  rw [if_pos hm]
  cases toFl w
  · exact Core.none_due_take (c := { c with fl := x.fl }) mac _ _
  · exact Core.none_due_take mac _ _

/-- Where no product is due, a result is its flags and its register. -/
theorem Core.results_of_none_due {c : Core} (h : ∀ p ∈ c.prods, c.slot + 1 < p.due) (w : Enc) (x : Res) : c.results w x
    = if w.dm = 8 then (if toFl w then c else { c with fl := x.fl }).setSpecial (w.d.toNat % 256) x.val
      else { c with fl := x.fl } := by
  by_cases hm : w.dm = 8
  · unfold Core.results
    rw [if_pos hm, if_pos hm]
    cases toFl w
    · exact Core.take_of_none_due (c := { c with fl := x.fl }) h _ _
    · exact Core.take_of_none_due h _ _
  · rw [Core.results_of_memory hm, if_neg hm]

/-! #### The destination -/

/-- What an engine reads at a place is a matter of its memory, frame memory and its pending Sloe operation. -/
theorem readPlace_congr {s t : State} {e : Nat} (ram : (t.eng e).ram = (s.eng e).ram)
    (hidden : (t.eng e).hidden = (s.eng e).hidden) (sloe : (t.eng e).core.sloe = (s.eng e).core.sloe)
    (fmem : t.fmem = s.fmem) (free : t.free = s.free) (p : Place) : t.readPlace e p = s.readPlace e p := by
  simp only [State.readPlace, State.seen, ram, hidden, sloe, fmem, free]

/-- A change of the registers but X and the pending Sloe operation does not change what an address is. -/
theorem addr_setCore {r : Run} {e : Nat} {f : Core → Core} (here : e < r.s.engines.length)
    (x : (f (r.core e)).x = (r.core e).x) (sloe : (f (r.core e)).sloe = (r.core e).sloe) (m : BitVec 4) (field : BitVec 16) :
    (({ r with s := r.s.setCore e f } : Run).addr e m field).1 = (r.addr e m field).1 := by
  have eng : (r.s.setCore e f).eng e = { r.s.eng e with core := f (r.core e) } := eng_setEng here _
  have read := readPlace_congr (t := r.s.setCore e f) (s := r.s) (e := e) (by rw [eng]) (by rw [eng])
    (by rw [eng]; exact sloe) rfl rfl
  have core : ({ r with s := r.s.setCore e f } : Run).core e = f (r.core e) := congrArg Engine.core eng
  unfold Run.addr Run.ptr Run.near
  simp only [core, read, x]
  split <;> rfl

/-- Where a destination in memory stores: its place, and the pointer that it updates. -/
def DestStored (r : Run) (e : Nat) (w : Enc) (p : Place) : Prop :=
  w.dm ≠ 8 ∧ ((r.s.eng e).place (r.addr e w.dm w.d).1 = some p ∨ pointerByte w.dm w.d p)

/-- The run with the registers that a result leaves. -/
def Run.resulted (r : Run) (e : Nat) (w : Enc) (x : Res) : Run := { r with s := r.s.setCore e (Core.results w x) }

theorem Run.core_resulted {r : Run} {e : Nat} (here : e < r.s.engines.length) (w : Enc) (x : Res) :
    (r.resulted e w x).core e = (r.core e).results w x := congrArg Engine.core (eng_setEng here _)

theorem result_special {r : Run} (rep : r.rep = false) {w : Enc} (hm : w.dm = 8) (e : Nat) (x : Res) :
    r.result e w x = r.resulted e w x := by
  unfold Run.result Run.dest Run.resulted
  dsimp only
  rw [if_pos hm]
  cases hfl : toFl w
  · rw [if_neg (by decide), setSpecial_eq_take (r := r.flags e x.fl) rep]
    refine congrArg (fun s => { r with s := s }) ((setEng_setEng r.s e _ _).trans (setEng_congr ?_))
    simp [Core.results, hfl, hm]
  · rw [if_pos rfl, setSpecial_eq_take rep]
    refine congrArg (fun s => { r with s := s }) (setEng_congr ?_)
    simp [Core.results, hfl, hm]

theorem result_memory {r : Run} {w : Enc} (hm : w.dm ≠ 8) (e : Nat) (x : Res) :
    r.result e w x = ((r.resulted e w x).addr e w.dm w.d).2.store e ((r.resulted e w x).addr e w.dm w.d).1 x.val := by
  have flags : r.resulted e w x = r.flags e x.fl :=
    congrArg (fun s => { r with s := s }) (setEng_congr (by rw [Core.results_of_memory hm]))
  unfold Run.result Run.dest
  simp only [toFl_of_memory hm, Bool.false_eq_true, if_false, if_neg hm, flags]

/-- The write that a result puts on its way to its place. -/
def Run.sent (r : Run) (e : Nat) (p : Place) (x : Res) : Late := ⟨(r.core e).slot + 3, p, x.val, false⟩

theorem Engine.Works.place {g g' : Engine} {stored : Place → Prop} (h : g.Works g' stored) (a : Nat) :
    g'.place a = g.place a := by
  rw [h.eng]
  rfl

theorem Engine.Works.accepts {g g' : Engine} {stored : Place → Prop} (h : g.Works g' stored) (p : Place) :
    g'.accepts p = g.accepts p := by
  obtain ⟨eng, core, -, -⟩ := h
  have depth : g'.core.depth = g.core.depth := by rw [core]
  rw [eng]
  unfold Engine.accepts Engine.inExt
  simp only [depth]

/-- Behind the registers of its result an instruction stores to its destination in memory, without a cause; the byte of
the result comes last of what becomes visible by then. -/
theorem result_stores {r : Run} {e : Nat} {w : Enc} {p : Place} (here : e < r.s.engines.length) (hm : w.dm ≠ 8)
    (place : (r.s.eng e).place (r.addr e w.dm w.d).1 = some p) (accepts : (r.s.eng e).accepts p = true) (x : Res) :
    (r.resulted e w x).Works (r.result e w x) e (DestStored r e w) ∧ (r.result e w x).causes = r.causes
      ∧ ∃ l, ((r.result e w x).s.eng e).late = (r.sent e p x).place_ l
        ∧ ((∀ y ∈ (r.s.eng e).late, y.due ≤ (r.core e).slot + 3) → ∀ y ∈ l, y.due ≤ (r.core e).slot + 3) := by
  have eng : (r.resulted e w x).s.eng e = { r.s.eng e with core := { r.core e with fl := x.fl } } := by
    rw [Run.resulted, State.setCore, eng_setEng here, Core.results_of_memory hm]
    rfl
  have addr : ((r.resulted e w x).addr e w.dm w.d).1 = (r.addr e w.dm w.d).1 :=
    addr_setCore here (by rw [Core.results_of_memory hm]) (by rw [Core.results_of_memory hm]) _ _
  have works := addr_works (r.resulted e w x) e w.dm w.d
  have stores := store_works (r := ((r.resulted e w x).addr e w.dm w.d).2) (a := (r.addr e w.dm w.d).1) (p := p)
    (by rw [works.length]; simpa [Run.resulted, State.setCore] using here)
    (by rw [works.eng.place, eng]; exact place) (by rw [works.eng.accepts, eng]; exact accepts) x.val
  obtain ⟨store, causes, late⟩ := stores
  rw [← addr, ← result_memory hm] at store causes late
  have slot : ((r.resulted e w x).core e).slot = (r.core e).slot := by rw [Run.core, eng]
  refine ⟨?works, causes.trans (causes_addr _ _ _ _), (((r.resulted e w x).addr e w.dm w.d).2.s.eng e).late, ?last, ?due⟩
  case works =>
    refine (works.mono fun q hq => ⟨hm, .inr hq⟩).trans (store.mono ?_)
    rintro q rfl
    exact ⟨hm, .inl place⟩
  case last => rw [late, works.slot, slot, Run.sent]
  case due =>
    intro early y hy
    rcases works.eng.late y hy with old | ⟨-, due⟩
    · rw [eng] at old
      exact early y old
    · exact (due.trans (congrArg (· + 3) slot)).le

end Sys2Proof.Machine

/-! ### An instruction that gives a result -/

namespace Sys2Proof.Machine

/-! #### The slot of an instruction and what comes behind it -/

theorem Core.nextPc_congr {c c' : Core} (pc : c'.pc = c.pc) (delay : c'.delay = c.delay) (len : Nat) :
    c'.nextPc len = c.nextPc len := by simp only [Core.nextPc, pc, delay]

/-- A register that no product reaches reads as before when slots have passed. -/
theorem Core.Passes.reg {c c' : Core} {slots : Nat} (h : c.Passes c' slots) {n : Nat} (hn : n ≤ 5)
    (product : n = 4 ∨ n = 5 → ∀ p ∈ c.prods, c.slot + slots < p.due) : c'.reg n = c.reg n := by
  obtain ⟨eq, untouched⟩ := h
  rcases Nat.lt_or_ge n 4 with low | high
  · rw [eq]
    interval_cases n <;> rfl
  · have arriving : n = 4 ∨ n = 5 := by omega
    obtain ⟨mh, ml⟩ := untouched (product arriving)
    rcases arriving with rfl | rfl
    · exact mh
    · exact ml

theorem issue_eq {s : State} {e : Nat} {sh : Shape} {w : Enc} {body : Run → Run} (h : s.Issues e) (ok : sh.check w = none)
    (slot : ((body (Run.start s e)).core e).slot = (s.eng e).core.slot) (causes : (body (Run.start s e)).causes = []) :
    s.issue e sh w body
      = (((body (Run.start s e)).s.pass e 1 (body (Run.start s e)).stall).follow e (sh.len w)).boundary e := by
  have started : ((Run.start s e).s.eng e).core.slot = (s.eng e).core.slot := by rw [eng_start h.here]
  have single : (Run.start s e).s.single e (sh.len w) body
      = ((body (Run.start s e)).s.pass e 1 (body (Run.start s e)).stall).follow e (sh.len w) :=
    single_of_no_cause (slot.trans started.symm) causes
  rw [issue_of_issues h ok, single]

/-- A slot passes, and the engine goes on at the next PC with the registers that it has. -/
theorem registers_behind {s : State} {e : Nat} (here : e < s.engines.length) (ret : (s.eng e).core.notReti)
    (stall len : Nat) :
    let c := ((((s.pass e 1 stall).follow e len).boundary e).eng e).core
    c.pc = (s.eng e).core.nextPc len ∧ c.slot = (s.eng e).core.slot + 1 ∧ c.delay = .none
      ∧ ∀ n ≤ 5, (n = 4 ∨ n = 5 → ∀ p ∈ (s.eng e).core.prods, (s.eng e).core.slot + 1 < p.due) →
        c.reg n = (s.eng e).core.reg n := by
  have passes := passes_pass here 1 stall
  have herePassed : e < (s.pass e 1 stall).engines.length := length_engines_pass s e 1 stall ▸ here
  have pc : ((s.pass e 1 stall).eng e).core.pc = (s.eng e).core.pc := by rw [passes.eq]
  have delay : ((s.pass e 1 stall).eng e).core.delay = (s.eng e).core.delay := by rw [passes.eq]
  obtain ⟨l, x, follow, -, -⟩ := follow_eq_setEng herePassed (by unfold Core.notReti; rw [delay]; exact ret) len
  obtain ⟨r, core⟩ := core_boundary (s := (s.pass e 1 stall).follow e len) (e := e)
    (by rw [length_engines_follow]; exact herePassed)
  rw [follow, eng_setEng herePassed] at core
  dsimp only
  rw [follow, core]
  refine ⟨Core.nextPc_congr pc delay len, ?_, rfl, fun n hn product => ?_⟩
  · dsimp only
    rw [passes.eq]
  · rw [← passes.reg hn product]
    interval_cases n <;> rfl

theorem getLast?_filter_of_pos {α : Type} {l : List α} {keep : α → Bool} {a : α} (last : l.getLast? = some a)
    (ha : keep a = true) : (l.filter keep).getLast? = some a := by
  obtain ⟨before, rfl⟩ := List.getLast?_eq_some_iff.mp last
  simp [List.filter_append, ha]

/-- A write that is not due in the slot stays on its way, or is the byte of frame memory that a stepped engine stored last. -/
theorem lands_behind {s : State} {e : Nat} {w : Late} (here : e < s.engines.length) (ret : (s.eng e).core.notReti)
    (calm : (s.eng e).state = .run → s.flag (R.ENG_CTL_HALT e) = false) (stall len : Nat) (mem : w ∈ (s.eng e).late)
    (due : (s.eng e).core.slot + 1 < w.due) :
    w ∈ ((((s.pass e 1 stall).follow e len).boundary e).eng e).late
      ∨ ((s.eng e).state = .halted ∧ ∃ a, w.place = .frame a ∧ (Memory.wf s.fmem = true →
        ((s.eng e).late.filter Late.buffered).getLast? = some w →
        Memory.read (((s.pass e 1 stall).follow e len).boundary e).fmem a = w.val)) := by
  have passes := passes_pass here 1 stall
  have herePassed : e < (s.pass e 1 stall).engines.length := length_engines_pass s e 1 stall ▸ here
  have delay : ((s.pass e 1 stall).eng e).core.delay = (s.eng e).core.delay := by rw [passes.eq]
  obtain ⟨-, regs, wf, -⟩ := arrives_pass s e 1 stall
  obtain ⟨keep, late, kept⟩ := late_pass here 1 stall
  obtain ⟨l, x, follow, more, same⟩ := follow_eq_setEng herePassed (by unfold Core.notReti; rw [delay]; exact ret) len
  have eng : ((s.pass e 1 stall).follow e len).eng e = _ := follow ▸ eng_setEng herePassed _
  have state : (((s.pass e 1 stall).follow e len).eng e).state = (s.eng e).state :=
    (congrArg Engine.state eng).trans (state_pass here 1 stall)
  have lateFollow : (((s.pass e 1 stall).follow e len).eng e).late = l := congrArg Engine.late eng
  have flag : ((s.pass e 1 stall).follow e len).flag (R.ENG_CTL_HALT e) = s.flag (R.ENG_CTL_HALT e) := by
    unfold State.flag
    rw [follow, get_setEng, get_congr regs, get_setEng]
  have stays : w ∈ l := more w (late ▸ List.mem_filter.mpr ⟨mem, kept w due⟩)
  rcases boundary_lands (s := (s.pass e 1 stall).follow e len) (e := e) (w := w)
    (by rw [length_engines_follow]; exact herePassed) (by rw [state, flag]; exact calm) (lateFollow ▸ stays) with
    there | ⟨halted, a, place, read⟩
  · exact .inl there
  · refine .inr ⟨state ▸ halted, a, place, fun wfs last => read ?_ ?_⟩
    · rw [follow]
      exact wf wfs
    · rw [lateFollow, same, late, List.filter_comm]
      exact getLast?_filter_of_pos last (kept w due)

/-- An engine behind an instruction of some length, on a slot on which nothing arrives. -/
def Engine.behind (g : Engine) (stall len : Nat) : Engine :=
  { g.elapse 1 stall with core := { (g.elapse 1 stall).core with pc := g.core.pc + BitVec.ofNat 16 len } }

theorem Core.rsv_ageRsv (c : Core) : c.ageRsv.rsv = c.rsv ∨ c.ageRsv.rsv = none := by
  unfold Core.ageRsv
  split
  · split
    · exact .inr rfl
    · exact .inl rfl
  · exact .inl rfl

theorem Engine.behind_core (g : Engine) (stall len : Nat) : ∃ cyc r, (g.behind stall len).core = { g.core with
    slot := g.core.slot + 1, pc := g.core.pc + BitVec.ofNat 16 len, cyc := cyc, rsv := r }
      ∧ (r = g.core.rsv ∨ r = none) := by
  obtain ⟨r, elapsed⟩ := g.elapse_core 1 stall
  have aged : r = (g.elapse 1 stall).core.rsv := by rw [elapsed]
  refine ⟨g.core.cyc + 1 + stall, r, ?_, aged ▸ Core.rsv_ageRsv (g.core.elapse 1 stall)⟩
  rw [Engine.behind, elapsed]
  rfl

/-- An engine on which nothing arrives, and of which no halt is asked, goes on behind its instruction. -/
theorem quiet_behind {s : State} {e : Nat} (here : e < s.engines.length) (quiet : (s.eng e).Quiet ((s.eng e).core.slot + 1))
    (delay : (s.eng e).core.delay = .none) (run : (s.eng e).state = .run) (calm : s.flag (R.ENG_CTL_HALT e) = false)
    (stall len : Nat) : ((s.pass e 1 stall).follow e len).boundary e = s.setEng e fun g => g.behind stall len := by
  rw [pass_of_quiet stall here quiet]
  have eng : (s.setEng e fun g => g.elapse 1 stall).eng e = (s.eng e).elapse 1 stall := eng_setEng here _
  obtain ⟨r, core⟩ := (s.eng e).elapse_core 1 stall
  have pc : ((s.eng e).elapse 1 stall).core.pc = (s.eng e).core.pc := by rw [core]; rfl
  rw [follow_of_no_delay (by rw [eng, core]; exact delay), State.setCore, setEng_setEng,
    setEng_congr (g := fun g => g.behind stall len) (by rw [Engine.behind, ← pc])]
  exact boundary_of_run (by rw [eng_setEng here]; exact run) calm

/-! #### The frame -/

/-- The frame of an instruction whose engine alone has changed. -/
theorem frame_of_setEng {s : State} {e : Nat} {g : Engine} {c : Core} {stored : Place → Prop} (here : e < s.engines.length)
    (eng : g = { s.eng e with
      core := g.core, late := g.late, wbuf := g.wbuf, busy := g.busy, stall := g.stall, pass := g.pass, brk := g.brk })
    (core : g.core = { c with
      cyc := g.core.cyc, cycSnap := g.core.cycSnap, tbsSnap := g.core.tbsSnap, rsv := g.core.rsv })
    (rsv : g.core.rsv = (s.eng e).core.rsv ∨ g.core.rsv = none)
    (late : ∀ l ∈ g.late, l ∈ (s.eng e).late ∨ stored l.place) :
    Frame s (s.finish (s.setEng e fun _ => g)) e c stored := by
  have own : (s.finish (s.setEng e fun _ => g)).eng e = g :=
    (eng_congr (finish_engines s _) e).trans (eng_setEng here _)
  refine ⟨rfl, fun k hk => ?_, ?_, ?_, ?_, ?_⟩
  · rw [eng_congr (finish_engines s _) k]
    simp [State.eng, State.setEng, upd_eq_modify, List.getD_eq_getElem?_getD, Ne.symm hk]
  · rw [own]
    exact eng
  · rw [own]
    exact core
  · rw [own]
    exact rsv
  · rw [own]
    exact late

end Sys2Proof.Machine

namespace Sys2Proof.Machine

/-! #### A result through its slot -/

/-- Behind the registers of its result an instruction does what a store does, and meets no cause. -/
theorem result_works {r : Run} {e : Nat} {w : Enc} (here : e < r.s.engines.length) (rep : r.rep = false)
    (dest : DestOk r e w.dm w.d) (x : Res) :
    (r.resulted e w x).Works (r.result e w x) e (DestStored r e w) ∧ (r.result e w x).causes = r.causes := by
  unfold DestOk at dest
  split at dest
  next hm =>
    rw [result_special rep hm]
    exact ⟨.refl _ _ _, rfl⟩
  next hm =>
    obtain ⟨p, place, accepts⟩ := dest
    obtain ⟨works, causes, -⟩ := result_stores here hm place accepts x
    exact ⟨works, causes⟩

/-- Accesses to operands leave the registers that an instruction can write, and where it stands. -/
theorem Engine.Works.registers {g g' : Engine} {stored : Place → Prop} (h : g.Works g' stored) :
    g'.core.pc = g.core.pc ∧ g'.core.slot = g.core.slot ∧ g'.core.delay = g.core.delay ∧ g'.core.prods = g.core.prods
      ∧ ∀ n, g'.core.reg n = g.core.reg n := by
  rw [h.core]
  exact ⟨rfl, rfl, rfl, rfl, fun n => rfl⟩

theorem core_start {s : State} {e : Nat} (here : e < s.engines.length) : ((Run.start s e).s.eng e).core = (s.eng e).core := by
  rw [eng_start here]

theorem Core.notReti_congr {c c' : Core} (delay : c'.delay = c.delay) (ret : c.notReti) : c'.notReti := by
  unfold Core.notReti
  rw [delay]
  exact ret

/-- What a result leaves of the registers, with nothing about to arrive, is what the statement lists. -/
theorem Core.results_after {c : Core} {w : Enc} (none_due : ∀ p ∈ c.prods, c.slot + 1 < p.due)
    (special : w.dm = 8 → w.d.toNat % 256 ≤ 5) (x : Res) (len cyc cs ts cs' ts' : Nat) (r : Option (Nat × Nat)) :
    { ({ c with cycSnap := cs, tbsSnap := ts } : Core).results w x with
      slot := c.slot + 1, pc := c.pc + BitVec.ofNat 16 len, cyc := cyc, cycSnap := cs', tbsSnap := ts', rsv := r }
    = { c.after len (({ c with cycSnap := cs, tbsSnap := ts } : Core).results w x).fl w x.val with
      cyc := cyc, cycSnap := cs', tbsSnap := ts', rsv := r } := by
  rw [Core.results_of_none_due (c := { c with cycSnap := cs, tbsSnap := ts }) none_due]
  unfold Core.after
  dsimp only
  by_cases hm : w.dm = 8
  · have register := special hm
    simp only [hm, if_true, toFl]
    generalize w.d.toNat % 256 = n at register
    interval_cases n <;> rfl
  · simp only [if_neg hm]

/-- Where no product is due, a result leaves what is pending and the reservation. -/
theorem Core.pending_results {c : Core} (none_due : ∀ p ∈ c.prods, c.slot + 1 < p.due) (w : Enc) (x : Res) :
    (c.results w x).sloe = c.sloe ∧ (c.results w x).quot = c.quot ∧ (c.results w x).prods = c.prods
      ∧ (c.results w x).rsv = c.rsv := by
  rw [Core.results_of_none_due none_due]
  split
  · obtain ⟨_, _, _, _, _, _, eq, -⟩ :=
      Core.setSpecial_eq (if toFl w then c else { c with fl := x.fl }) (w.d.toNat % 256) x.val
    rw [eq]
    split <;> exact ⟨rfl, rfl, rfl, rfl⟩
  · exact ⟨rfl, rfl, rfl, rfl⟩

/-- Accesses to operands on an engine without a pending Sloe operation change the snapshots alone of its registers. -/
theorem Engine.Works.snapshots {g g' : Engine} {stored : Place → Prop} (h : g.Works g' stored) (sloe : g.core.sloe = none) :
    g'.core = { g.core with cycSnap := g'.core.cycSnap, tbsSnap := g'.core.tbsSnap } := by
  have core := h.core
  rw [h.sloe sloe, ← sloe] at core
  exact core

theorem eng_finish (s t : State) (e : Nat) : (s.finish t).eng e = t.eng e := eng_congr (finish_engines s t) e

theorem lands_finish {r t : State} {e : Nat} {p : Place} {v : Byte} (h : Lands r t e p v) (s : State) :
    Lands r (s.finish t) e p v := by
  unfold Lands
  rwa [eng_finish, finish_fmem]

/-- The operands of an instruction of engine e are read, without a cause, and its destination can take a byte. -/
structure Run.Ready (b : Run) (s : State) (e : Nat) (w : Enc) : Prop where
  here : e < s.engines.length
  works : (Run.start s e).Works b e fun p => pointerByte w.am w.a p ∨ pointerByte w.bm w.b p
  causes : b.causes = []
  dest : DestOk b e w.dm w.d
  special : w.dm = 8 → w.d.toNat % 256 ≤ 5

section
variable {s : State} {e : Nat} {w : Enc} {b : Run}

theorem Run.Ready.hereRun (ready : b.Ready s e w) : e < b.s.engines.length := by
  rw [ready.works.length, Run.start, length_engines_setEng]
  exact ready.here

theorem Run.Ready.result_works (ready : b.Ready s e w) (x : Res) :
    (b.resulted e w x).Works (b.result e w x) e (DestStored b e w) ∧ (b.result e w x).causes = b.causes :=
  Machine.result_works ready.hereRun ready.works.rep ready.dest x

theorem Run.Ready.eng_resulted (ready : b.Ready s e w) (x : Res) :
    (b.resulted e w x).s.eng e = { b.s.eng e with core := (b.core e).results w x } := eng_setEng ready.hereRun _

/-- Its operands leave an instruction where it stands. -/
theorem Run.Ready.registers (ready : b.Ready s e w) : (b.core e).pc = (s.eng e).core.pc
    ∧ (b.core e).slot = (s.eng e).core.slot ∧ (b.core e).delay = (s.eng e).core.delay := by
  obtain ⟨pc, slot, delay, -, -⟩ := ready.works.eng.registers
  rw [core_start ready.here] at pc slot delay
  exact ⟨pc, slot, delay⟩

/-- The registers behind a result are those that it leaves of the ones before the instruction. -/
theorem registers_result (ready : b.Ready s e w) (x : Res) :
    let c := (b.result e w x).core e
    c.pc = (s.eng e).core.pc ∧ c.slot = (s.eng e).core.slot ∧ c.delay = (s.eng e).core.delay
      ∧ c.prods = ((b.core e).results w x).prods ∧ ∀ n, c.reg n = ((b.core e).results w x).reg n := by
  obtain ⟨pc, slot, delay⟩ := ready.registers
  obtain ⟨restPc, restSlot, restDelay⟩ := (b.core e).results_rest w x
  obtain ⟨pc', slot', delay', prods', reg'⟩ := (ready.result_works x).1.eng.registers
  rw [ready.eng_resulted] at pc' slot' delay' prods' reg'
  exact ⟨pc'.trans (restPc.trans pc), slot'.trans (restSlot.trans slot), delay'.trans (restDelay.trans delay), prods', reg'⟩

/-- No product is due behind a result in MH or ML. -/
theorem result_none_due (ready : b.Ready s e w) (hm : w.dm = 8) (x : Res)
    (product : w.d.toNat % 256 = 4 ∨ w.d.toNat % 256 = 5) :
    ∀ p ∈ ((b.result e w x).core e).prods, ((b.result e w x).core e).slot + 1 < p.due := by
  obtain ⟨-, slot, -, prods, -⟩ := registers_result ready x
  obtain ⟨-, slotB, -⟩ := ready.registers
  have mac := ready.dest
  unfold DestOk at mac
  rw [if_pos hm] at mac
  rw [prods, slot, ← slotB]
  exact Core.none_due_results hm (mac product) x

/-- Of the block, an instruction that gives a result changes its engine, and of it nothing but registers, what is on its
way, the write buffer, and that the engine has gone on. -/
theorem engine_result (ready : b.Ready s e w) (x : Res) :
    let g := (b.result e w x).s.eng e
    (b.result e w x).s = s.setEng e (fun _ => g)
      ∧ g = { s.eng e with core := g.core, late := g.late, wbuf := g.wbuf, pass := g.pass, brk := g.brk } := by
  have here := ready.here
  have result := (ready.result_works x).1
  obtain ⟨f, state⟩ := ready.works.s
  obtain ⟨f', state'⟩ := result.s
  refine ⟨?_, ?_⟩
  · rw [state', Run.resulted, State.setCore, state, Run.start, setEng_setEng, setEng_setEng, setEng_setEng, eng_setEng here]
    exact setEng_congr rfl
  · rw [result.eng.eng, ready.eng_resulted, ready.works.eng.eng, eng_start here]

theorem here_result (ready : b.Ready s e w) (x : Res) : e < (b.result e w x).s.engines.length := by
  rw [(engine_result ready x).1, length_engines_setEng]
  exact ready.here

/-- No halt is asked of an engine that issues and runs, behind its result either. -/
theorem calm_result (h : s.Issues e) (ready : b.Ready s e w) (x : Res)
    (run : ((b.result e w x).s.eng e).state = .run) : (b.result e w x).s.flag (R.ENG_CTL_HALT e) = false := by
  obtain ⟨state, eng⟩ := engine_result ready x
  have before : (s.eng e).state = .run := (congrArg Engine.state eng).symm.trans run
  rw [state, State.flag, get_setEng]
  exact (h.calm before).1

/-- The byte that a result sends to memory lands there. -/
theorem result_lands {p : Place} (h : s.Issues e) (ret : (s.eng e).core.notReti) (ready : b.Ready s e w) (hm : w.dm ≠ 8)
    (place : (b.s.eng e).place (b.addr e w.dm w.d).1 = some p) (x : Res) (stall len : Nat) :
    Lands b.s ((((b.result e w x).s.pass e 1 stall).follow e len).boundary e) e p x.val := by
  have accepts : (b.s.eng e).accepts p = true := by
    have dest := ready.dest
    unfold DestOk at dest
    rw [if_neg hm] at dest
    obtain ⟨p', place', accepts⟩ := dest
    rwa [Option.some.inj (place.symm.trans place')]
  obtain ⟨result, -, l, late, early⟩ := result_stores ready.hereRun hm place accepts x
  obtain ⟨-, slot, delay, -, -⟩ := registers_result ready x
  obtain ⟨-, slotB, -⟩ := ready.registers
  have sameState : ((b.result e w x).s.eng e).state = (b.s.eng e).state := by
    rw [result.eng.eng, ready.eng_resulted]
  have due : ((b.result e w x).s.eng e).core.slot + 1 < (b.sent e p x).due := by
    show ((b.result e w x).core e).slot + 1 < (b.core e).slot + 3
    rw [slot, slotB]
    omega
  have sent : b.sent e p x ∈ ((b.result e w x).s.eng e).late := by
    rw [late]
    exact Late.mem_place_.mpr (.inl rfl)
  rcases lands_behind (here_result ready x) (Core.notReti_congr delay ret) (calm_result h ready x) stall len sent due with
    there | ⟨halted, a, frame, read⟩
  · exact .inl there
  · refine .inr ⟨sameState ▸ halted, a, frame, fun wf before => read ?_ ?_⟩
    · obtain ⟨f, state⟩ := result.s
      rw [state]
      exact wf
    · have toFrame : p = .frame a := frame
      rw [late, Late.place_eq_append (early before), List.filter_append, toFrame]
      simp [Run.sent, Late.buffered]

/-- What is on its way behind a result was so before, or is a byte of the result or of a pointer, and not due in this slot. -/
theorem late_result (ready : b.Ready s e w) (x : Res) : ∀ l ∈ ((b.result e w x).s.eng e).late,
    l ∈ (s.eng e).late ∨ Stored b e true w l.place ∧ l.due = (s.eng e).core.slot + 3 := by
  have result := (ready.result_works x).1
  obtain ⟨-, slot, -, -, -⟩ := registers_result ready x
  intro l hl
  rcases result.eng.late l hl with old | ⟨⟨hm, stored⟩, due⟩
  · rw [ready.eng_resulted] at old
    rcases ready.works.eng.late l old with older | ⟨stored, due⟩
    · rw [eng_start ready.here] at older
      exact .inl older
    · rw [core_start ready.here] at due
      exact .inr ⟨.inr (stored.imp id .inl), due⟩
  · refine .inr ⟨?_, due.trans (congrArg (· + 3) (result.slot.symm.trans slot))⟩
    rcases stored with place | pointer
    · exact .inl ⟨rfl, hm, place⟩
    · exact .inr (.inr (.inr ⟨rfl, pointer⟩))

/-- With nothing about to arrive, the registers behind a result differ from those that it leaves in the snapshots alone. -/
theorem core_result_of_settled (ready : b.Ready s e w) (settled : s.Settled e) (x : Res) :
    ∃ cs ts cs' ts', (b.result e w x).core e = { ({ (s.eng e).core with cycSnap := cs, tbsSnap := ts } : Core).results w x with
      cycSnap := cs', tbsSnap := ts' } := by
  have before := ready.works.eng.snapshots (by rw [core_start ready.here]; exact settled.sloe)
  rw [core_start ready.here] at before
  have resulted : ((b.resulted e w x).s.eng e).core = (b.s.eng e).core.results w x := Run.core_resulted ready.hereRun w x
  rw [before] at resulted
  obtain ⟨sloe, -⟩ := Core.pending_results
    (c := { (s.eng e).core with cycSnap := (b.s.eng e).core.cycSnap, tbsSnap := (b.s.eng e).core.tbsSnap }) settled.prods w x
  have behind := (ready.result_works x).1.eng.snapshots (by rw [resulted, sloe]; exact settled.sloe)
  rw [resulted] at behind
  exact ⟨_, _, _, _, behind⟩

/-- With nothing about to arrive, nothing arrives behind a result. -/
theorem quiet_result (ready : b.Ready s e w) (settled : s.Settled e) (x : Res) :
    ((b.result e w x).s.eng e).Quiet ((s.eng e).core.slot + 1) := by
  obtain ⟨cs, ts, cs', ts', core⟩ := core_result_of_settled ready settled x
  obtain ⟨sloe, quot, prods, -⟩ := Core.pending_results (c := { (s.eng e).core with cycSnap := cs, tbsSnap := ts })
    settled.prods w x
  unfold Run.core at core
  constructor
  case prods => rw [core]; exact prods ▸ settled.prods
  case quot => rw [core]; exact quot ▸ settled.quot
  case sloe => rw [core]; exact sloe.trans settled.sloe
  case late =>
    intro l hl
    rcases late_result ready x l hl with old | ⟨-, due⟩
    · exact settled.late l old
    · omega
  case hidden =>
    rw [(engine_result ready x).2]
    exact settled.hidden

/-- The frame of an instruction that gives a result, on an engine on which nothing is about to arrive. -/
theorem result_frame (h : s.Issues e) (ready : b.Ready s e w) (settled : s.Settled e) (x : Res) (stall len : Nat) :
    let q := b.result e w x
    Frame s (s.finish (((q.s.pass e 1 stall).follow e len).boundary e)) e
      ((s.eng e).core.after len (q.core e).fl w x.val) (Stored b e true w) := by
  obtain ⟨state, eng⟩ := engine_result ready x
  obtain ⟨pc, slot, delay, -, -⟩ := registers_result ready x
  obtain ⟨cs, ts, cs', ts', core⟩ := core_result_of_settled ready settled x
  have quiet := quiet_result ready settled x
  rw [← slot] at quiet
  have run : ((b.result e w x).s.eng e).state = .run := by rw [eng]; exact settled.running
  have behind := quiet_behind (here_result ready x) quiet (delay.trans settled.delay) run (calm_result h ready x run) stall len
  have moved : (b.result e w x).s.setEng e (fun g => g.behind stall len)
      = s.setEng e fun _ => ((b.result e w x).s.eng e).behind stall len := by
    conv_lhs => rw [state]
    exact setEng_setEng s e _ _
  obtain ⟨cyc, r, moves, aged⟩ := ((b.result e w x).s.eng e).behind_core stall len
  dsimp only
  rw [behind, moved]
  refine frame_of_setEng h.here ?eng ?core ?rsv ?late
  case eng =>
    unfold Engine.behind Engine.elapse
    rw [eng]
  case core =>
    unfold Run.core at pc slot core ⊢
    rw [moves, pc, slot, core]
    exact Core.results_after (c := (s.eng e).core) settled.prods ready.special x len cyc cs ts cs' ts' r
  case rsv =>
    obtain ⟨-, -, -, kept⟩ := Core.pending_results (c := { (s.eng e).core with cycSnap := cs, tbsSnap := ts })
      settled.prods w x
    have own : ((b.result e w x).core e).rsv = (s.eng e).core.rsv := by
      rw [core]
      exact kept
    rw [moves]
    exact aged.imp_left (·.trans own)
  case late => exact fun l hl => (late_result ready x l hl).imp_right And.left

end

/-- An instruction that gives a result, behind its operands: it takes one slot, its destination takes the result, FL the
flags unless it is the destination, and nothing else changes. -/
theorem result_completes {i : Instr} {s : State} {e : Fin 32} {sh : Shape} {w : Enc} {body : Run → Run} {b : Run} {x : Res}
    (h : s.Issues e) (ret : (s.eng e).core.notReti) (ok : sh.check w = none)
    (meaning : exec i s = done s (s.issue e sh w body)) (run : body (Run.start s e) = b.result e w x)
    (ready : b.Ready s e w) : Completes i s fun t => Advances s t e (sh.len w) ∧ DestTakes b e w.dm w.d x.val t
      ∧ (toFl w = false → (t.eng e).core.fl = x.fl)
      ∧ (s.Settled e → Frame s t e ((s.eng e).core.after (sh.len w) (t.eng e).core.fl w x.val) (Stored b e true w)) := by
  obtain ⟨pc, slot, delay, -, reg⟩ := registers_result ready x
  have noCause : (b.result e w x).causes = [] := (ready.result_works x).2.trans ready.causes
  have issued := issue_eq h ok (body := body) (by rw [run]; exact slot) (by rw [run]; exact noCause)
  rw [run] at issued
  obtain ⟨pcBehind, slotBehind, delayBehind, regBehind⟩ :=
    registers_behind (here_result ready x) (Core.notReti_congr delay ret) (b.result e w x).stall (sh.len w)
  have flBehind := regBehind 0 (by decide) (by omega)
  rw [Core.reg_zero, Core.reg_zero] at flBehind
  refine completes_done meaning ?_
  rw [issued]
  refine ⟨⟨?pc, ?slot, ?delay⟩, ?takes, fun notFl => ?flags, fun settled => ?frame⟩
  case pc =>
    rw [eng_finish, pcBehind]
    exact Core.nextPc_congr pc delay _
  case slot =>
    rw [eng_finish, slotBehind]
    exact congrArg (· + 1) slot
  case delay => rw [eng_finish, delayBehind]
  case takes =>
    unfold DestTakes
    split
    next hm =>
      rw [special_eq_reg _ _ (ready.special hm), eng_finish, regBehind _ (ready.special hm) (result_none_due ready hm x)]
      exact (reg _).trans (Core.reg_results hm (ready.special hm) x _)
    next hm => exact fun p place => lands_finish (result_lands h ret ready hm place x _ _) s
  case flags =>
    rw [eng_finish]
    exact flBehind.trans ((reg 0).trans (Core.fl_results notFl x _))
  case frame =>
    rw [eng_finish, flBehind]
    exact result_frame h ready settled x (b.result e w x).stall (sh.len w)

end Sys2Proof.Machine

/-! ### The three-operand instructions (11 R296, R300) -/

namespace Sys2Proof.Machine

/-- An encoding without an error names as its destination none of the read-only special registers. -/
theorem special_of_check {sh : Shape} {w : Enc} (ok : sh.check w = none) (hm : w.dm = 8) : w.d.toNat % 256 ≤ 5 := by
  by_contra reserved
  have bad : badSpecial true w.dm.toNat w.d = true := by
    rw [hm]
    simpa [badSpecial] using reserved
  unfold Shape.check at ok
  simp only [bad, Bool.true_or, if_true] at ok
  split at ok
  · cases ok
  · split at ok
    · cases ok
    · split at ok <;> cases ok

/-- What an arithmetic instruction does in its slot, given what it computes. -/
theorem alu3_completes {i : Instr} {s : State} {e : Fin 32} {w : Enc} {f : Byte → Byte → Byte → Res} {x : Want}
    (h : s.Issues e) (ret : (s.eng e).core.notReti) (ok : (Shape.plain .d .s .s).check w = none)
    (meaning : exec i s = done s (s.alu3 e w f)) (a b : Byte × Run) (ha : (Run.start s e).source e w.am w.a = a)
    (hb : a.2.source e w.bm w.b = b) (causes : b.2.causes = []) (dest : DestOk b.2 e w.dm w.d)
    (meets : (f (s.eng e).core.fl a.1 b.1).Meets (s.eng e).core.fl x) : Completes i s fun t =>
      Advances s t e ((Shape.plain .d .s .s).len w) ∧ DestTakes b.2 e w.dm w.d x.val t
        ∧ (toFl w = false → FlagsBecome (s.eng e).core.fl (t.eng e).core.fl x)
        ∧ (s.Settled e → Frame s t e ((s.eng e).core.after ((Shape.plain .d .s .s).len w) (t.eng e).core.fl w x.val)
          (Stored b.2 e true w)) := by
  have works : (Run.start s e).Works b.2 e fun p => pointerByte w.am w.a p ∨ pointerByte w.bm w.b p := by
    rw [← hb, ← ha]
    exact ((source_works _ e w.am w.a).mono fun p => .inl).trans ((source_works _ e w.bm w.b).mono fun p => .inr)
  have fl : ((Run.start s e).core e).fl = (s.eng e).core.fl := congrArg Core.fl (core_start h.here)
  obtain ⟨t, next, advances, takes, flags, frame⟩ := result_completes (x := f (s.eng e).core.fl a.1 b.1) h ret ok meaning
    (by dsimp only; rw [fl, ha, hb]) ⟨h.here, works, causes, dest, special_of_check ok⟩
  rw [meets.val] at takes frame
  exact ⟨t, next, advances, takes, fun notFl => flags notFl ▸ meets.flags, frame⟩

/-- Settles O45: each row is the model's computation (`threeRows_compute`), and a computed result takes its slot as the
statement says (`alu3_completes`). -/
theorem threeOperandInstructions : Obligations.ThreeOperandInstructions := by
  unfold Obligations.ThreeOperandInstructions
  intro s e w h ret ok a b ha hb causes dest row hrow
  obtain ⟨f, meaning, meets⟩ := threeRows_compute row hrow
  exact alu3_completes h ret ok (meaning e w s) a b ha hb causes dest (meets _ _ _)

end Sys2Proof.Machine

/-! ### The control instructions (11 R302 to R304, 10 R269, R284) -/

namespace Sys2Proof.Machine

/-- A delay slot is open as a set of registers says, FL as it was, and with nothing about to arrive nothing else has changed. -/
def Opens (s t : State) (e : Nat) (c' : Core) : Prop :=
  (t.eng e).core.pc = c'.pc ∧ (t.eng e).core.slot = (s.eng e).core.slot + 1 ∧ (t.eng e).core.delay = c'.delay
    ∧ (t.eng e).core.fl = (s.eng e).core.fl ∧ (t.eng e).core.sp = c'.sp ∧ (t.eng e).core.x = c'.x
    ∧ (s.Settled e → Frame s t e c' fun _ => False)

/-- The registers with which a control instruction of some length opens its delay slot. -/
def Core.opening (c : Core) (len : Nat) (sp x : Byte) (d : Delay) : Core :=
  { c.onward len c.fl with sp := sp, x := x, delay := d }

/-- A run that has changed the registers of its engine. -/
def Run.withCore (r : Run) (e : Nat) (f : Core → Core) : Run := { r with s := r.s.setCore e f }

theorem issueFlow_of_issues {s : State} {e : Nat} {sh : Shape} {w : Enc} (h : s.Issues e)
    (delay : (s.eng e).core.delay = .none) (ok : sh.check w = none) (act : Run → BitVec 16 → Run × Delay) :
    let q := act (Run.start s e) ((s.eng e).core.pc + BitVec.ofNat 16 (sh.len w))
    s.issueFlow e sh w act = ((q.1.s.pass e 1 q.1.stall).setCore e fun c => { c with
      pc := (s.eng e).core.pc + BitVec.ofNat 16 (sh.len w), delay := q.2 }).boundary e := by
  unfold State.issueFlow
  rw [atBoundary_of_issues h]
  simp only [core_start h.here, h.alone, delay, ok, ne_eq, not_true_eq_false, if_false]
  rfl

/-- With nothing about to arrive, the slot of a control instruction changes its own registers alone. -/
theorem flow_frame {s : State} {e len : Nat} {sp x : Byte} {d : Delay} {q : State} (h : s.Issues e) (settled : s.Settled e)
    (run : q = s.setEng e fun g => { g with core := { (s.eng e).core with sp := sp, x := x }, pass := false, brk := false })
    (stall : Nat) :
    Frame s (s.finish (((q.pass e 1 stall).setCore e fun c => { c with
      pc := (s.eng e).core.pc + BitVec.ofNat 16 len, delay := d }).boundary e)) e ((s.eng e).core.opening len sp x d)
      fun _ => False := by
  have here : e < q.engines.length := by rw [run, length_engines_setEng]; exact h.here
  have eng : q.eng e = _ := run ▸ eng_setEng h.here _
  have quiet : (q.eng e).Quiet ((q.eng e).core.slot + 1) := by
    rw [eng]
    exact ⟨settled.prods, settled.quot, settled.sloe, settled.late, settled.hidden⟩
  have moved : (q.pass e 1 stall).setCore e (fun c => { c with
      pc := (s.eng e).core.pc + BitVec.ofNat 16 len, delay := d }) = s.setEng e fun _ => { (q.eng e).elapse 1 stall with
        core := { ((q.eng e).elapse 1 stall).core with pc := (s.eng e).core.pc + BitVec.ofNat 16 len, delay := d } } := by
    rw [pass_of_quiet stall here quiet, State.setCore, setEng_setEng, eng]
    conv_lhs => rw [run, setEng_setEng]
    exact setEng_congr rfl
  rw [moved, boundary_of_run (s := s.setEng e _) (by rw [eng_setEng h.here, eng]; exact settled.running)
    (h.calm settled.running).1]
  obtain ⟨r, elapsed⟩ := (q.eng e).elapse_core 1 stall
  refine frame_of_setEng h.here ?eng ?core ?rsv ?late
  case eng =>
    rw [eng]
    rfl
  case core =>
    dsimp only
    rw [elapsed, eng]
    rfl
  case rsv =>
    have aged := Core.rsv_ageRsv ((q.eng e).core.elapse 1 stall)
    rw [eng] at aged ⊢
    exact aged
  case late =>
    intro l hl
    rw [eng] at hl
    exact .inl hl

/-- A control instruction takes its slot and opens its delay slot. -/
theorem flow_completes {i : Instr} {s : State} {e : Fin 32} {sh : Shape} {w : Enc} {act : Run → BitVec 16 → Run × Delay}
    {f : Core → Core} {sp x : Byte} {d : Delay} {r : Run} (h : s.Issues e) (noDelay : (s.eng e).core.delay = .none)
    (ok : sh.check w = none) (meaning : exec i s = done s (s.issueFlow e sh w act))
    (acts : act (Run.start s e) ((s.eng e).core.pc + BitVec.ofNat 16 (sh.len w)) = (r, d))
    (run : r.s = (Run.start s e).s.setCore e f)
    (slot : (f (s.eng e).core).slot = (s.eng e).core.slot) (fl : (f (s.eng e).core).fl = (s.eng e).core.fl)
    (hsp : (f (s.eng e).core).sp = sp) (hx : (f (s.eng e).core).x = x)
    (only : (∀ p ∈ (s.eng e).core.prods, (s.eng e).core.slot + 1 < p.due) →
      f (s.eng e).core = { (s.eng e).core with sp := sp, x := x }) :
    Completes i s fun t => Opens s t e ((s.eng e).core.opening (sh.len w) sp x d) := by
  have started : r.s = s.setEng e fun g => { g with core := f (s.eng e).core, pass := false, brk := false } := by
    rw [run, State.setCore, Run.start, setEng_setEng]
    exact setEng_congr rfl
  have here : e.val < r.s.engines.length := by rw [started, length_engines_setEng]; exact h.here
  have eng : (r.s.eng e).core = f (s.eng e).core := by rw [started, eng_setEng h.here]
  have passes := passes_pass here 1 r.stall
  have herePassed : e.val < (r.s.pass e 1 r.stall).engines.length := length_engines_pass r.s e 1 r.stall ▸ here
  have issued := issueFlow_of_issues h noDelay ok act
  simp only [acts] at issued
  obtain ⟨rsv, core⟩ := core_boundary (s := (r.s.pass e 1 r.stall).setCore e fun c => { c with
      pc := (s.eng e).core.pc + BitVec.ofNat 16 (sh.len w), delay := d }) (e := e)
    ((length_engines_setEng _ _ _).symm ▸ herePassed)
  rw [State.setCore, eng_setEng herePassed, passes.eq, eng] at core
  refine completes_done meaning ?_
  rw [issued]
  unfold Opens
  rw [eng_finish, State.setCore, core]
  exact ⟨rfl, congrArg (· + 1) slot, rfl, fl, hsp, hx, fun settled =>
    flow_frame h settled (started.trans (by rw [only settled.prods])) r.stall⟩

/-! #### Targets, the stack, and the conditions -/

theorem readPlace_start {s : State} {e : Nat} (here : e < s.engines.length) (p : Place) :
    (Run.start s e).s.readPlace e p = s.readPlace e p :=
  readPlace_congr (s := s) (t := (Run.start s e).s) (e := e) (by rw [eng_start here]) (by rw [eng_start here])
    (by rw [eng_start here]) rfl rfl p

/-- The target of a control instruction is taken from what is visible at its issue. -/
theorem target_start {s : State} {e : Nat} (here : e < s.engines.length) (w : Enc) (len : Nat) :
    (Run.start s e).target e w ((s.eng e).core.pc + BitVec.ofNat 16 len) = s.targetOf e w len := by
  have near : ∀ n, (Run.start s e).near e n = s.readPlace e (.ram (n % 256)) := fun n => readPlace_start here _
  have mode0 : w.am.toNat = 0 ↔ w.am = 0 := ⟨fun h => BitVec.eq_of_toNat_eq h, fun h => congrArg BitVec.toNat h⟩
  have mode2 : w.am.toNat = 2 ↔ w.am = 2 := ⟨fun h => BitVec.eq_of_toNat_eq h, fun h => congrArg BitVec.toNat h⟩
  unfold Run.target State.targetOf
  split
  next m => rw [if_pos (mode0.mp m)]; rfl
  next m => rw [if_neg (by rw [mode2.mp m]; decide), if_pos (mode2.mp m)]
  next not0 not2 =>
    rw [if_neg (mt mode0.mpr not0), if_neg (mt mode2.mpr not2), Run.ptr, near, near, Nat.mod_mod]

theorem stack_start {s : State} {e : Nat} (here : e < s.engines.length) (k : Nat) :
    (Run.start s e).stack e k = s.readPlace e (.ram (((s.eng e).core.sp.toNat + k) % 256)) := by
  rw [Run.stack, readPlace_start here, Run.core, core_start here]

theorem not_or_bne (z n v : Bool) : (!(z || n != v)) = (!z && n == v) := by rw [Bool.not_or, bne, Bool.not_not]

/-- Each conditional branch is a branch of the model whose condition reads C, Z, N and V as its row says. -/
theorem branchRows_branch : ∀ row ∈ branchRows, ∃ cond : Byte → Bool,
    (∀ e w s, exec (row.1 e w) s = done s (s.branch e w cond))
      ∧ ∀ fl : Byte, cond fl = row.2 (fl.getLsbD 0) (fl.getLsbD 1) (fl.getLsbD 2) (fl.getLsbD 3) := by
  simp only [branchRows, List.forall_mem_cons]
  refine ⟨⟨_, fun _ _ _ => rfl, fun _ => rfl⟩, ⟨_, fun _ _ _ => rfl, fun _ => rfl⟩, ⟨_, fun _ _ _ => rfl, fun _ => rfl⟩,
    ⟨_, fun _ _ _ => rfl, fun _ => rfl⟩, ⟨_, fun _ _ _ => rfl, fun _ => rfl⟩, ⟨_, fun _ _ _ => rfl, fun _ => rfl⟩,
    ⟨_, fun _ _ _ => rfl, fun _ => rfl⟩, ⟨_, fun _ _ _ => rfl, fun _ => rfl⟩, ⟨_, fun _ _ _ => rfl, fun _ => rfl⟩,
    ⟨_, fun _ _ _ => rfl, fun _ => Bool.not_or _ _⟩, ⟨_, fun _ _ _ => rfl, fun _ => rfl⟩,
    ⟨_, fun _ _ _ => rfl, fun _ => rfl⟩, ⟨_, fun _ _ _ => rfl, fun _ => Bool.not_not _⟩,
    ⟨_, fun _ _ _ => rfl, fun _ => not_or_bne _ _ _⟩, ⟨_, fun _ _ _ => rfl, fun _ => rfl⟩, by simp⟩

theorem branch_completes {i : Instr} {s : State} {e : Fin 32} {w : Enc} {cond : Byte → Bool} (h : s.Issues e)
    (noDelay : (s.eng e).core.delay = .none) (ok : (Shape.flow .t).check w = none)
    (meaning : exec i s = done s (s.branch e w cond)) : Completes i s fun t =>
      Opens s t e ((s.eng e).core.opening ((Shape.flow .t).len w) (s.eng e).core.sp (s.eng e).core.x
        (.flow (if cond (s.eng e).core.fl = true then some (s.targetOf e w ((Shape.flow .t).len w)) else none) false)) := by
  refine flow_completes (f := id) (r := Run.start s e) h noDelay ok meaning ?acts (setEng_eq_self rfl).symm rfl rfl rfl rfl
    fun _ => rfl
  rw [target_start h.here, Run.core, core_start h.here]

theorem call_completes {s : State} {e : Fin 32} {w : Enc} (h : s.Issues e) (noDelay : (s.eng e).core.delay = .none)
    (ok : (Shape.flow .t).check w = none) : Completes (.isaCall e w) s fun t =>
      Opens s t e ((s.eng e).core.opening ((Shape.flow .t).len w) ((s.eng e).core.sp - 2) (s.eng e).core.x
        (.call (s.targetOf e w ((Shape.flow .t).len w)) (((s.eng e).core.sp.toNat + 255) % 256)
          (((s.eng e).core.sp.toNat + 254) % 256) ((s.eng e).core.slot + 3))) := by
  refine flow_completes (f := fun c => { c with sp := c.sp - 2 }) (r := (Run.start s e).withCore e fun c =>
    { c with sp := c.sp - 2 }) h noDelay ok rfl ?acts rfl rfl rfl rfl rfl fun _ => rfl
  rw [target_start h.here, Run.core, core_start h.here]
  rfl

/-- X takes a byte. -/
theorem Core.take_x (c : Core) (v : Byte) : ∃ mh ml ps, c.take 1 v = { c with x := v, mh := mh, ml := ml, prods := ps } := by
  obtain ⟨mh, ml, products⟩ := Core.takeProducts_eq c (c.slot + 1)
  unfold Core.take
  split
  · exact ⟨mh, ml, _, by rw [products]; rfl⟩
  · exact ⟨c.mh, c.ml, c.prods, rfl⟩

theorem dbx_completes {s : State} {e : Fin 32} {w : Enc} (h : s.Issues e) (noDelay : (s.eng e).core.delay = .none)
    (ok : (Shape.flow .t).check w = none) : Completes (.isaDbx e w) s fun t =>
      Opens s t e ((s.eng e).core.opening ((Shape.flow .t).len w) (s.eng e).core.sp ((s.eng e).core.x - 1)
        (.flow (if (s.eng e).core.x = 1 then none else some (s.targetOf e w ((Shape.flow .t).len w))) false)) := by
  have zero : (s.eng e).core.x - 1 = 0 ↔ (s.eng e).core.x = 1 := sub_eq_zero
  obtain ⟨mh, ml, ps, take⟩ := (s.eng e).core.take_x ((s.eng e).core.x - 1)
  refine flow_completes (f := fun c => c.take 1 ((s.eng e).core.x - 1)) (r := (Run.start s e).withCore e fun c =>
    c.take 1 ((s.eng e).core.x - 1)) h noDelay ok rfl ?acts rfl (by rw [take]) (by rw [take]) (by rw [take]) (by rw [take])
    fun none_due => Core.take_of_none_due none_due 1 _
  rw [target_start h.here, Run.core, core_start h.here]
  dsimp only
  rw [setSpecial_eq_take rfl]
  simp only [zero]
  rfl

/-- What RET and RETI pop goes by SP: the slot that they open, and SP behind their bytes. -/
theorem pop_completes {i : Instr} {s : State} {e : Fin 32} {w : Enc} {k : Nat} {d : Delay}
    {act : Run → BitVec 16 → Run × Delay} (h : s.Issues e) (noDelay : (s.eng e).core.delay = .none)
    (ok : (Shape.flow .none).check w = none) (meaning : exec i s = done s (s.issueFlow e (.flow .none) w act))
    (acts : ∀ a, act (Run.start s e) a = ((Run.start s e).unstack e k, d)) : Completes i s fun t =>
      Opens s t e ((s.eng e).core.opening 3 ((s.eng e).core.sp + BitVec.ofNat 8 k) (s.eng e).core.x d) := by
  have len : (Shape.flow .none).len w = 3 := by simp [Shape.len, Shape.flow, operandLen]
  rw [← len]
  exact flow_completes (f := fun c => { c with sp := c.sp + BitVec.ofNat 8 k }) (r := (Run.start s e).unstack e k) h
    noDelay ok meaning (acts _) rfl rfl rfl rfl rfl fun _ => rfl

/-- Settles O50: every control instruction is a slot that opens its delay slot (`flow_completes`), with the target, the
stack bytes and the condition that are visible at its issue. -/
theorem controlInstructions : Obligations.ControlInstructions := by
  unfold Obligations.ControlInstructions
  intro s e w h noDelay
  refine ⟨fun ok => ⟨fun row hrow => ?branch, call_completes h noDelay ok, dbx_completes h noDelay ok⟩,
    fun ok => ⟨?ret, ?reti⟩⟩
  case branch =>
    obtain ⟨cond, meaning, reads⟩ := branchRows_branch row hrow
    rw [← reads]
    exact branch_completes h noDelay ok (meaning e w s)
  case ret =>
    refine pop_completes h noDelay ok rfl fun a => ?_
    rw [stack_start h.here, stack_start h.here, eng_start h.here]
    rfl
  case reti =>
    refine pop_completes h noDelay ok rfl fun a => ?_
    rw [stack_start h.here, stack_start h.here, stack_start h.here, stack_start h.here]

end Sys2Proof.Machine

/-! ### Reads of the timebase (16 R422) -/

namespace Sys2Proof.Machine

/-- Only an engine keeps a snapshot of its own: of any other requester the read is the fabric's. -/
theorem readBy_of_not_engine {s : State} {req : Requester} (may : s.mayWrite req = true) (other : reqEngine req = false)
    (addr : Nat) : s.readBy req addr = (s.fabricRead addr).2 := by
  have reaches : (!s.mayWrite req || (reqEngine req && decide (addr < 0x100))) = false := by simp [may, other]
  unfold State.readBy
  rw [reaches]
  cases req with
  | engine e => cases other
  | power | collector | host | twoWire | link => rfl

/-- The pages that an engine reaches start at 0x100. -/
theorem readBy_engine {s : State} {e : Fin 32} {addr : Nat} (may : s.mayWrite (.engine e) = true) (ha : 0x100 ≤ addr) :
    s.readBy (.engine e) addr = (s.fabricRead addr).2.setEng e fun g =>
      { g with buf := { g.buf with snapAddr := addr, snap := (s.fabricRead addr).1 } } := by
  simp [State.readBy, may, Nat.not_lt.mpr ha]

/-- Whoever reads, the stored fields become what the fabric's read makes of them. -/
theorem get_readBy {s : State} {req : Requester} {addr : Nat} (may : s.mayWrite req = true) (ha : 0x100 ≤ addr) (f : Fld) :
    (s.readBy req addr).get f = (s.fabricRead addr).2.get f := by
  cases req with
  | engine e => rw [readBy_engine may ha, get_setEng]
  | power | collector | host | twoWire | link => rw [readBy_of_not_engine may rfl]

/-- What a read of TBLO does in the fabric is to latch the high part of TB. -/
theorem fabricRead_tblo (s : State) : (s.fabricRead 0x0220).2 = s.set R.CLOCK_TBHI (s.pow.tb / 2 ^ 32) := rfl

theorem readReg_tblo (s : State) : s.readReg 0x02 0x20 = s.pow.tb % 2 ^ 32 := rfl

/-- TBHI is the only field of its register. -/
theorem readReg_tbhi (s : State) : s.readReg 0x02 0x24 = s.get R.CLOCK_TBHI := by
  have fields : s.fieldsAt 0x02 0x24 = [R.CLOCK_TBHI] := rfl
  show s.readFields (s.fieldsAt 0x02 0x24) = _
  rw [fields]
  exact Nat.zero_or _

theorem onlyFields_set (s : State) (f : Fld) (v : Nat) : OnlyFields s (s.finish (s.set f v)) [f] :=
  ⟨⟨_, rfl⟩, fun _ hg => get_set_ne s v (mt List.mem_singleton.mpr hg)⟩

/-- Settles O18: for the stored fields the read is one write of TBHI (`get_readBy`, `fabricRead_tblo`), and the two words
are the remainder and the quotient of TB by 2^32. -/
theorem timebaseReadTakesSnapshot : Obligations.TimebaseReadTakesSnapshot := by
  unfold Obligations.TimebaseReadTakesSnapshot
  intro s req may
  have stored (f : Fld) : (s.readBy req 0x0220).get f = (s.set R.CLOCK_TBHI (s.pow.tb / 2 ^ 32)).get f :=
    get_readBy may (by decide) f
  have latched : (s.readBy req 0x0220).get R.CLOCK_TBHI = s.pow.tb / 0x100000000 % 0x10000 :=
    (stored _).trans (get_set_same _ _ _)
  refine completes_done rfl ⟨latched, ?words, fun f hf => (stored f).trans (get_set_ne _ _ hf), fun other => ?frame⟩
  case words =>
    rw [readReg_tblo, readReg_tbhi, get_finish, latched]
    exact (Nat.mod_mul (a := 0x100000000) (b := 0x10000)).symm
  case frame =>
    rw [readBy_of_not_engine may other, fabricRead_tblo]
    exact onlyFields_set _ _ _

end Sys2Proof.Machine
